-- ==== Sys2Proof/Word.lean ====
section
/-! DEFINITION. The word types of the block: 32-bit register words (R8), 64-bit command and inkwell words
(R120, R309), and the shape of a sparse table. -/
namespace Sys2Proof

/-- A 32-bit register value (R8). -/
abbrev Word := BitVec 32

/-- A 64-bit word: inkwell words (R120), command packets (R309), CDW words (R316). -/
abbrev DWord := BitVec 64

/-- A table of entries by number: numbers strictly rising, no entry equal to the table's reset value. -/
abbrev Table (α : Type) := List (Nat × α)

end Sys2Proof
end

