-- ==== Sys2Proof/Syntax.lean ====
section
/-! DEFINITION. The commands of the block: one constructor per row of spec/opcode_table.json, with the row's
operands. An operand is what comes from outside (a pin's new value, a message, a bus request, a measured
quantity) or the number of the part concerned. -/
namespace Sys2Proof

/-- The sources of a cold reset (R403, R423), in the order of their PWR_RST_CAUSE bits. -/
inductive ColdSrc | pokAon | pokCore | coldPin | testEn
  deriving DecidableEq, Repr

/-- The sources of a warm reset (R403). -/
inductive WarmSrc | warmPin | watchdog | esc
  deriving DecidableEq, Repr

/-- What a warm reset takes hold of after its assertion (R405). -/
inductive HoldPart | d3 | d5d6 | d2
  deriving DecidableEq, Repr

/-- Straps and tie-offs as they stand at the pins (R37). -/
structure StrapPins where
  tb : Fin 4
  boot : Fin 4
  blockNum : Fin 64
  nibGen : BitVec 32
  deriving DecidableEq, Repr

/-- The clocked boundaries and their clocks (R34). -/
inductive Boundary
  | fab | mb | nib (n : Fin 1024) | link (g : Fin 32) | tbRef | pts
  deriving DecidableEq, Repr

/-- One message write on an intake channel (R44): `addr` is K_MIc_ADDR, bits [41:2] of the aperture offset;
`data` holds the 16 dwords of K_MIc_DATA, dword 0 first. -/
structure MsgWrite where
  addr : BitVec 40
  len : BitVec 5
  fbe : BitVec 4
  lbe : BitVec 4
  data : List (BitVec 32)
  master : BitVec 22
  priv : Bool
  poison : Bool
  deriving DecidableEq, Repr

/-- A result of an event engine policy (R104): the placing of a pending event, read when its record showed the
given change count, or the oldest count on its way to a ligature group. -/
inductive EngineWork
  | place (eid : Fin 266240) (changes : Fin 65536)
  | count (g : Fin 65536)
  deriving DecidableEq, Repr

/-- An item of engine work, with the cluster that comes to choose its next item and the instances that have work waiting at it (R267):
no rule assigns work to clusters (assumption log 22). -/
structure ByCluster (α : Type) where
  cluster : Fin 16
  waiting : List (Fin 512)
  item : α
  deriving DecidableEq, Repr

/-- A target whose queues a repair has walked, and the levels at which the walk met a broken link (R160). -/
structure WalkedQueues where
  target : Fin 1536
  broken : List (Fin 64)
  deriving DecidableEq, Repr

/-- The lists a list repair can concern (R125, R148). -/
inductive ListName
  | level (t : Fin 1536) (p : Fin 64)
  | frozen (i : Fin 512)
  | dormant (t : Fin 1024) (i : Fin 512)
  | moderated (g : Fin 65536)
  | rate (i : Fin 512)
  | quota (i : Fin 512)
  deriving DecidableEq, Repr

/-- What upsets the ranker's copies before a decision (R159): nothing, a bit of the occupancy bitmap that turns over, or a
per-level counter that takes another value. -/
inductive RankUpset
  | none
  | bit (p : Fin 64)
  | counter (p : Fin 64) (v : Fin 524288)
  deriving DecidableEq, Repr

/-- The header fields of a received flit (R196). -/
structure FlitHead where
  lseq : Fin 256
  ack : Fin 256
  nak : Bool
  tgt : Fin 32
  pseq : Fin 256
  deriving DecidableEq, Repr

/-- What is wrong with a received flit (R58, R198). -/
inductive FlitFlaw | crc | badType | gap | noCredit
  deriving DecidableEq, Repr

/-- The sweeps and scans (R489). `rescan` is the scan that follows a domain reset of D5 (R417). -/
inductive SweepName
  | audit | rebuild | rescan | park | failsafe
  | taker (t : Fin 1536)
  | destroy (i : Fin 512) | drain (i : Fin 512) | stale (i : Fin 512) | freeze (i : Fin 512)
  | prepare (i : Fin 512)
  | repair (l : ListName)
  deriving DecidableEq, Repr

/-- What a read of an inkwell word finds (R128, R130). -/
inductive EccError | none | single | double
  deriving DecidableEq, Repr

/-- A read that checks a word of a bank (R128): the scrub of its next word, or the read of a word by another access. -/
inductive WordRead
  | scrub (err : EccError)
  | access (word : Fin 32768) (err : EccError)
  deriving DecidableEq, Repr

/-- The outcome of the power-up check (R442). -/
inductive CheckResult | pass | badBank (bank : Fin 64) | badStage (part : Fin 8) (unit : BitVec 12)
  deriving DecidableEq, Repr

/-- The wake sources (R433), as PWR_WAKE_STAT records them (R446). -/
inductive WakeSrc | latch | wakeLine | message | alarm | command | register | nib | engineWork
  deriving DecidableEq, Repr

/-- One management bus request (R48): `addr` is K_MB_ADDR, bits [25:2] of the byte address as presented. -/
structure BusReq where
  addr : BitVec 24
  size8 : Bool
  posted : Bool
  tag : BitVec 8
  master : BitVec 22
  priv : Bool
  data : BitVec 64
  deriving DecidableEq, Repr

/-- The commands. The queue number of an Uzon command names the queue whose packet is run. -/
inductive Instr
  /-- COLD_RESET_ASSERT (R403). -/
  | coldResetAssert (src : ColdSrc)
  /-- COLD_RESET_RELEASE (R409). -/
  | coldResetRelease (src : ColdSrc) (pins : StrapPins)
  /-- WARM_RESET_ASSERT (R405). -/
  | warmResetAssert (src : WarmSrc)
  /-- WARM_RESET_RELEASE (R410). -/
  | warmResetRelease (src : WarmSrc)
  /-- WARM_RESET_TAKE_HOLD (R405). -/
  | warmResetTakeHold (part : HoldPart)
  /-- INTAKE_DRAIN_COMPLETE (R47). -/
  | intakeDrainComplete
  /-- INTAKE_DRAIN_TIMEOUT (R47). -/
  | intakeDrainTimeout
  /-- K_ESC_CHANGE (R63). -/
  | kEscChange (v : Fin 4)
  /-- K_PWR_REQ_CHANGE (R68). -/
  | kPwrReqChange (v : Fin 8)
  /-- STRAP_CHANGE (R38). -/
  | strapChange (pins : StrapPins)
  /-- DOMAIN_RELEASE (R406). -/
  | domainRelease
  /-- INKWELL_INIT_COMPLETE (R408). -/
  | inkwellInitComplete
  /-- FIRMWARE_READY (R345). -/
  | firmwareReady
  /-- TIMEBASE_GOOD (R66). -/
  | timebaseGood (devPpm : Int)
  /-- OSC_CALIBRATION_COMPLETE (R66). -/
  | oscCalibrationComplete
  /-- TIMEBASE_FALLBACK (R20). -/
  | timebaseFallback
  /-- K_PTS_LOAD (R67). -/
  | kPtsLoad (v : DWord)
  /-- CLOCK_PRESENCE_RISE (R34). -/
  | clockPresenceRise (b : Boundary)
  /-- CLOCK_PRESENCE_FALL (R34). -/
  | clockPresenceFall (b : Boundary)
  /-- CLOCK_ABSENT (R34). -/
  | clockAbsent (b : Boundary)
  /-- LINE_EDGE (R40). -/
  | lineEdge (k : Fin 2048) (high : Bool)
  /-- LINE_HANDOFF (R79). -/
  | lineHandoff (k : Fin 2048)
  /-- WAKE_LINE_EDGE (R42). -/
  | wakeLineEdge (w : Fin 32)
  /-- SWITCH_ITEM (R83). -/
  | switchItem (id : Fin 512) (kind : Fin 4)
  /-- SWITCH_WAKE_DETECT (R439). -/
  | switchWakeDetect
  /-- MESSAGE_WRITE_TRANSFER (R45). -/
  | messageWriteTransfer (c : Fin 16) (m : MsgWrite)
  /-- MESSAGE_WRITE_JUDGE (R91). -/
  | messageWriteJudge (w : ByCluster (Fin 16))
  /-- ENGINE_RESULT_APPLY (R104). -/
  | engineResultApply (w : ByCluster EngineWork)
  /-- RANK_DECISION (R154). -/
  | rankDecision (t : Fin 1536) (upset : RankUpset)
  /-- QUEUE_REPAIR_COMPLETE (R160). -/
  | queueRepairComplete (t : WalkedQueues)
  /-- LIST_REPAIR_COMPLETE (R148). -/
  | listRepairComplete (l : ListName)
  /-- WITHDRAWAL_ANSWER (R111). -/
  | withdrawalAnswer (t : Fin 1536) (neverShown : Bool)
  /-- NIB_TAKE (R188). -/
  | nibTake (n : Fin 1024)
  /-- NIB_DONE (R191). -/
  | nibDone (n : Fin 1024) (eid : BitVec 20)
  /-- DONE_APPLY (R108). -/
  | doneApply (t : Fin 1536)
  /-- NIB_RUNLVL_CHANGE (R192). -/
  | nibRunlvlChange (n : Fin 1024) (v : BitVec 7)
  /-- NIB_IDLE_CHANGE (R193). -/
  | nibIdleChange (n : Fin 1024) (v : BitVec 2)
  /-- NIB_CLK_OK_FALL (R56). -/
  | nibClkOkFall (n : Fin 1024)
  /-- N2_TAKE (R201). -/
  | n2Take (g : Fin 32) (h : FlitHead) (eid : BitVec 20)
  /-- N2_DONE (R195). -/
  | n2Done (g : Fin 32) (h : FlitHead) (eid : BitVec 20)
  /-- N2_STATE_LEVEL (R201). -/
  | n2StateLevel (g : Fin 32) (h : FlitHead) (runlvl : BitVec 7) (idle : BitVec 2) (held : Bool) (heldPseq : Fin 256)
  /-- N2_STATE_WACK (R200). -/
  | n2StateWack (g : Fin 32) (h : FlitHead)
  /-- N2_STATE_LINK (R202). -/
  | n2StateLink (g : Fin 32) (h : FlitHead) (replayEnd : Bool)
  /-- N2_FLIT_BAD (R198). -/
  | n2FlitBad (g : Fin 32) (why : FlitFlaw)
  /-- N2_LINK_KEEPALIVE (R198). -/
  | n2LinkKeepalive (g : Fin 32)
  /-- N2_LINK_DOWN (R202). -/
  | n2LinkDown (g : Fin 32)
  /-- N2_LINK_UP (R202). -/
  | n2LinkUp (g : Fin 32)
  /-- N2_LINK_DOWN_TIMEOUT (R202). -/
  | n2LinkDownTimeout (g : Fin 32)
  /-- FAR_OFFER (R214). -/
  | farOffer (j : Fin 512)
  /-- FAR_CREDIT (R60). -/
  | farCredit (f : Fin 4)
  /-- FAR_WRITE_TRANSFER (R216). -/
  | farWriteTransfer (f : Fin 4)
  /-- STALL_TIMER_EXPIRY (R218). -/
  | stallTimerExpiry (j : ByCluster (Fin 512))
  /-- LIG_WINDOW_END (R239). -/
  | ligWindowEnd (g : Fin 65536)
  /-- LIG_BATCH_MEMBER_RELEASE (R242). -/
  | ligBatchMemberRelease (g : ByCluster (Fin 65536))
  /-- RATE_REFILL (R264). -/
  | rateRefill (i : Fin 512)
  /-- QUOTA_LIST_RELEASE (R268). -/
  | quotaListRelease (i : ByCluster (Fin 512))
  /-- FROZEN_LIST_RELEASE (R298). -/
  | frozenListRelease (i : ByCluster (Fin 512))
  /-- SWITCH_WORK_STEP (R262). -/
  | switchWorkStep (t : ByCluster (Fin 1024))
  /-- SWEEP_STEP (R489). -/
  | sweepStep (k : SweepName) (bank : Fin 64)
  /-- AUDIT_START (R136). -/
  | auditStart
  /-- AUDIT_COMPLETE (R135). -/
  | auditComplete
  /-- REBUILD_SCAN_COMPLETE (R149). -/
  | rebuildScanComplete
  /-- TAKER_SWEEP_COMPLETE (R166). -/
  | takerSweepComplete (t : Fin 1536)
  /-- DESTROY_SWEEP_COMPLETE (R257). -/
  | destroySweepComplete (i : Fin 512)
  /-- STALE_SWEEP_COMPLETE (R273). -/
  | staleSweepComplete (i : Fin 512)
  /-- INSTANCE_DRAIN_COMPLETE (R271). -/
  | instanceDrainComplete (i : Fin 512)
  /-- FREEZE_COMPLETE (R282). -/
  | freezeComplete (i : Fin 512)
  /-- PREPARE_SWEEP_COMPLETE (R285). -/
  | prepareSweepComplete (i : Fin 512)
  /-- SCRUB_TICK (R129). -/
  | scrubTick (bank : Fin 64) (err : WordRead)
  /-- WITNESS_WINDOW_END (R175). -/
  | witnessWindowEnd (revs : Fin 65536) (tempC : Int)
  /-- WALKER_PASS_END (R361). -/
  | walkerPassEnd
  /-- UNSEAL_WINDOW_EXPIRY (R364). -/
  | unsealWindowExpiry
  /-- QUIESCE_DRAIN_COMPLETE (R28). -/
  | quiesceDrainComplete
  /-- QUIESCE_TIMEOUT (R28). -/
  | quiesceTimeout
  /-- PARK_ENTRY_COMPLETE (R435). -/
  | parkEntryComplete
  /-- PARK_WAKE (R440). -/
  | parkWake (src : WakeSrc)
  /-- K_POK_CORE_RISE (R442). -/
  | kPokCoreRise
  /-- POWER_UP_CHECK_COMPLETE (R442). -/
  | powerUpCheckComplete (failure : CheckResult)
  /-- RUNG_ENTER (R432). -/
  | rungEnter
  /-- RUNG_WAKE (R433). -/
  | rungWake (src : WakeSrc)
  /-- RUNG_ALARM (R434). -/
  | rungAlarm
  /-- SOFTWARE_ALARM (R447). -/
  | softwareAlarm
  /-- RECORD_WRITE_START (R476); `supply` tells whether K_VDD_NV is in range (R33). -/
  | recordWriteStart (supply : Bool)
  /-- RECORD_WRITE_COMPLETE (R475). -/
  | recordWriteComplete
  /-- PATCH_PROGRAM_COMPLETE (R478). -/
  | patchProgramComplete
  /-- DATAPATH_CODE_ERROR (R18). -/
  | datapathCodeError (part : Fin 8) (unit : BitVec 12)
  /-- DUALRAIL_INCOMPLETE_TIMEOUT (R449). -/
  | dualrailIncompleteTimeout (part : Fin 8) (unit : BitVec 12)
  /-- BANK_PARITY_FAULT (R449). -/
  | bankParityFault (bank : Fin 64)
  /-- FAULT_RECORD_TRANSFER (R61). -/
  | faultRecordTransfer
  /-- LOCKSTEP_MISMATCH (R315). -/
  | lockstepMismatch (pair : Fin 4) (q : Fin 8)
  /-- LOCKSTEP_RESTART_COMPLETE (R451). -/
  | lockstepRestartComplete (pair : Fin 4) (pass : Bool)
  /-- EPOCH_DRAINED (R396). -/
  | epochDrained
  /-- DOMAIN_QUIESCE_IDLE (R416). -/
  | domainQuiesceIdle
  /-- DOMAIN_QUIESCE_EXPIRY (R416). -/
  | domainQuiesceExpiry
  /-- DOMAIN_RESET_RELEASE (R416). -/
  | domainResetRelease
  /-- HOT_WRITE_APPLY (R352). -/
  | hotWriteApply
  /-- REGISTER_WRITE (R357). -/
  | registerWrite (b : BusReq)
  /-- MASKED_WRITE (R353). -/
  | maskedWrite (b : BusReq)
  /-- SEQUENCE_WRITE (R355). -/
  | sequenceWrite (b : BusReq)
  /-- GLB_MODE_REQ_WRITE (R24). -/
  | glbModeReqWrite (b : BusReq)
  /-- LINE_CFG_WRITE (R80). -/
  | lineCfgWrite (b : BusReq)
  /-- UNSEAL_LIMIT_WRITE (R364). -/
  | unsealLimitWrite (b : BusReq)
  /-- LDG_SNAP_TAKE (R140). -/
  | ldgSnapTake (b : BusReq)
  /-- TGT_TAKE_WRITE (R205). -/
  | tgtTakeWrite (b : BusReq)
  /-- TGT_DONE_WRITE (R206). -/
  | tgtDoneWrite (b : BusReq)
  /-- TGT_RUNLVL_WRITE (R207). -/
  | tgtRunlvlWrite (b : BusReq)
  /-- TGT_RES_INST_WRITE (R275). -/
  | tgtResInstWrite (b : BusReq)
  /-- INST_DOORBELL_WRITE (R85). -/
  | instDoorbellWrite (b : BusReq)
  /-- TGT_OCC_LO_READ (R172). -/
  | tgtOccLoRead (b : BusReq)
  /-- TB_COUNT_LO_READ (R486). -/
  | tbCountLoRead (b : BusReq)
  /-- ACC_SLOT_LO_READ (R402). -/
  | accSlotLoRead (b : BusReq)
  /-- CQ_CMD_FIFO_WRITE (R308). -/
  | cqCmdFifoWrite (b : BusReq)
  /-- CQ_RPL_FIFO_READ (R304). -/
  | cqRplFifoRead (b : BusReq)
  /-- CQ_RESYNC (R306). -/
  | cqResync (b : BusReq)
  /-- CDW_WRITE (R316). -/
  | cdwWrite (b : BusReq)
  /-- CDW_READ (R318). -/
  | cdwRead (b : BusReq)
  /-- CDW_ABANDON_TIMEOUT (R319). -/
  | cdwAbandonTimeout
  /-- ECHO (R321). -/
  | echo (q : Fin 8)
  /-- QUERY_CAPS (R322). -/
  | queryCaps (q : Fin 8)
  /-- SRC_CONFIG (R323). -/
  | srcConfig (q : Fin 8)
  /-- SRC_READ (R324). -/
  | srcRead (q : Fin 8)
  /-- SRC_ENABLE (R118). -/
  | srcEnable (q : Fin 8)
  /-- SRC_DISABLE (R116). -/
  | srcDisable (q : Fin 8)
  /-- SRC_INJECT (R326). -/
  | srcInject (q : Fin 8)
  /-- MAP_DEVICE (R327). -/
  | mapDevice (q : Fin 8)
  /-- UNMAP_DEVICE (R328). -/
  | unmapDevice (q : Fin 8)
  /-- RELAY_CONFIG (R329). -/
  | relayConfig (q : Fin 8)
  /-- LIG_CONFIG (R330). -/
  | ligConfig (q : Fin 8)
  /-- LIG_FLUSH (R247). -/
  | ligFlush (q : Fin 8)
  /-- TGT_CONFIG (R332). -/
  | tgtConfig (q : Fin 8)
  /-- TGT_STATE (R165). -/
  | tgtState (q : Fin 8)
  /-- INST_CREATE (R255). -/
  | instCreate (q : Fin 8)
  /-- INST_SHARE (R269). -/
  | instShare (q : Fin 8)
  /-- INST_RESET (R273). -/
  | instReset (q : Fin 8)
  /-- INST_DESTROY (R257). -/
  | instDestroy (q : Fin 8)
  /-- HUSK_FREEZE (R281). -/
  | huskFreeze (q : Fin 8)
  /-- HUSK_SAVE (R285). -/
  | huskSave (q : Fin 8)
  /-- HUSK_RESTORE (R294). -/
  | huskRestore (q : Fin 8)
  /-- HUSK_THAW (R298). -/
  | huskThaw (q : Fin 8)
  /-- GATE_RULES (R394). -/
  | gateRules (q : Fin 8)
  /-- COMMIT (R363). -/
  | commit (q : Fin 8)
  /-- UNSEAL (R364). -/
  | unseal (q : Fin 8)
  /-- RUNG_SET (R339). -/
  | rungSet (q : Fin 8)
  /-- LEDGER_AUDIT (R340). -/
  | ledgerAudit (q : Fin 8)
  /-- RECORD_READ (R479). -/
  | recordRead (q : Fin 8)
  /-- RECORD_FLUSH (R476). -/
  | recordFlush (q : Fin 8)
  /-- DOMAIN_RESET (R416). -/
  | domainReset (q : Fin 8)
  /-- BULK_LOAD (R344). -/
  | bulkLoad (q : Fin 8)
  /-- BULK_READ (R343). -/
  | bulkRead (q : Fin 8)
  /-- REGISTER_READ (R391). -/
  | registerRead (b : BusReq)
  /-- RESET_DEFERRAL_END (R413). -/
  | resetDeferralEnd
  deriving DecidableEq, Repr

end Sys2Proof
end

