-- ==== Sys2Proof/Decode.lean ====
section
/-! DEFINITION. The reading of a command from a word. The rows of spec/opcode_table.json give no bits: a command
of this block arrives at its ports, not as an instruction word. -/
namespace Sys2Proof

/-- The command that a word spells by the table's bits. No row gives bits. -/
def decodeTableWord (_nbits _w : Nat) : Option Instr := none

end Sys2Proof
end

