-- ==== Sys2Proof/Config.lean ====
section
/-! DEFINITION. What the spec leaves open: the contents, as BULK_READ sees them, of inkwell words whose layout
no rule gives (R121: command engine scratch beyond the slots, ledger and histogram working copies), and what such a
word holds, and the words of a record copy that is blank or failed (R473). -/
namespace Sys2Proof

/-- A free 64-bit value: nothing constrains it. The argument is the counter `State.free`, so that each use is
fresh (assumption log 3). -/
opaque Config.freeWord : Nat → BitVec 64

/-- The ledger (512 for the block) and the counter that the ledger region's word at an inkwell address holds; none for a
word of another use. No rule gives that layout: nothing constrains it (assumption log 3). -/
opaque Config.ledgerAt : Nat → Option (Nat × Nat)

/-- The scratch word at an inkwell address holds part of the firmware patch: free, as above. -/
opaque Config.patchAt : Nat → Bool

/-- Word `k` of a copy of the lifetime record whose content no rule gives: a blank copy beyond word 0, and a copy whose
programming was cut. The arguments are the tick and the SEQ of the cut image (0 for none) and the copy (R473, R475): nothing
constrains it (assumption log 3). -/
opaque Config.arrayWord : Nat → Nat → Bool → Nat → BitVec 64

end Sys2Proof
end

