-- ==== Sys2Proof/Machine/State.lean ====
section
/-! DEFINITION. The state of the block as plain data: every register, table, queue, counter, mode and pin of
the spec, each with its reset value, and the queue of waiting commands. Fields of a structure are grouped by the
part of the block that holds them (R13). Large tables are sparse: an unlisted entry holds its reset value. -/
namespace Sys2Proof.Machine

/-- An instant (R7, R407): the ticks since power-up, the timebase, and whether the block counts time by the ring oscillator
from here. -/
structure Instant where
  now : Nat := 0
  tick : Nat := 0
  ring : Bool := true
  deriving DecidableEq, Repr

/-! ### Sources (R98, R123, R124) -/

/-- STATE (R98). -/
inductive SrcState | inactive | pending | active | activePending
  deriving DecidableEq, Repr

/-- PLACE (R98). -/
inductive Place | unplaced | queued | presented | withdrawing
  deriving DecidableEq, Repr

/-- WCAUSE (R98). -/
inductive WCause | preemption | hold | deassertion | disable | stale | reset
  deriving DecidableEq, Repr

/-- HELD (R98), one flag per reason. -/
structure Held where
  rate : Bool := false
  frozen : Bool := false
  dormant : Bool := false
  moderated : Bool := false
  quota : Bool := false
  deriving DecidableEq, Repr

/-- A source record with the pending stamp of its cell (R123, R124). `serving` is the target whose queue the
placed cell stands in (R161); `shownAt` is the target and PSEQ of the last presentation (R201); `carried` tells that a ligature
release carries the event, which RATE or QUOTA may hold on its way (R101, R242). -/
structure SrcRec where
  st : SrcState := .inactive
  en : Bool := false
  drain : Bool := false
  held : Held := {}
  place : Place := .unplaced
  wcause : WCause := .preemption
  originLevel : Bool := false
  level : Bool := false
  merged : Bool := false
  gen : Bool := false
  groupEn : Bool := false
  changes : Nat := 0
  taker : Nat := 0
  inst : Nat := 0
  target : Nat := 0
  payload : BitVec 32 := 0
  group : Nat := 0
  vector : Nat := 0
  prio : Nat := 0
  stamp : Nat := 0
  carried : Bool := false
  serving : Nat := 0
  shownAt : Option (Nat × Nat) := none
  deriving DecidableEq, Repr

/-- Who raised a pulse, for the refusal of R91, R86 and R226 and the epoch drain of R396; `gen` is the generation parity of a relay
record (R227), `write` the number of the message write that it belongs to. -/
structure PulseFrom where
  owner : Option Nat := none
  master : Nat := 0
  priv : Bool := false
  slot : Nat := 0x7FFF
  chan : Nat := 0
  relay : Bool := false
  gen : Bool := false
  epoch : Nat := 0
  write : Nat := 0
  deriving DecidableEq, Repr

/-- LINE_CFG (R76). -/
structure LineCfg where
  sense : Nat := 0
  pol : Bool := false
  clamped : Bool := false
  deriving DecidableEq, Repr

/-- The judgement of an access (R396): the epoch, and the number of the access among those judged (R399). -/
structure Judged where
  epoch : Nat
  num : Nat
  deriving DecidableEq, Repr

/-- A write of LINE_CFG (R76, R80): its data and the mask of the bits that it selects (R353), with its judgement (R396). -/
structure LineWrite where
  data : Nat
  mask : Nat
  by_ : Judged
  deriving DecidableEq, Repr

/-- An order at a home bank (R102, R105); `reg` tells a done that the front file gave (R206), `command` is the order of the command
that queue `q` runs, `word` the word `k` of the record that queue `q` loads for its deferred command `owner` (R344), and `returned` the return of the event presented at target `t` to PLACE queued (R56, R194, R202). The take captured
at target `t` and the oldest done of its holder stand in their port. -/
inductive Order
  | pulse (payload : BitVec 32) (stamp : Nat) (by_ : PulseFrom)
  | assertion (stamp : Nat)
  | deassertion
  | done (t : Nat) (reg : Bool)
  | lineCfg (w : LineWrite)
  | command (q : Nat)
  | word (owner q k : Nat) (w : BitVec 64)
  | returned (t : Nat)
  | take (t : Nat)
  | holder (t : Nat)
  deriving DecidableEq, Repr

/-! ### Translation (R88, R90) -/

/-- A translation entry (R90). -/
structure TransEntry where
  mid : Nat := 0
  valid : Bool := false
  deriving DecidableEq, Repr

/-- A page entry (R88). -/
structure PageEntry where
  tbase : Nat := 0
  tstride : Nat := 0
  fnM1 : Nat := 0
  host : Nat := 0
  reqBase : Nat := 0
  fmtMsi : Bool := false
  fmtKx2 : Bool := false
  fmtExt : Bool := false
  valid : Bool := false
  dtag : Nat := 0
  dtagEn : Bool := false
  relay : Bool := false
  deriving DecidableEq, Repr

/-! ### Ligature groups (R234, R241) -/

/-- A batch on its way (R241): the members still to release, in list order, the generation parity, and its pool cell, which it
may still wait for (R126). -/
structure Batch where
  members : List Nat
  gen : Bool
  cell : Option Nat
  deriving DecidableEq, Repr

/-- A group record (R234); `held` is the held list (HEAD, TAIL, LEN). START and CLOSED hold bits [30:0] of their
ticks (R235). `owed` is the cause of a release that waits for the repair of the list, or 0 (R148). -/
structure Group where
  thresh : Nat := 1
  timer : Nat := 1
  en : Bool := false
  drain : Bool := false
  bypTgt : Nat := 0
  inst : Nat := 0
  open_ : Bool := false
  count : Nat := 0
  start : Nat := 0
  held : List Nat := []
  closed : Nat := 0
  lastSize : Nat := 0
  lastCause : Nat := 0
  owed : Nat := 0
  batches : List Batch := []
  deriving DecidableEq, Repr

/-- A count, or a join that waits for a timer release, on its way to a group (R237 to R239). -/
structure LigCount where
  group : Nat
  eid : Nat
  stamp : Nat
  deriving DecidableEq, Repr

/-! ### Instances (R252, R284) -/

/-- PHASE (R284). -/
inductive Phase | thawed | freezing | frozen | restoring
  deriving DecidableEq, Repr

/-- An instance context: words 0 to 10 (R252, R284) and INST_STAT (R278). -/
structure Inst where
  created : Bool := false
  en : Bool := false
  drain : Bool := false
  frozen : Bool := false
  oldGen : Bool := false
  gen : Nat := 0
  weight : Nat := 1
  pageBase : Nat := 0
  pageCount : Nat := 0
  rate : Nat := 0
  burst : Nat := 65535
  refill : Nat := 128
  tokens : Nat := 65535
  newRate : Nat := 0
  newBurst : Nat := 65535
  newRefill : Nat := 128
  sharePend : Bool := false
  nextRefill : Nat := 128
  quota : Nat := 266240
  cellsPlaced : Nat := 0
  dormCount : Nat := 0
  dormFirst : Nat := 0
  rateList : List Nat := []
  quotaList : List Nat := []
  frozenList : List Nat := []
  phase : Phase := .thawed
  saving : Bool := false
  restored : Bool := false
  corrupt : Bool := false
  hseq : Nat := 0
  originBlock : Nat := 0
  originInst : Nat := 0
  huskOut : Nat := 0
  huskIn : Nat := 0
  thawing : Bool := false
  statRate : Bool := false
  statQuota : Bool := false
  statStale : Bool := false
  statShare : Bool := false
  statSeq : Nat := 0
  deriving DecidableEq, Repr

/-- The reset context of instance `i`: VI 0 exists, is enabled and owns every page entry (R252, R253). -/
def Inst.dflt (i : Nat) : Inst :=
  if i = 0 then { created := true, en := true, weight := 255, pageCount := 16384 } else {}

/-! ### Targets (R170, R184, R204 to R211, R230, R259, R260) -/

/-- Service states (R164). -/
inductive Svc | offline | online | draining | faulted
  deriving DecidableEq, Repr

/-- A guest table entry (R260) and its number; `dorm` is the dormant list of (target, instance). INST is 0 while VALID is 0, which leaves
SRCS as it was loaded (R344). -/
structure Guest where
  inst : Nat
  entry : Nat
  srcs : Nat
  dorm : List Nat := []
  deriving DecidableEq, Repr

/-- A payload capture (R208). -/
structure Capture where
  payload : BitVec 32 := 0
  eid : Nat := 0
  merged : Bool := false
  pseq : Nat := 0
  deriving DecidableEq, Repr

/-- A write formed by a far offer (R213, R214): as it goes out on the channel, with the AUTO that its take follows and the settings of
its stall timer (R212, R218). -/
structure FarWrite where
  eid : Nat
  level : Nat
  inst : Nat
  addr : BitVec 62
  len : Nat
  dw0 : BitVec 32
  dw1 : BitVec 32
  tc : Nat
  relay : Bool
  auto : Bool
  altMask : Nat
  retryMax : Nat
  stallLimit : Nat
  offered : Nat
  deriving DecidableEq, Repr

/-- Far settings and far state (R211, R230), with the retry cell of a running stall timer (R219). `cellWait` is the event
whose offer waits for that cell, by its EID and stamp (R126); `taking` is the AUTO of the write whose take is under way (R212, R216). -/
structure Far where
  msgAddr : BitVec 62 := 0
  form : Nat := 0
  msgData : BitVec 32 := 0
  chan : Nat := 0
  altMask : Nat := 1
  tc : Nat := 0
  auto : Bool := false
  retryMax : Nat := 0
  stallLimit : Nat := 0
  linkIdle : Nat := 0
  tries : Nat := 0
  atChan : Nat := 0
  ready : Option FarWrite := none
  wakeCand : Bool := false
  wakeSince : Nat := 0
  lastXfer : Nat := 0
  never : Bool := true
  inserv : Nat := 0
  retryDue : Option Nat := none
  retryPseq : Nat := 0
  retryGen : Bool := false
  retryCell : Nat := 0
  cellWait : Option (Nat × Nat) := none
  taking : Bool := false
  moveTo : Option (Nat × Nat) := none
  limit : Bool := false
  moves : Nat := 0
  seq : Nat := 0
  deriving DecidableEq, Repr

/-- Switch work of a virtual target (R262, R263) with its pool cell, which it may still wait for (R126). -/
structure SwitchWork where
  step : Nat
  inst : Nat
  gen : Bool
  cell : Option Nat
  deriving DecidableEq, Repr

/-- A presentation on its way to the outputs of a Nib-1 port (R54, R187). -/
structure Shown where
  vaddr : BitVec 50
  eid : Nat
  prio : Nat
  deriving DecidableEq, Repr

/-- A nib port (R53, R55, R188 to R194, R204, R209): its outputs, its sampled inputs, its done holder and
TGT_NIBSTAT. `due` is what the port drives after the cycle in which REQ is low (R54); `runIn` is the running level as
sampled (R192); `takeAfter` counts the dones of the holder that were sampled before the captured take (R72); `doneDue` tells that the oldest done
waits at its home bank for an open round (R102, R105). -/
structure Port where
  req : Bool := false
  vaddr : BitVec 50 := 0
  eid : Nat := 0
  prio : Nat := 0
  due : Option Shown := none
  taken : Bool := false
  takenCut : Bool := false
  takeAfter : Nat := 0
  dones : List Nat := []
  doneDue : Bool := false
  idle : Nat := 0
  runIn : Nat := 64
  runBad : Bool := false
  idleBad : Bool := false
  takenSeq : Nat := 0
  confirmed : Bool := false
  stat : Nat := 0
  statCount : Nat := 0
  statSeq : Nat := 0
  causeGone : Bool := false
  presFell : Bool := false
  cfgDue : Bool := false
  deriving DecidableEq, Repr

/-- A target context and the port or front-file state of the target. `pres` is the event whose PLACE is
presented or withdrawing here; `queues` holds the level queues, by level; `bits` and `counts` are the occupancy bitmap and
the per-level counters that the ranker keeps of them (R154, R159). -/
structure Tgt where
  svc : Svc := .offline
  onlineDefer : Bool := false
  sweep : Bool := false
  depEn : Bool := false
  deputy : Nat := 0
  fcause : Nat := 0
  wdrBusy : Bool := false
  vbase : Nat := 0
  vshift : Nat := 2
  path : Bool := false
  blotVa : BitVec 50 := 0
  pseq : Nat := 0
  runRpt : Nat := 64
  runEff : Nat := 64
  effEid : Option Nat := none
  held : Bool := false
  blot : Bool := false
  presLevel : Nat := 64
  pres : Option Nat := none
  spliceDue : Bool := false
  virt : Bool := false
  resInst : Nat := 0
  switching : Option SwitchWork := none
  guests : List Guest := []
  queues : Table (List Nat) := []
  bits : Nat := 0
  counts : Table Nat := []
  repair : Bool := false
  repairFresh : Bool := false
  occ : Nat := 0
  pay : Table Capture := []
  far : Far := {}
  port : Port := {}
  deriving DecidableEq, Repr

/-! ### Nib-2 links (R196 to R203) -/

/-- A flit sent by the block and not yet acknowledged (R196 to R198): LSEQ and the type, target, PSEQ and
payload bits [95:40]. -/
structure SentFlit where
  lseq : Nat
  kind : Nat
  tgt : Nat
  pseq : Nat
  payload : Nat
  cred : Nat
  nak : Bool
  ack : Nat
  deriving DecidableEq, Repr

/-- A link attachment (R57, R198 to R203). `sent` holds the flits handed to the transmit stage and not yet
acknowledged: the first 32 are on the link, the others wait. -/
structure Link where
  up : Bool := false
  open_ : Bool := false
  txNext : Nat := 0
  sent : List SentFlit := []
  rxNext : Nat := 0
  rxDiscard : Bool := false
  nakRun : Nat := 0
  nakIn : Nat := 0
  agentCredits : Nat := 0
  credOwed : Nat := 0
  lastSend : Nat := 0
  downSince : Nat := 0
  everUp : Bool := false
  resetDue : Bool := false
  awaitReplay : Bool := false
  deriving DecidableEq, Repr

/-! ### Channels (R44 to R47, R59, R60) -/

/-- An intake channel: its buffer, oldest first, the credits the switch holds by the block's count, and whether its oldest write
waits for a relay cell (R126, R226). `old` counts the oldest writes whose credits the last fall of K_MIc_OPEN voided (R45). -/
structure InChan where
  buf : List MsgWrite := []
  switchCredits : Nat := 0
  old : Nat := 0
  cellWait : Bool := false
  deriving DecidableEq, Repr

/-- A far channel: credits, the granted and transferred counts since it opened (R137), the deficit counters and
the instance whose visit runs (R215; where it starts: assumption log 22), and the stall time in ticks (R220). -/
structure FarChan where
  credits : Nat := 0
  granted : Nat := 0
  sentCount : Nat := 0
  deficit : Table Nat := []
  visit : Nat := 511
  stallTicks : Nat := 0
  deriving DecidableEq, Repr

/-- A relay cell in use (R227). -/
structure RelayCell where
  cell : Nat
  mid : Nat
  gen : Bool
  payload : BitVec 32
  origin : Nat
  epoch : Nat
  deriving DecidableEq, Repr

/-! ### Ledgers (R131 to R145) -/

/-- One ledger: nine 64-bit counters (R131). -/
structure Ledger where
  accepted : Nat := 0
  merged : Nat := 0
  delivered : Nat := 0
  withdrawn : Nat := 0
  dStale : Nat := 0
  dDisabled : Nat := 0
  dReset : Nat := 0
  outstanding : Nat := 0
  refused : Nat := 0
  deriving DecidableEq, Repr

/-- A running sweep or scan (R135, R489): records passed per bank, tallies of pending sources per instance and
what the sweep has found. -/
structure Sweep where
  name : SweepName
  pos : Table Nat := []
  tally : Table Nat := []
  found : List Nat := []
  ended : Nat := 0
  rebase : Bool := false
  deriving DecidableEq, Repr

/-- The LDG page and the audit machinery (R136 to R145, R233). -/
structure Ldg where
  inst : Table Ledger := []
  block : Ledger := {}
  selInst : Nat := 0
  selBlock : Bool := false
  snap : Ledger := {}
  mismatch : Bool := false
  creditMismatch : Bool := false
  rebased : Bool := false
  statSeq : Nat := 0
  first : Nat := 0
  count : Nat := 0
  relaySent : Nat := 0
  relayRecv : Nat := 0
  relayRefused : Nat := 0
  periodStart : Nat := 0
  periodKnown : Bool := false
  auditDue : Bool := false
  wanted : List (Nat × Bool) := []
  riding : List (Nat × Bool) := []
  badWords : List Nat := []
  deriving DecidableEq, Repr

/-! ### Ranker (R159, R175 to R182) -/

/-- The ranker's bound registers and comparison register. -/
structure Rank where
  boundNs : Nat := 100
  exceeded : Bool := false
  floor : Nat := 110
  period : Nat := 0
  revs : Nat := 0
  window : List Nat := []
  windowStart : Nat := 0
  published : Bool := false
  cmpTarget : Nat := 0
  cmpMismatch : Bool := false
  cmpCount : Nat := 0
  cmpSeq : Nat := 0
  deriving DecidableEq, Repr

/-! ### Commands (R302 to R319, R345) -/

/-- A packet being taken, or complete and waiting to run (R309). -/
structure Packet where
  hdr : BitVec 64
  words : List (BitVec 64) := []
  deriving DecidableEq, Repr

/-- A reply before it enters the reply FIFO (R311). -/
structure Reply where
  tag : Nat
  status : Nat
  opcode : Nat
  second : Bool
  result : List (BitVec 64)
  deriving DecidableEq, Repr

/-- A queue with its binding (R302 to R308). -/
structure CmdQueue where
  fifo : List (BitVec 64) := []
  rpl : List (BitVec 64) := []
  late : List Reply := []
  ovf : Bool := false
  proto : Bool := false
  discarding : Bool := false
  seq : Nat := 0
  cur : Option Packet := none
  cseq : Nat := 0
  bindMaster : Nat := 0
  bindMask : Nat := 0
  bindInst : Nat := 0
  bindValid : Bool := false
  deriving DecidableEq, Repr

/-- Reset binding: CQ0 is valid for any master (R303). -/
def CmdQueue.dflt (n : Nat) : CmdQueue := { bindValid := n == 0 }

/-- What a deferred command waits for (R313). `sources` lists the EIDs still to complete, with the numbers that
ended OK and BUSY (R325). -/
inductive Work
  | enableSources (waiting : List Nat) (cancelled : List Nat) (ok : Nat) (busy : Nat)
  | disableSources (waiting : List Nat) (ok : Nat)
  | groupEnable (g : Nat)
  | groupDisable (g : Nat)
  | targetOnline (t : Nat)
  | targetOffline (t : Nat)
  | instEnable (i : Nat)
  | instDisable (i : Nat)
  | instReset (i : Nat)
  | instDestroy (i : Nat)
  | freeze (i : Nat)
  | thawDiscard (i : Nat)
  | save (i : Nat)
  | restore (i : Nat)
  | audit
  | recordFlush
  | recordRead (copy : Nat)
  | domainReset
  | load
  | readOpen
  | fence (words : List (BitVec 64))
  | cancelled (kind : Nat) (obj : Nat)
  deriving DecidableEq, Repr

/-- Settings of one source as SRC_CONFIG gives them, after their clamps (R323). -/
structure SrcSet where
  target : Option Nat
  vector : Option Nat
  prio : Option Nat
  group : Option (Nat × Bool)
  inst : Option Nat
  deriving DecidableEq, Repr

/-- The order of a command at one source that it names (R119); SRC_CONFIG carries its clamps, each with its CLAMP_ID, the values
written and applied and the width (R358). -/
inductive SrcCmd
  | enable | disable | read | inject
  | config (c : SrcSet) (clamps : List (Nat × Nat × Nat × Nat))
  deriving DecidableEq, Repr

/-- A command whose orders some home bank has still to apply (R105, R119): the orders left, the sources that ended OK and
BUSY, those that drain, the words read, and the status of the orders so far. `id` is its number in the order of issue (R313), `stamp`
the tick of its issue (R105), and `late` counts the sources that deferred and have ended OK since (R325). -/
structure CmdPart where
  cmd : SrcCmd
  id : Nat
  stamp : Nat
  tag : Nat
  opcode : Nat
  clamped : Bool
  left : Nat
  ok : Nat := 0
  busy : Nat := 0
  late : Nat := 0
  deferring : List Nat := []
  cancelled : List Nat := []
  words : Table (BitVec 64 × BitVec 64) := []
  status : Nat := 0
  outcome : Nat := 0
  deriving DecidableEq, Repr

/-- A deferred command (R313): issue number, queue, tag, opcode, whether a field was clamped (R310). -/
structure Deferred where
  id : Nat
  q : Nat
  tag : Nat
  opcode : Nat
  clamped : Bool
  work : Work
  deriving DecidableEq, Repr

/-- A husk being saved (R285 to R293): words before the source entries still to read, EIDs still to read, the
latched rest of the entry being read, the running CRC and the trailer counts. -/
structure HuskOut where
  inst : Nat
  version : Nat
  move : Bool
  delta : Bool
  pre : List (BitVec 64)
  srcs : List Nat
  half : Option (Nat × BitVec 64)
  crc : BitVec 32
  carried : Nat
  active : Nat
  tail : Nat
  deriving DecidableEq, Repr

/-- A husk being restored (R294 to R297): the placement, the words received, the records that a delta's revert puts
back, and the status and result word of a restore that is being reverted. -/
structure HuskIn where
  inst : Nat
  delta : Bool
  pageBase : Nat
  transBase : Nat
  midDelta : Nat
  groupDelta : Nat
  words : List (BitVec 64)
  undo : List (Nat × SrcRec)
  failed : Option (Nat × Nat)
  deriving DecidableEq, Repr

/-- The transfer that owns the command data window (R316). -/
inductive Xfer
  | map (inst : Nat) (page : Nat) (next : Nat)
  | load (addr : Nat)
  | patch (words : List (BitVec 64)) (persist : Bool)
  | huskIn (h : HuskIn)
  | huskOut (h : HuskOut)
  | words (ws : List (BitVec 64))
  | bulk (addr : Nat)
  deriving DecidableEq, Repr

/-- The command data window (R316, R317). `buf` holds the words written that no bank has taken yet, at most 64 (R317, R318); `announce` is the TAG and OPCODE of
the reply that opens it; `atBank` tells that a word waits in its bank, `failed` is the status of a word that its bank has refused (R105, R344). -/
structure Cdw where
  q : Nat := 0
  open_ : Bool := false
  announce : Option (Nat × Nat) := none
  outward : Bool := false
  pos : Nat := 0
  left : Nat := 0
  buf : List (BitVec 64) := []
  atBank : Bool := false
  failed : Option Nat := none
  last : Nat := 0
  owner : Option Nat := none
  xfer : Option Xfer := none
  deriving DecidableEq, Repr

/-- A firmware patch (R345, R478): the words of its image, with what its header and its patch copy tell of it. -/
structure Patch where
  image : List (BitVec 64)
  ver : Nat
  crc : BitVec 32
  len : Nat
  pseq : Nat
  deriving DecidableEq, Repr

/-- The command engines (R302, R345, R346, R451). `parts` holds the commands that wait at home banks, by queue. `pairsRestarting` holds each pair that restarts with the detail bits of the
mismatch. -/
structure Cmd where
  queues : Table CmdQueue := []
  deferred : List Deferred := []
  nextId : Nat := 0
  cdw : Cdw := {}
  reverts : List HuskIn := []
  fwReady : Bool := false
  patch : Option Patch := none
  patchFail : Bool := false
  pairsDisabled : List Nat := []
  pairsRestarting : List (Nat × Nat) := []
  restarts : Nat := 0
  lastRestart : Table Nat := []
  gates : List (Nat × Nat × Nat × Nat) := []
  commitReply : Option (Nat × Nat × Bool) := none
  cutReplies : List (Nat × Reply) := []
  parts : Table (Option CmdPart) := []
  deriving DecidableEq, Repr

/-! ### Access checker (R382 to R402) -/

/-- Slots, regions, epochs, the precise record and the notice registers; `writes` numbers the accesses and message writes judged. -/
structure Acc where
  slots : Table (BitVec 64) := []
  regions : Table (BitVec 64) := []
  epoch : Nat := 0
  writes : Nat := 0
  violAddr : Nat := 0
  violKind : Nat := 0
  violWrite : Bool := false
  violHot : Bool := false
  violSize8 : Bool := false
  violValid : Bool := false
  violMore : Nat := 0
  violSeq : Nat := 0
  violMaster : Nat := 0
  violPriv : Bool := false
  violTag : Nat := 0
  violMatch : Nat := 0
  violRegion : Nat := 0
  violSlot : Nat := 0
  violCount : Nat := 0
  notePending : Bool := false
  noteNew : Nat := 0
  noteSeq : Nat := 0
  noteMaster : Nat := 0
  notePriv : Bool := false
  noteSpace : Bool := false
  noteReason : Nat := 0
  noteKind : Nat := 0
  noteSlot : Nat := 0
  noteChan : Nat := 0
  noteInst : Nat := 0
  noteCount : Nat := 0
  slotSel : Nat := 0
  slotCap : BitVec 64 := 0
  deriving DecidableEq, Repr

/-! ### Register port (R48 to R52, R352, R492) -/

/-- A response on the hot or the split response signals (R48, R49). -/
structure Resp where
  tag : Nat
  data : BitVec 64
  status : Nat
  deriving DecidableEq, Repr

/-- A write in the hot write queue (R352). -/
inductive HotWrite
  | take (t : Nat) (seq : Nat) (by_ : Judged)
  | done (t : Nat) (eid : Nat) (by_ : Judged)
  | runlvl (t : Nat) (v : Nat) (by_ : Judged)
  | resInst (t : Nat) (i : Nat) (by_ : Judged)
  | doorbell (i : Nat) (swev : Nat) (master : Nat) (priv : Bool) (by_ : Judged)
  deriving DecidableEq, Repr

/-- A doorbell in the software-event holder (R492). -/
structure Bell where
  inst : Nat
  swev : Nat
  master : Nat
  priv : Bool
  deriving DecidableEq, Repr

/-- The management bus port. `frontRun` and `frontRes` are the front file's values while a hot write waits
(R351). -/
structure Bus where
  hot : Option Resp := none
  split : Option Resp := none
  outstanding : List (Nat × Judged) := []
  hotq : List HotWrite := []
  bells : List Bell := []
  frontRun : Table (Option Nat) := []
  frontRes : Table (Option Nat) := []
  parkWord : Option (Nat × BitVec 64) := none
  deriving DecidableEq, Repr

/-! ### Configuration (R360 to R379) -/

/-- A line's latch and LINE_STAT (R40, R41, R77), and the present input. -/
structure Line where
  input : Bool := false
  latch : Bool := false
  overrun : Bool := false
  ovrCount : Nat := 0
  seq : Nat := 0
  deriving DecidableEq, Repr

/-- FLT_PRE settings of one promoting class with its window (R456, R468). -/
structure Pre where
  n : Nat := 16
  win : Nat := 16384
  open_ : Bool := false
  start : Nat := 0
  count : Nat := 0
  deriving DecidableEq, Repr

/-- A clamp log entry (R359). -/
structure ClampEntry where
  id : Nat
  wr : Nat
  ap : Nat
  info : Nat
  deriving DecidableEq, Repr

/-- The register configuration, the seal, the clamp log, and the walker with the words it has read and their CRC (R361). -/
structure Cfg where
  lineCfg : Table LineCfg := []
  auditPeriod : Nat := 0x14
  auditPeriodic : Bool := true
  auditCredit : Bool := true
  unsealLimit : Nat := 1000
  gap : Nat := 64
  quiesceLimit : Nat := 8
  hold : Nat := 10
  recPeriod : Nat := 41
  recPeriodic : Bool := true
  crc : BitVec 32 := 0
  ref : BitVec 32 := 0
  sealed_ : Bool := false
  timed : Bool := false
  refValid : Bool := false
  matched : Bool := false
  latchPend : Bool := false
  expired : Bool := false
  walked : Bool := false
  passes : Nat := 0
  unsealStart : Nat := 0
  violCount : Nat := 0
  violSeq : Nat := 0
  clampCount : Nat := 0
  clampLogged : Bool := false
  clampNew : Nat := 0
  clampSeq : Nat := 0
  clampLog : Table (Option ClampEntry) := []
  walkPos : Nat := 0
  walkCrc : Nat := 0xFFFFFFFF
  drainDrop : Nat := 0
  swsRedund : Nat := 0
  poolWait : Nat := 0
  deriving DecidableEq, Repr

/-! ### Faults (R452 to R468) -/

/-- A record on the fault port (R61). -/
structure FaultRec where
  cls : Nat
  sev : Nat
  info : Nat
  deriving DecidableEq, Repr

/-- A log entry (R467) with the end of its handling timer (R457). -/
structure FaultEntry where
  cls : Nat
  sev : Nat
  promoted : Bool
  info : Nat
  tick : Nat
  last : Nat
  merged : Nat
  timerEnd : Nat
  deriving DecidableEq, Repr

/-- The FLT page and the fault port queue. -/
structure Flt where
  corr : Bool := false
  cont : Bool := false
  cwr : Bool := false
  uncont : Bool := false
  new_ : Nat := 0
  seq : Nat := 0
  count : Nat := 0
  mergedCount : Nat := 0
  queue : List FaultRec := []
  qdrop : Nat := 0
  dropsOwed : Nat := 0
  escNotify : Nat := 0
  escRecovery : Nat := 0
  escWarm : Nat := 0
  log : Table (Option FaultEntry) := []
  pre : Table Pre := []
  runs : Table Nat := []
  deriving DecidableEq, Repr

/-! ### Lifetime record (R469 to R483) -/

/-- One temperature bin of the witness histogram (R471). -/
structure Wit where
  samples : Nat := 0
  revsSum : Nat := 0
  revsMin : Nat := 0xFFFF
  revsMax : Nat := 0
  deriving DecidableEq, Repr

/-- Counters and histograms of the record (R469 to R471). -/
structure RecData where
  ctr : Table Nat := []
  lat : Table Nat := []
  lig : Table Nat := []
  wake : Table Nat := []
  wit : Table Wit := []
  deriving DecidableEq, Repr

/-- A stored image (R472). -/
structure Image where
  seq : Nat
  writes : Nat
  tick : Nat
  data : RecData
  deriving DecidableEq, Repr

/-- The state of a copy (R473). A failed copy keeps the image that was being programmed, which tells its words apart. -/
inductive Copy
  | blank
  | failed (img : Image)
  | valid (img : Image)
  deriving DecidableEq, Repr

/-- The lifetime record: working copies, array copies, patch copies and the REC registers. `loaded` tells that the working copies hold
what was loaded from the array (R474); `flushCut` lists the deferred flushes that a warm reset has cut (R415). -/
structure Rec where
  work : RecData := {}
  loaded : Bool := false
  copyA : Copy := .blank
  copyB : Copy := .blank
  chosenB : Bool := false
  writing : Option (Bool × Image) := none
  writeStart : Nat := 0
  causeWaits : Bool := false
  parkWrite : Bool := false
  flushRun : List Nat := []
  flushWait : List Nat := []
  flushCut : List Nat := []
  readWait : List (Nat × Bool) := []
  cutPulse : Bool := false
  skipped : Bool := false
  cut : Bool := false
  none_ : Bool := false
  aValid : Bool := false
  bValid : Bool := false
  aBlank : Bool := false
  bBlank : Bool := false
  regSeq : Nat := 0
  regWritesA : Nat := 0
  regWritesB : Nat := 0
  statSeq : Nat := 0
  last : Nat := 0
  patchA : Option Patch := none
  patchB : Option Patch := none
  patchBusy : Option (Bool × Patch × Nat) := none
  patchWait : List Patch := []
  tempC : Int := 0
  tempBin : Nat := 0
  deriving DecidableEq, Repr

/-! ### Resets, modes, power, time -/

/-- The modes (R23). -/
inductive Mode
  | cold | ductus | rebuild | start | service | test | recovery | quiesce | warm | park | wake | failsafe
  deriving DecidableEq, Repr

/-- GLB_MODE and what R26, R461 and R28 hold; `alarmKept` is K_ALARM as it stood when a warm reset began (R71). -/
structure ModeSt where
  mode : Mode := .cold
  req : Nat := 15
  prior : Mode := .start
  heldEsc : Bool := false
  heldCwr : Bool := false
  heldUncont : Bool := false
  quiesceStart : Instant := {}
  quiesceTimedOut : Bool := false
  drained : Bool := false
  alarmKept : Bool := false
  deriving DecidableEq, Repr

/-- Straps as sampled (R37, R370). -/
structure Strap where
  tb : Nat := 0
  tbClamped : Bool := false
  boot : Nat := 0
  bootClamped : Bool := false
  blockNum : Nat := 0
  nibGen : BitVec 32 := 0
  changed : Bool := false
  deriving DecidableEq, Repr

/-- PWR_DOMRST and the domain reset in progress (R416, R426). `hand` lists the sources whose work items the engines had in hand at
the request of a reset of D5 (R417). -/
structure DomRst where
  domain : Nat := 0
  phase : Nat := 0
  timedOut : Bool := false
  seq : Nat := 0
  start : Instant := {}
  expired : Bool := false
  owner : Option Nat := none
  base : Nat := 0
  hand : List Nat := []
  deriving DecidableEq, Repr

/-- The reset sequencer (R403 to R427). `held` lists the domains held, `freedAt` the instant of each release; `portsKept` tells
that Nib-1 ports sample through the hold of D7 (R72), `pulseEnd` the end of the pulse that D1 waited out (R413),
`lateLines` the lines whose latches were set at the release of D6 and are still to be handed off (R406). -/
structure Rst where
  cold : List ColdSrc := [.pokAon]
  warm : List WarmSrc := []
  held : List Nat := [0, 1, 2, 3, 4, 5, 6, 7, 8]
  next : Nat := 0
  running : Bool := false
  coldReach : Bool := true
  ring : Bool := true
  waitInit : Bool := false
  waitPulse : Bool := false
  lastRelease : Instant := {}
  freedAt : Table Instant := []
  portsKept : Bool := false
  lateLines : List Nat := []
  needInit : Bool := true
  needCheck : Bool := false
  checking : Bool := false
  fromPark : Bool := false
  drainStart : Option Nat := none
  pulseEnd : Option Instant := none
  cause : Nat := 1
  causeLast : Nat := 1
  causeSeq : Nat := 1
  warmCount : Nat := 0
  domCount : Nat := 0
  qtoMode : Nat := 0
  qtoDomain : Nat := 0
  dom : DomRst := {}
  deriving DecidableEq, Repr

/-- The timebase (R19 to R21, R66, R67, R485 to R488). -/
structure Tb where
  count : Nat := 0
  good : Bool := false
  source : Nat := 0
  fallback : Bool := false
  reject : Bool := false
  rejects : Nat := 0
  loaded : Bool := false
  seq : Nat := 0
  devPpm : Int := 0
  valid : Bool := false
  calibrated : Bool := false
  rej : Nat := 0
  cap : Nat := 0
  d0Release : Instant := {}
  lostAt : Nat := 0
  deriving DecidableEq, Repr

/-- The power rungs and the PWR page (R430 to R447). `parkRung` is the rung that the running park entry leads to (R435),
`ringPeriod` is P in femtoseconds (R438); `wakeDue` is a wake source that came during the park entry (R433). -/
structure Pwr where
  pin : Nat := 0
  sw : Nat := 0
  ack : Nat := 0
  confirm : Bool := false
  rung : Nat := 0
  excursion : Bool := false
  parking : Bool := false
  parkRung : Nat := 4
  coreEn : Bool := true
  pokCore : Bool := true
  wakeBits : Nat := 0
  wakeCount : Nat := 0
  wakeSeq : Nat := 0
  wakeLines : Nat := 0
  parkDrop : Nat := 0
  alarm : Nat := 0
  alarmEn : Bool := false
  alarmFired : Bool := false
  lossPend : Nat := 0
  lossActive : Nat := 0
  lossInst : Nat := 0
  resync : Nat := 0
  asleep : Nat := 0
  ringPeriod : Nat := 0
  stopped : Bool := false
  wakeDue : Option WakeSrc := none
  nack : Bool := false
  deriving DecidableEq, Repr

/-- The pins not held elsewhere (R31 to R40, R63), with the last rise of each presence signal. -/
structure Pins where
  straps : StrapPins := ⟨0, 0, 0, 0⟩
  esc : Nat := 0
  fabOk : Bool := false
  mbOk : Bool := false
  tbRefOk : Bool := false
  ptsGood : Bool := false
  nibOk : Table Bool := []
  absent : List Boundary := []
  roseAt : List (Boundary × Instant) := []
  deriving DecidableEq, Repr

/-- The choice of work of an event engine cluster (R267): its deficit counters and the instance whose visit runs. -/
structure Cluster where
  deficit : Table Nat := []
  visit : Nat := 511
  deriving DecidableEq, Repr

/-- The whole block. `now` counts ticks since power-up; `free` picks the next free value; `pending` is the queue
of waiting commands. `lost` is none while every source cell is in place; after an exit from rung 3 it lists the
source cells that have been restored since (R428). `scrub` is the next word that each bank scrubs, `scrubbed` the tick after
its last scrub (R129). `waiting` holds orders that wait at their ports while their bank opens only restricted rounds (R105).
`poolTop` and `relayTop` are the first pool cells never used, of the general ones and of those kept for relays (R126). -/
structure State where
  pending : List Instr := []
  now : Nat := 0
  free : Nat := 0
  pins : Pins := {}
  strap : Strap := {}
  mode : ModeSt := {}
  rst : Rst := {}
  tb : Tb := {}
  pwr : Pwr := {}
  cfg : Cfg := {}
  lines : Table Line := []
  src : Table SrcRec := []
  lost : Option (List Nat) := none
  scrub : Table Nat := []
  scrubbed : Table Nat := []
  parked : List (Nat × Order) := []
  waiting : List (Nat × Order) := []
  house : List Nat := []
  trans : Table TransEntry := []
  pages : Table PageEntry := []
  groups : Table Group := []
  counts : List LigCount := []
  insts : Table Inst := []
  tgts : Table Tgt := []
  links : Table Link := []
  inch : Table InChan := []
  relays : List RelayCell := []
  poolTop : Nat := 266240
  relayTop : Nat := 523264
  farch : Table FarChan := []
  ldg : Ldg := {}
  sweeps : List Sweep := []
  clusters : Table Cluster := []
  rank : Rank := {}
  cmd : Cmd := {}
  acc : Acc := {}
  bus : Bus := {}
  flt : Flt := {}
  rcd : Rec := {}
  deriving DecidableEq, Repr

/-- Why the block's model stops: the one reason is a command that names no input the block has. Raised by
`exec` on a command that is not well formed; safe, because no such command can reach the hardware. -/
inductive Fault
  | illFormed
  deriving DecidableEq, Repr

/-- A command without a meaning in this model, by its row's mnemonic. No arm raises it. Safe. -/
inductive Refusal
  | notModelled (mnemonic : String)
  deriving DecidableEq, Repr

/-- The block right after power-on, with a cold reset asserted: mode COLD, every domain held (R25, R424), every
register and table entry at the reset value its rule gives (assumption log 1). -/
def State.reset : State := {}

end Sys2Proof.Machine
end

