-- ==== Sys2Proof/Machine/Bits.lean ====
section
/-! DEFINITION. Bit fields, sparse tables, list helpers, saturating and wrapping counts, and CRC-32C. -/
namespace Sys2Proof.Machine

/-! ### Bit fields -/

/-- Field of `len` bits from bit `lo` of a number. -/
def nfld (w lo len : Nat) : Nat := (w >>> lo) % 2 ^ len

/-- Field of `len` bits from bit `lo` of a word. -/
def fld {n : Nat} (w : BitVec n) (lo len : Nat) : Nat := nfld w.toNat lo len

/-- Bit `i` of a word as a flag. -/
def flag {n : Nat} (w : BitVec n) (i : Nat) : Bool := fld w i 1 == 1

/-- A flag as a bit. -/
def bn (b : Bool) : Nat := if b then 1 else 0

/-- A word from fields given as (lowest bit, value). -/
def pack : List (Nat × Nat) → Nat
  | [] => 0
  | (lo, v) :: fs => v * 2 ^ lo + pack fs

/-- A 32-bit register value from a number. -/
def w32 (n : Nat) : BitVec 32 := BitVec.ofNat 32 n

/-- A 64-bit word from a number. -/
def w64 (n : Nat) : BitVec 64 := BitVec.ofNat 64 n

/-- A number cut to `bits` bits in two's complement. -/
def twos (bits : Nat) (v : Int) : Nat := (v % (2 : Int) ^ bits).toNat

/-! ### Counts -/

/-- Count modulo 2^n. -/
def wrap (n v : Nat) : Nat := v % 2 ^ n

/-- A sequence field moves on by 1 modulo 256 (R355). -/
def seqUp (v : Nat) : Nat := (v + 1) % 256

/-- A count that stops at `m`. -/
def sat (m v : Nat) : Nat := min v m

/-- The value nearest to `v` from `lo` to `hi` (R357). -/
def near (lo hi v : Nat) : Nat := if v < lo then lo else if v > hi then hi else v

/-- Ceiling of a quotient. -/
def ceilDiv (a b : Nat) : Nat := (a + b - 1) / b

/-! ### Tables -/

/-- The entry `k`; an unlisted entry holds its reset value `d k`. -/
def tget {α : Type} (d : Nat → α) : Table α → Nat → α
  | [], k => d k
  | (j, v) :: m, k => if j = k then v else tget d m k

/-- The table without entry `k`. -/
def terase {α : Type} (m : Table α) (k : Nat) : Table α := m.filter (fun p => p.1 != k)

/-- Entry `k` put in its place by number. -/
def tinsert {α : Type} (k : Nat) (v : α) : Table α → Table α
  | [] => [(k, v)]
  | (j, w) :: m => if k < j then (k, v) :: (j, w) :: m else (j, w) :: tinsert k v m

/-- Entry `k` written; a reset value is not listed. -/
def tset {α : Type} [DecidableEq α] (d : Nat → α) (m : Table α) (k : Nat) (v : α) : Table α :=
  if v = d k then terase m k else tinsert k v (terase m k)

/-- The canonical form: numbers strictly rising, no listed reset value. -/
def Table.wf {α : Type} [DecidableEq α] (d : Nat → α) : Table α → Bool
  | [] => true
  | (j, v) :: m => (decide (v ≠ d j)) && m.all (fun p => decide (j < p.1)) && Table.wf d m

/-- A number put into a rising list once. -/
def addOnce (k : Nat) : List Nat → List Nat
  | [] => [k]
  | j :: m => if k = j then j :: m else if k < j then k :: j :: m else j :: addOnce k m

/-- The list without `k`. -/
def without (k : Nat) (l : List Nat) : List Nat := l.filter (· != k)

/-- Fold a state change over a list. -/
def forEach {α σ : Type} (l : List α) (f : α → σ → σ) (s : σ) : σ := l.foldl (fun a x => f x a) s

/-! ### CRC-32C (R196, R288, R361, R472) -/

/-- `k` bits of a reflected CRC-32C register. -/
def crcSteps : Nat → Nat → Nat
  | 0, r => r
  | k + 1, r => crcSteps k (if r % 2 = 1 then (r / 2) ^^^ 0x82F63B78 else r / 2)

/-- The register after one 64-bit word, least significant byte first. -/
def crcWord (r w : Nat) : Nat := crcSteps 64 (r ^^^ w)

/-- The register after a list of words. -/
def crcWords (r : Nat) : List Nat → Nat
  | [] => r
  | w :: ws => crcWords (crcWord r w) ws

/-- CRC-32C with its initial value and final inversion. -/
def crc32c (ws : List Nat) : Nat := crcWords 0xFFFFFFFF ws ^^^ 0xFFFFFFFF

/-- CRC-32C over the 96 low bits of a flit (R196). -/
def crcFlit (bits : Nat) : Nat := crcSteps 96 (bits % 2 ^ 96 ^^^ 0xFFFFFFFF) ^^^ 0xFFFFFFFF

end Sys2Proof.Machine
end

