-- ==== Sys2Proof/Machine/Ops.lean ====
section
/-! DEFINITION. The named operations over the state that every command uses: access to table entries, the
ledger units (R16, R131), the queues and held lists (R125, R153), acceptance of an event at its record (R106,
R117), house sources (R84, R492), replies (R311), clamps (R358), notices and violations (R392, R393) and the
handling of a fault (R455 to R459). -/
namespace Sys2Proof.Machine

/-! ### Entries of the tables -/

def State.source (s : State) (e : Nat) : SrcRec := tget (fun _ => {}) s.src e
def State.putSource (s : State) (e : Nat) (r : SrcRec) : State :=
  { s with src := tset (fun _ => {}) s.src e r }
def State.onSource (s : State) (e : Nat) (f : SrcRec → SrcRec) : State := s.putSource e (f (s.source e))

def State.ctx (s : State) (i : Nat) : Inst := tget Inst.dflt s.insts i
def State.putCtx (s : State) (i : Nat) (c : Inst) : State := { s with insts := tset Inst.dflt s.insts i c }
def State.onCtx (s : State) (i : Nat) (f : Inst → Inst) : State := s.putCtx i (f (s.ctx i))

def State.tgt (s : State) (t : Nat) : Tgt := tget (fun _ => {}) s.tgts t
def State.putTgt (s : State) (t : Nat) (c : Tgt) : State := { s with tgts := tset (fun _ => {}) s.tgts t c }
def State.onTgt (s : State) (t : Nat) (f : Tgt → Tgt) : State := s.putTgt t (f (s.tgt t))
def State.onPort (s : State) (t : Nat) (f : Port → Port) : State :=
  s.onTgt t fun c => { c with port := f c.port }
def State.onFar (s : State) (t : Nat) (f : Far → Far) : State :=
  s.onTgt t fun c => { c with far := f c.far }

def State.grp (s : State) (g : Nat) : Group := tget (fun _ => {}) s.groups g
def State.putGrp (s : State) (g : Nat) (c : Group) : State := { s with groups := tset (fun _ => {}) s.groups g c }
def State.onGrp (s : State) (g : Nat) (f : Group → Group) : State := s.putGrp g (f (s.grp g))

def State.link (s : State) (g : Nat) : Link := tget (fun _ => {}) s.links g
def State.onLink (s : State) (g : Nat) (f : Link → Link) : State :=
  { s with links := tset (fun _ => {}) s.links g (f (s.link g)) }

def State.chan (s : State) (c : Nat) : InChan := tget (fun _ => {}) s.inch c
def State.onChan (s : State) (c : Nat) (f : InChan → InChan) : State :=
  { s with inch := tset (fun _ => {}) s.inch c (f (s.chan c)) }

def State.farChan (s : State) (f : Nat) : FarChan := tget (fun _ => {}) s.farch f
def State.onFarChan (s : State) (f : Nat) (h : FarChan → FarChan) : State :=
  { s with farch := tset (fun _ => {}) s.farch f (h (s.farChan f)) }

def State.line (s : State) (k : Nat) : Line := tget (fun _ => {}) s.lines k
def State.onLine (s : State) (k : Nat) (f : Line → Line) : State :=
  { s with lines := tset (fun _ => {}) s.lines k (f (s.line k)) }
def State.lineCfg (s : State) (k : Nat) : LineCfg := tget (fun _ => {}) s.cfg.lineCfg k

def State.transEntry (s : State) (n : Nat) : TransEntry := tget (fun _ => {}) s.trans n
def State.putTrans (s : State) (n : Nat) (v : TransEntry) : State :=
  { s with trans := tset (fun _ => {}) s.trans n v }
def State.page (s : State) (n : Nat) : PageEntry := tget (fun _ => {}) s.pages n
def State.putPage (s : State) (n : Nat) (v : PageEntry) : State :=
  { s with pages := tset (fun _ => {}) s.pages n v }

def State.queue (s : State) (q : Nat) : CmdQueue := tget CmdQueue.dflt s.cmd.queues q
def State.onQueue (s : State) (q : Nat) (f : CmdQueue → CmdQueue) : State :=
  { s with cmd := { s.cmd with queues := tset CmdQueue.dflt s.cmd.queues q (f (s.queue q)) } }

def State.slot (s : State) (n : Nat) : BitVec 64 := tget (fun _ => 0) s.acc.slots n
def State.region (s : State) (n : Nat) : BitVec 64 := tget (fun _ => 0) s.acc.regions n

def State.ledger (s : State) (i : Nat) : Ledger := tget (fun _ => {}) s.ldg.inst i

/-! ### Source records as words (R98, R123) -/

def SrcState.code : SrcState → Nat
  | .inactive => 0 | .pending => 1 | .active => 2 | .activePending => 3

def Place.code : Place → Nat
  | .unplaced => 0 | .queued => 1 | .presented => 2 | .withdrawing => 3

def WCause.code : WCause → Nat
  | .preemption => 0 | .hold => 1 | .deassertion => 2 | .disable => 3 | .stale => 4 | .reset => 5

def Held.code (h : Held) : Nat :=
  pack [(0, bn h.rate), (1, bn h.frozen), (2, bn h.dormant), (3, bn h.moderated), (4, bn h.quota)]

/-- Word 0 of a source record (R123). -/
def SrcRec.word0 (r : SrcRec) : BitVec 64 :=
  w64 (pack [(0, r.st.code), (2, bn r.en), (3, bn r.drain), (4, r.held.code), (9, r.wcause.code), (12, bn r.originLevel),
    (13, bn r.level), (14, bn r.merged), (15, bn r.gen), (16, bn r.groupEn), (17, r.changes), (33, r.taker),
    (44, r.inst), (53, r.target)])

/-- Word 1 of a source record (R123). -/
def SrcRec.word1 (r : SrcRec) : BitVec 64 :=
  w64 (pack [(0, r.payload.toNat), (32, r.group), (48, r.vector), (56, r.prio), (62, r.place.code)])

/-! ### Conditions -/

/-- Domain `d` is held (R424). -/
def State.isHeld (s : State) (d : Nat) : Bool := s.rst.held.contains d

/-- Intake takes no signal: D6 is held, or a warm reset has closed intake until D6 is released again (R27, R71, R492). -/
def State.intakeShut (s : State) : Bool :=
  s.isHeld 6 || s.mode.mode == .warm || (s.rst.running && decide (s.rst.next ≤ 6))

/-- The quiesce of a DOMAIN_RESET of domain `n` runs (R416). -/
def State.quiescing (s : State) (n : Nat) : Bool := s.rst.dom.phase == 1 && s.rst.dom.domain == n

/-- Domain `n` is held, or is asked to go idle: it takes no new work (R417). -/
def State.isIdle (s : State) (n : Nat) : Bool := s.isHeld n || s.quiescing n

/-- The present tick (R7). -/
def State.tick (s : State) : Nat := s.tb.count

/-- The present instant (R7, R407). -/
def State.instant (s : State) : Instant := { now := s.now, tick := s.tb.count, ring := !s.tb.good }

/-- `n` ticks have passed since an instant: by the timebase, or in ring counts where the time began or still runs without a good
timebase (R7, R407). -/
def State.elapsed (s : State) (i : Instant) (n : Nat) : Bool :=
  if i.ring || !s.tb.good then decide (i.now + n ≤ s.now) else decide (i.tick + n ≤ s.tick)

/-- Nib-2 generation of a nib target's group (R37). -/
def State.isNib2 (s : State) (t : Nat) : Bool :=
  decide (t < 1024) && s.strap.nibGen.toNat.testBit (t / 32)

/-- The mode is one in which every line is sensed as a level (R81). -/
def Mode.levelOnly : Mode → Bool
  | .recovery => true
  | .failsafe => true
  | _ => false

/-- Line `k` is sensed as a level now (R76, R81). -/
def State.lineLevelOnly (s : State) (k : Nat) : Bool :=
  (s.lineCfg k).sense == 0 || s.mode.mode.levelOnly

/-- The source is sensed as a level (R83, R108). -/
def State.sensedLevel (s : State) (e : Nat) : Bool :=
  if e < 0x800 then s.lineLevelOnly e else decide (e < 0xA00)

/-- Only wired lines and house sources are presented in FAILSAFE (R27, R491). -/
def presentable (e : Nat) : Bool := decide (e < 0x800) || (decide (0xE00 ≤ e) && decide (e < 0x1000))

/-- Parity of an instance's generation (R272). -/
def Inst.parity (i : Inst) : Bool := i.gen % 2 == 1

/-- The instance accepts and serves events (R100, R271). -/
def Inst.serving (i : Inst) : Bool := i.created && i.en && !i.drain

/-- The source is ENABLED (R100). -/
def SrcRec.enabled (r : SrcRec) : Bool := r.en && !r.drain

/-- The source has a pending event (R124). -/
def SrcRec.pend (r : SrcRec) : Bool :=
  match r.st with
  | .pending => true
  | .activePending => true
  | _ => false

/-- An event of the source is in service. -/
def SrcRec.inService (r : SrcRec) : Bool :=
  match r.st with
  | .active => true
  | .activePending => true
  | _ => false

/-- Some reason holds the event (R101). -/
def Held.any (h : Held) : Bool := h.rate || h.frozen || h.dormant || h.moderated || h.quota

/-- The cell of the source is placed (R124). -/
def SrcRec.placed (r : SrcRec) : Bool :=
  match r.place with
  | .unplaced => false
  | _ => true

/-! ### Ledgers (R16, R131) -/

/-- The units in which a ledger moves (R16). -/
inductive Tally
  | accept | merge | deliver | withdraw | stale | disabled | reset | acceptDiscard | refuse
  deriving DecidableEq, Repr

/-- A 64-bit counter moves up by 1. -/
def inc64 (v : Nat) : Nat := (v + 1) % 2 ^ 64

/-- A 64-bit counter moves down by 1. -/
def dec64 (v : Nat) : Nat := (v + (2 ^ 64 - 1)) % 2 ^ 64

/-- One unit applied to one ledger (R16). -/
def Ledger.move (l : Ledger) (u : Tally) : Ledger :=
  match u with
  | .accept => { l with accepted := inc64 l.accepted, outstanding := inc64 l.outstanding }
  | .merge => { l with accepted := inc64 l.accepted, merged := inc64 l.merged }
  | .deliver => { l with delivered := inc64 l.delivered, outstanding := dec64 l.outstanding }
  | .withdraw => { l with withdrawn := inc64 l.withdrawn, outstanding := dec64 l.outstanding }
  | .stale => { l with dStale := inc64 l.dStale, outstanding := dec64 l.outstanding }
  | .disabled => { l with dDisabled := inc64 l.dDisabled, outstanding := dec64 l.outstanding }
  | .reset => { l with dReset := inc64 l.dReset, outstanding := dec64 l.outstanding }
  | .acceptDiscard => { l with accepted := inc64 l.accepted, dDisabled := inc64 l.dDisabled }
  | .refuse => { l with refused := inc64 l.refused }

/-- The right-hand side of the conservation equation (R132). -/
def Ledger.rhs (l : Ledger) : Nat :=
  (l.merged + l.delivered + l.withdrawn + l.dStale + l.dDisabled + l.dReset + l.outstanding) % 2 ^ 64

/-- The ledger satisfies the conservation equation (R132). -/
def Ledger.balanced (l : Ledger) : Bool := l.accepted % 2 ^ 64 == l.rhs

/-- A record counter moves up and saturates (R469). -/
def State.recCount (s : State) (k n : Nat) : State :=
  { s with rcd := { s.rcd with work := { s.rcd.work with
      ctr := tset (fun _ => 0) s.rcd.work.ctr k
        (sat (2 ^ 64 - 1) (tget (fun _ => 0) s.rcd.work.ctr k + n)) } } }

/-- The record counters that follow a unit (R469, counters 0 to 7). -/
def Tally.counters : Tally → List Nat
  | .accept => [0]
  | .merge => [0, 1]
  | .deliver => [2]
  | .withdraw => [3]
  | .stale => [4]
  | .disabled => [5]
  | .reset => [6]
  | .acceptDiscard => [0, 5]
  | .refuse => [7]

/-- One unit in the ledgers of instance `i` and of the block, and in the record (R131, R469). -/
def State.ledge (s : State) (i : Nat) (u : Tally) : State :=
  let s := { s with ldg := { s.ldg with
    inst := tset (fun _ => {}) s.ldg.inst i ((s.ledger i).move u), block := s.ldg.block.move u } }
  u.counters.foldl (fun s k => s.recCount k 1) s

/-! ### Changes of a record (R98, R124, R135) -/

/-- The position of a sweep in the bank of source `e` has passed it. -/
def Sweep.passed (w : Sweep) (e : Nat) : Bool := decide (e / 64 < tget (fun _ => 0) w.pos (e % 64))

/-- A sweep that counts pending sources (R135, R149). -/
def countsPending : SweepName → Bool
  | .audit => true
  | .rebuild => true
  | .rescan => true
  | _ => false

/-- A change of PEND at a source that a counting sweep has passed adjusts the tally of its owner (R135). -/
def Sweep.adjust (w : Sweep) (e : Nat) (r0 r : SrcRec) : Sweep :=
  if countsPending w.name && w.passed e then
    let t0 := if r0.pend then tset (fun _ => 0) w.tally r0.inst (tget (fun _ => 0) w.tally r0.inst - 1) else w.tally
    let t1 := if r.pend then tset (fun _ => 0) t0 r.inst (tget (fun _ => 0) t0 r.inst + 1) else t0
    { w with tally := t1 }
  else w

/-- The source cell of `e` is in place again after an exit from rung 3 (R124, R428). -/
def State.restoreCell (s : State) (e : Nat) : State := { s with lost := s.lost.map (addOnce e) }

/-- The source cell of `e` is unrestored (R124). -/
def State.cellLost (s : State) (e : Nat) : Bool :=
  match s.lost with
  | none => false
  | some l => !l.contains e

/-- The end of one order or sweep step at source `e`: one change is counted when the record differs from `r0`,
the record at the start, and an unrestored cell is restored (R98, R124, R489). -/
def State.commit (s : State) (e : Nat) (r0 : SrcRec) : State :=
  let r := s.source e
  if r = r0 then s
  else
    let s := (s.putSource e { r with changes := wrap 16 (r0.changes + 1) }).restoreCell e
    { s with sweeps := s.sweeps.map fun w => w.adjust e r0 r }

/-! ### Level queues (R152, R153, R159) -/

/-- Bit `p` of a number set or cleared. -/
def putBit (n p : Nat) (b : Bool) : Nat := if b then n ||| 2 ^ p else if n.testBit p then n - 2 ^ p else n

def Tgt.level (c : Tgt) (p : Nat) : List Nat := tget (fun _ => []) c.queues p

/-- The counter of level `p` (R159). -/
def Tgt.count (c : Tgt) (p : Nat) : Nat := tget (fun _ => 0) c.counts p

/-- A level queue changes; its bit of the bitmap and its counter follow (R154, R159). -/
def Tgt.putLevel (c : Tgt) (p : Nat) (l : List Nat) : Tgt :=
  { c with queues := tset (fun _ => []) c.queues p l, bits := putBit c.bits p (!l.isEmpty),
           counts := tset (fun _ => 0) c.counts p ((c.count p + l.length + 2 ^ 19 - (c.level p).length) % 2 ^ 19) }

/-- The best occupied level, by the find-first-set path; 64 when the set is empty (R154). -/
def Tgt.best (c : Tgt) : Nat := ((List.range 64).find? c.bits.testBit).getD 64

/-- The best occupied level, by the counter path (R159). -/
def Tgt.bestCounted (c : Tgt) : Nat := ((List.range 64).find? fun p => c.count p != 0).getD 64

/-- The comparison of the two ranking paths (R159): the levels, and the bit and the counter of each of them. -/
def Tgt.agrees (c : Tgt) : Bool :=
  c.best == c.bestCounted &&
  [c.best, c.bestCounted].all fun p => decide (64 ≤ p) || c.bits.testBit p == (c.count p != 0)

/-- The bitmap and the counters made again from the queues (R160). -/
def Tgt.recount (c : Tgt) : Tgt :=
  { c with bits := c.queues.foldr (fun p m => if p.2.isEmpty then m else m ||| 2 ^ p.1) 0,
           counts := (c.queues.map fun p => (p.1, p.2.length)).filter fun p => p.2 != 0 }

/-- The occupancy bitmap (R154). -/
def Tgt.bitmap (c : Tgt) : Nat := c.bits

/-- The winner of the queue set (R154). -/
def Tgt.winner (c : Tgt) : Option Nat := (c.level c.best).head?

/-- Link an event at the tail of its level at target `t` (R153). -/
def State.linkTail (s : State) (t p e : Nat) : State := s.onTgt t fun c => c.putLevel p (c.level p ++ [e])

/-- Take an event out of its level queue. -/
def State.unlinkLevel (s : State) (t p e : Nat) : State := s.onTgt t fun c => c.putLevel p (without e (c.level p))

/-- The scan in progress has not passed source `e` (R147): its cell is not counted yet (R149). -/
def State.awaitsScan (s : State) (e : Nat) : Bool :=
  s.sweeps.any fun w => (w.name == .rebuild || w.name == .rescan) && !w.passed e

/-- Free the cell of a placed source: it leaves its queue, and CELLS_PLACED falls where it counts the cell (R127, R149). -/
def State.freeCell (s : State) (e : Nat) : State :=
  let r := s.source e
  if r.placed then
    let s := s.unlinkLevel r.serving r.prio e
    let s := if s.awaitsScan e then s else s.onCtx r.inst fun i => { i with cellsPlaced := i.cellsPlaced - 1 }
    s.putSource e { r with place := .unplaced }
  else s

/-! ### Deficit round robin (R215, R267) -/

/-- The least number of a list that satisfies `p`. -/
def leastOf (p : Nat → Bool) (l : List Nat) : Option Nat :=
  l.foldl (fun m x => if p x then some (match m with
    | none => x
    | some y => min x y) else m) none

/-- One item of a deficit round robin: the deficit counters after it and the instance whose item runs. Instances `all` have work
waiting, and the counters of the others are 0; the item is one of the instances `here`. The visit of instance `visit` goes on while
its counter is at least 1; otherwise the next instance of `here` in ascending index is visited, wrapping. -/
def robin (deficit : Table Nat) (visit : Nat) (weight : Nat → Nat) (all here : List Nat) : Table Nat × Nat :=
  let d := deficit.filter fun p => all.contains p.1
  let n := tget (fun _ => 0) d visit
  if here.contains visit ∧ 1 ≤ n then (tset (fun _ => 0) d visit (n - 1), visit)
  else
    let i := ((leastOf (fun x => decide (visit < x)) here).orElse fun _ => leastOf (fun _ => true) here).getD 0
    (tset (fun _ => 0) d i (tget (fun _ => 0) d i + weight i - 1), i)

/-! ### Pool cells (R126) -/

/-- The first pool cell, and the first of the 1,024 that are kept for relays: the last of the pool (assumption log 58). -/
def poolBase : Nat := 266240
def relayBase : Nat := 523264
def poolEnd : Nat := 524288

/-- The pool cells in use. -/
def State.cellsUsed (s : State) : List Nat :=
  (s.groups.flatMap fun p => p.2.batches.filterMap (·.cell)) ++
  (s.tgts.filterMap fun p => p.2.switching.bind (·.cell)) ++
  (s.tgts.filterMap fun p => if p.2.far.retryDue.isSome then some p.2.far.retryCell else none) ++
  s.relays.map (·.cell)

/-- The lowest free cell from `k` up to `last`, looking at `fuel` cells. -/
def freeFrom (used : List Nat) (last k : Nat) : Nat → Option Nat
  | 0 => none
  | fuel + 1 => if last ≤ k then none else if used.contains k then freeFrom used last (k + 1) fuel else some k

/-- A free cell for work other than relays. -/
def State.freePool (s : State) : Option Nat :=
  let u := s.cellsUsed
  freeFrom u relayBase poolBase (u.length + 1)

/-- A free cell for a relay record: one of those kept for relays before any other (R227). -/
def State.freeRelayCell (s : State) : Option Nat :=
  let u := s.cellsUsed
  (freeFrom u poolEnd relayBase (u.length + 1)).orElse fun _ => s.freePool

/-- A cell is taken: the pool has been used as far as this cell. -/
def State.useCell (s : State) (n : Nat) : State :=
  if n < relayBase then { s with poolTop := max s.poolTop (n + 1) } else { s with relayTop := max s.relayTop (n + 1) }

/-- A work item waits for a pool cell; it is counted once (R126, R379). -/
def State.poolWaits (s : State) : State := { s with cfg := { s.cfg with poolWait := wrap 32 (s.cfg.poolWait + 1) } }

/-- A pool cell for new work, where one is free; else the wait is counted. -/
def State.takePool (s : State) : State × Option Nat :=
  match s.freePool with
  | some n => (s.useCell n, some n)
  | none => (s.poolWaits, none)

/-! ### Held lists (R125) -/

/-- The reasons of the held lists, in their order (R125). -/
inductive Reason | frozen | dormant | moderated | rate | quota
  deriving DecidableEq, Repr

/-- The first reason that holds the event (R125). -/
def Held.first (h : Held) : Option Reason :=
  if h.frozen then some .frozen else if h.dormant then some .dormant
  else if h.moderated then some .moderated else if h.rate then some .rate
  else if h.quota then some .quota else none

/-- The guest table entry of an owner at a target (R260). -/
def Tgt.guest (c : Tgt) (i : Nat) : Option Guest := c.guests.find? (fun g => g.inst == i)

/-- The dormant list of (target, owner). -/
def Tgt.dormList (c : Tgt) (i : Nat) : List Nat :=
  match c.guest i with
  | none => []
  | some g => g.dorm

/-- Change the dormant list of (target, owner). -/
def Tgt.onDorm (c : Tgt) (i : Nat) (f : List Nat → List Nat) : Tgt :=
  { c with guests := c.guests.map fun g => if g.inst == i then { g with dorm := f g.dorm } else g }

/-- Put a source out of the held list it stands on; a member of a batch leaves the batch (R125, R242). -/
def State.unlinkHeld (s : State) (e : Nat) : State :=
  let r := s.source e
  match r.held.first with
  | none => s
  | some .frozen => s.onCtx r.inst fun i => { i with frozenList := without e i.frozenList }
  | some .dormant =>
    if r.st == .pending && r.place == .unplaced then
      let s := s.onTgt r.target fun c => c.onDorm r.inst (without e)
      s.onCtx r.inst fun i => { i with dormCount := i.dormCount - 1 }
    else s
  | some .moderated => s.onGrp r.group fun g =>
      { g with held := without e g.held,
               batches := g.batches.map fun b => { b with members := without e b.members } }
  | some .rate => s.onCtx r.inst fun i => { i with rateList := without e i.rateList }
  | some .quota => s.onCtx r.inst fun i => { i with quotaList := without e i.quotaList }

/-! ### Acceptance of an event at its record (R106, R107, R117, R237) -/

/-- The source is a member of an enabled group of its own owner (R236). -/
def State.isMember (s : State) (e : Nat) : Bool :=
  let r := s.source e
  let g := s.grp r.group
  r.groupEn && g.en && g.inst == r.inst

/-- An accepted event counts once toward its group, with its stamp (R237). -/
def State.countMember (s : State) (e stamp : Nat) : State :=
  if s.isMember e then
    { s with counts := s.counts ++ [{ group := (s.source e).group, eid := e, stamp := stamp }] }
  else s

/-- An accepted event at a source: a new pending event, a merge, or a discard at a source that is not ENABLED
(R106, R107, R117, R271). Of an event that ended without a take PAYLOAD_MERGED stays until here (assumption log 33). -/
def State.accept (s : State) (e : Nat) (asLevel : Bool) (payload : BitVec 32) (stamp : Nat) : State :=
  let r := s.source e
  let i := s.ctx r.inst
  let fresh := fun (st : SrcState) =>
    { r with st := st, originLevel := asLevel, payload := payload, merged := false, stamp := stamp, carried := false,
             gen := i.parity, place := .unplaced,
             held := { frozen := i.frozen && decide (st = .activePending) } }
  let merge := { r with originLevel := r.originLevel && asLevel, payload := payload, merged := true }
  if !(r.enabled && i.serving) then s.ledge r.inst .acceptDiscard
  else
    match r.st with
    | .inactive => ((s.putSource e (fresh .pending)).ledge r.inst .accept).countMember e stamp
    | .active => ((s.putSource e (fresh .activePending)).ledge r.inst .accept).countMember e stamp
    | .pending => ((s.putSource e merge).ledge r.inst .merge).countMember e stamp
    | .activePending => ((s.putSource e merge).ledge r.inst .merge).countMember e stamp

/-! ### Sweeps in progress (R489) -/

/-- A sweep of this name runs. -/
def State.sweeping (s : State) (n : SweepName) : Bool := s.sweeps.any (·.name == n)

/-- A sweep starts, or starts again, from the first record (R489). -/
def State.startSweep (s : State) (n : SweepName) : State :=
  { s with sweeps := s.sweeps.filter (·.name != n) ++ [{ name := n }] }

/-- A sweep ends. -/
def State.endSweep (s : State) (n : SweepName) : State := { s with sweeps := s.sweeps.filter (·.name != n) }

/-- The lists under repair (R148). -/
def State.repairs (s : State) : List ListName := s.sweeps.filterMap fun w => match w.name with
  | .repair l => some l
  | _ => none

/-- A list is under repair: its queue is withheld from ranking, or its releases wait (R148). -/
def State.repairing (s : State) (l : ListName) : Bool := s.sweeping (.repair l)

/-! ### House sources (R84, R492) -/

/-- EID of house source `n` (R73). -/
def houseEid (n : Nat) : Nat := 0xE00 + n

/-- The key of a dual-rail stage in the runs of R450: its part and the index of the part (R453). Of part 0x3 the switch source port
is unit 0 and the house port unit 1 (assumption log 39). -/
def stageKey (part unit : Nat) : Nat := 16 * unit + part

/-- A word passes a stage: its run of dual-rail failures ends (R450). -/
def State.stageOk (s : State) (part unit : Nat) : State :=
  { s with flt := { s.flt with runs := terase s.flt.runs (stageKey part unit) } }

/-- The 16 wait slots of the bank of source `e` are occupied: only restricted rounds open (R105). -/
def State.bankFull (s : State) (e : Nat) : Bool :=
  decide (16 ≤ (s.parked.filter fun p => p.1 % 64 == e % 64).length)

/-- One pulse of an enabled house source at its home bank (R84). A pulse that meets a withdrawal is parked, and one that
meets a restricted round waits at its port (R105). -/
def State.housePulse (s : State) (n : Nat) : State :=
  let e := houseEid n
  let s := s.stageOk 3 1
  let r := s.source e
  if r.enabled then
    if s.bankFull e then { s with waiting := s.waiting ++ [(e, .pulse 0 s.tick {})] }
    else if r.place = .withdrawing then { s with parked := s.parked ++ [(e, .pulse 0 s.tick {})] }
    else (s.accept e false 0 s.tick).commit e r
  else s

/-- A condition of house source `n` occurs: a pulse, or its pending flag while intake is shut (R84, R492). The word has passed the
stage of the house port (R450). -/
def State.raiseHouse (s : State) (n : Nat) : State :=
  if s.intakeShut then { s with house := addOnce n s.house } else s.housePulse n

/-- Put a source that holds a reason on the list of its first reason (R125, R261). -/
def State.linkHeld (s : State) (e : Nat) : State :=
  let r := s.source e
  match r.held.first with
  | none => s
  | some .frozen => s.onCtx r.inst fun i => { i with frozenList := i.frozenList ++ [e] }
  | some .dormant =>
    let i := s.ctx r.inst
    let s := s.onTgt r.target fun c => c.onDorm r.inst (· ++ [e])
    let s := s.putCtx r.inst { i with
      dormCount := i.dormCount + 1, dormFirst := if i.dormCount = 0 then r.target else i.dormFirst }
    if i.dormCount = 0 then s.raiseHouse 20 else s
  | some .moderated => s.onGrp r.group fun g => { g with held := g.held ++ [e] }
  | some .rate => s.onCtx r.inst fun i => { i with rateList := i.rateList ++ [e] }
  | some .quota => s.onCtx r.inst fun i => { i with quotaList := i.quotaList ++ [e] }

/-! ### Replies (R311, R313) -/

/-- Word 0 of a reply (R311). -/
def Reply.word0 (r : Reply) (cseq : Nat) : BitVec 64 :=
  w64 (pack [(0, r.tag), (8, r.status), (16, r.result.length), (32, cseq), (48, r.opcode), (56, bn r.second)])

/-- The reply fits the reply FIFO of 512 words (R302). -/
def CmdQueue.room (q : CmdQueue) (r : Reply) : Bool := decide (q.rpl.length + 1 + r.result.length ≤ 512)

/-- The reply enters the FIFO as a whole with the next CSEQ (R311). -/
def CmdQueue.give (q : CmdQueue) (r : Reply) : CmdQueue :=
  let c := wrap 16 (q.cseq + 1)
  { q with cseq := c, rpl := q.rpl ++ r.word0 c :: r.result }

/-- A reply of queue `n`: it becomes available and raises house source n, or it waits for room (R308, R311). -/
def State.reply (s : State) (n : Nat) (r : Reply) : State :=
  let q := s.queue n
  if q.late.isEmpty && q.room r then (s.onQueue n fun q => q.give r).raiseHouse n
  else s.onQueue n fun q => { q with late := q.late ++ [r] }

/-! ### Clamps (R358, R359) -/

/-- One clamp is recorded (R358). -/
def State.clamp (s : State) (id wr ap : Nat) (wide enum : Bool) (width : Nat) : State :=
  let c := s.cfg
  let info := pack [(0, bn wide), (1, bn enum), (2, width - 1), (8, s.tick % 2 ^ 24)]
  let e : ClampEntry := { id := id, wr := wr % 2 ^ 32, ap := ap % 2 ^ 32, info := info }
  let s := { s with cfg := { c with
    clampLog := tset (fun _ => none) c.clampLog (c.clampCount % 16) (some e),
    clampCount := wrap 32 (c.clampCount + 1), clampLogged := true, clampNew := sat 255 (c.clampNew + 1),
    clampSeq := seqUp c.clampSeq } }
  (s.recCount 9 1).raiseHouse 12

/-- CLAMP_ID of a register field (R359). -/
def clampReg (addr lsb : Nat) : Nat := pack [(0, 0), (2, lsb), (8, addr / 4)]

/-- CLAMP_ID of a command parameter (R359): opcode, parameter word, queue, lowest bit. -/
def clampParam (opcode word q lsb : Nat) : Nat := pack [(0, 1), (2, lsb), (8, opcode), (16, word), (24, q)]

/-- CLAMP_ID of a command result (R359). -/
def clampResult (opcode q lsb : Nat) : Nat := pack [(0, 3), (2, lsb), (8, opcode), (16, 0xFF), (24, q)]

/-- CLAMP_ID of a sampled input (R359). -/
def clampInput (input : Nat) : Nat := pack [(0, 2), (8, input)]

/-! ### A field with a clamp (R357, R358) -/

/-- A clamp that was made: parameter word, lowest bit, value written, value applied, width, enumeration. -/
structure Clamped where
  word : Nat
  lsb : Nat
  wr : Nat
  ap : Nat
  width : Nat
  enum : Bool := false
  deriving DecidableEq, Repr

/-- The clamps of one command are recorded in their order (R358). -/
def State.recordClamps (s : State) (q opcode : Nat) (cs : List Clamped) : State :=
  forEach cs (fun c s => s.clamp (clampParam opcode c.word q c.lsb) c.wr c.ap (decide (32 < c.width)) c.enum c.width) s

/-- The clamp of one field, if the value applied differs from the value written. -/
def clampIf (word lsb width wr ap : Nat) (enum : Bool := false) : List Clamped :=
  if wr = ap then [] else [{ word := word, lsb := lsb, wr := wr, ap := ap, width := width, enum := enum }]

/-! ### Notices and violations (R392, R393) -/

/-- A notice (R393). -/
def State.notice (s : State) (master : Nat) (priv space : Bool) (reason kind slot chan inst : Nat) : State :=
  let a := s.acc
  let s := { s with acc := { a with
    notePending := true, noteNew := sat 65535 (a.noteNew + 1), noteSeq := seqUp a.noteSeq,
    noteMaster := master, notePriv := priv, noteSpace := space, noteReason := reason, noteKind := kind,
    noteSlot := slot, noteChan := chan, noteInst := inst, noteCount := wrap 32 (a.noteCount + 1) } }
  s.raiseHouse 14

/-- An intake refusal (R92): REFUSED in the ledger of the owner addressed, a notice, house source 14. -/
def State.refuse (s : State) (reason kind : Nat) (f : PulseFrom) (inst : Nat) : State :=
  (s.ledge inst .refuse).notice f.master f.priv true reason kind f.slot f.chan inst

/-! ### Faults (R455 to R459) -/

/-- The promoted severity of a promoting class (R453). -/
def promotedSev (cls : Nat) : Option Nat :=
  if cls = 5 then some 2
  else if [1, 2, 7, 9, 0xC, 0x11, 0x12, 0x13].contains cls then some 1 else none

/-- The pre-classification of one fault (R456): the window after it, and whether its count reached N. Without a good timebase
no window closes by time (R455). -/
def Pre.next (p : Pre) (stamp : Nat) (good : Bool) : Pre × Bool :=
  let p := if p.open_ && good && decide (stamp ≥ p.start + p.win * 1024) then { p with open_ := false, count := 0 } else p
  let p := if p.open_ then p else { p with open_ := true, start := stamp, count := 0 }
  let p := { p with count := p.count + 1 }
  if p.count ≥ p.n then ({ p with open_ := false, count := 0 }, true) else (p, false)

/-- The next fault of the class would be promoted (R456). -/
def State.promotes (s : State) (cls : Nat) : Bool :=
  ((tget (fun _ => {}) s.flt.pre cls : Pre).next s.tick s.tb.good).2

/-- The entry takes part in merging a fault of class and severity with a stamp (R457); without a good timebase every timer
runs (R455). -/
def FaultEntry.takes (x : FaultEntry) (cls sev stamp : Nat) (good : Bool) : Bool :=
  x.cls == cls && (!good || decide (stamp < x.timerEnd)) && decide (sev ≤ x.sev)

/-- Log indices from the oldest entry to the newest (R459). -/
def Flt.order (f : Flt) : List Nat := (List.range 16).map fun k => (f.count + k) % 16

/-- The oldest log entry that a fault merges into (R457). -/
def Flt.mergeInto (f : Flt) (cls sev stamp : Nat) (good : Bool) : Option Nat :=
  f.order.find? fun k =>
    match tget (fun _ => none) f.log k with
    | none => false
    | some x => x.takes cls sev stamp good

/-- A record enters the fault port queue, or is dropped at a full queue (R62). -/
def Flt.enqueue (f : Flt) (r : FaultRec) : Flt :=
  if f.queue.length < 16 then { f with queue := f.queue ++ [r] }
  else { f with qdrop := wrap 32 (f.qdrop + 1), dropsOwed := f.dropsOwed + 1 }

/-- The log entry, record and status of a fault that is not merged (R455, R459, R465). -/
def Flt.write (f : Flt) (cls sev info stamp hold : Nat) (promoted : Bool) : Flt :=
  let x : FaultEntry := { cls := cls, sev := sev, promoted := promoted, info := info, tick := stamp, last := 0,
                          merged := 0, timerEnd := stamp + 500 * hold }
  let f := { f with log := tset (fun _ => none) f.log (f.count % 16) (some x), count := wrap 32 (f.count + 1) }
  let f := f.enqueue { cls := cls, sev := sev, info := info }
  { f with corr := f.corr || sev == 0, cont := f.cont || sev == 1, cwr := f.cwr || sev == 2,
           uncont := f.uncont || sev == 3, new_ := sat 255 (f.new_ + 1), seq := seqUp f.seq }

/-- The record counter that follows a class (R455 step 2, R469). -/
def faultCounter (cls info : Nat) : Option Nat :=
  if cls = 1 then some 11 else if cls = 2 then some 12 else if cls = 3 then some 13
  else if cls = 0xD ∧ info % 4 = 1 then some 10 else none

/-- A contained-with-recovery fault that arrives in this mode leads to RECOVERY or is held (R25, R461). -/
def Mode.mindsCwr : Mode → Bool
  | .cold | .warm | .recovery | .failsafe => false
  | _ => true

/-- Steps 2 to 5 of R455 for a fault whose own action has run, and the holding of its mode effect (R461), which
`settleMode` then applies. -/
def State.report (s : State) (cls base info : Nat) : State :=
  let stamp := s.tick
  let s := match faultCounter cls info with
    | none => s
    | some k => s.recCount k 1
  let p := (tget (fun _ => {}) s.flt.pre cls : Pre).next stamp s.tb.good
  let up := (promotedSev cls).isSome && p.2 && base != 3
  let sev := if up then (promotedSev cls).getD base else base
  let s := if (promotedSev cls).isSome then
      { s with flt := { s.flt with pre := tset (fun _ => {}) s.flt.pre cls p.1 } } else s
  let into := if cls = 0x17 then none else s.flt.mergeInto cls sev stamp s.tb.good
  let s := match into with
    | some k =>
      let log := match tget (fun _ => none) s.flt.log k with
        | none => s.flt.log
        | some x => tset (fun _ => none) s.flt.log k
            (some { x with merged := sat 65535 (x.merged + 1), last := stamp })
      { s with flt := { s.flt with log := log, mergedCount := wrap 32 (s.flt.mergedCount + 1) } }
    | none => ({ s with flt := s.flt.write cls sev info stamp s.cfg.hold up }).raiseHouse (8 + sev)
  { s with mode := { s.mode with heldCwr := s.mode.heldCwr || (sev == 2 && s.mode.mode.mindsCwr),
                                 heldUncont := s.mode.heldUncont || sev == 3 } }

/-- A nib-protocol notice or fault: flag `k` of TGT_NIBSTAT and a NIB fault (R55, R209, R453). -/
def State.nibNotice (s : State) (t k : Nat) : State :=
  let s := s.onPort t fun p => { p with stat := p.stat ||| 2 ^ k, statCount := sat 255 (p.statCount + 1),
                                        statSeq := seqUp p.statSeq }
  s.report 9 0 (pack [(0, t), (11, 2 ^ k)])

end Sys2Proof.Machine
end

