-- ==== Sys2Proof/Machine/Present.lean ====
section
/-! DEFINITION. Presentation at a target: vector addresses (R183), flits sent (R196 to R200), the offer of an
event or of the blot (R186 to R190, R200, R204) and the port's readiness (R171, R187). -/
namespace Sys2Proof.Machine

/-- Bits [51:2] of VBASE + VECTOR × 2^VSHIFT (R183). -/
def Tgt.vectorAddr (c : Tgt) (vector : Nat) : BitVec 50 :=
  BitVec.ofNat 50 ((c.vbase * 4096 + vector * 2 ^ c.vshift) / 4)

/-! ### Flits sent by the block (R196 to R198) -/

/-- The flit that follows `l`'s last one: it takes the next LSEQ, the acknowledgement, the NAK in force and the
credits owed to the agent (R196, R198, R199). -/
def Link.send (l : Link) (now kind tgt pseq payload : Nat) : Link :=
  let cr := min 32 l.credOwed
  { l with
    sent := l.sent ++ [{ lseq := l.txNext, kind := kind, tgt := tgt, pseq := pseq, payload := payload, cred := cr,
                         nak := l.rxDiscard, ack := (l.rxNext + 255) % 256 }],
    txNext := wrap 8 (l.txNext + 1), credOwed := l.credOwed - cr, agentCredits := l.agentCredits + cr,
    lastSend := now }

/-- A flit about target `t` of its group. -/
def State.sendFlit (s : State) (t kind pseq payload : Nat) : State :=
  s.onLink (t / 32) fun l => l.send s.tick kind (t % 32) pseq payload

/-- The word of a sent flit with its CRC (R196). -/
def SentFlit.word (f : SentFlit) : BitVec 128 :=
  let low := pack [(0, f.kind), (4, f.lseq), (12, f.ack), (20, bn f.nak), (21, f.cred), (27, f.tgt), (32, f.pseq),
                   (40, f.payload)]
  BitVec.ofNat 128 (low + crcFlit low * 2 ^ 96)

/-- Payload of PRESENT (R197). -/
def presentPayload (eid prio vector : Nat) (blot : Bool) : Nat :=
  pack [(0, eid), (20, prio), (26, vector), (34, bn blot)]

/-- CONFIG and BLOTCFG of a target (R197, R200). -/
def State.sendSettings (s : State) (t : Nat) : State :=
  let c := s.tgt t
  let s := s.sendFlit t 5 0 (pack [(0, 2), (4, c.vbase), (44, c.vshift)])
  s.sendFlit t 5 0 (pack [(0, 3), (4, c.blotVa.toNat)])

/-- STATE of kind LINK (R197). -/
def linkPayload (reset query replayEnd : Bool) : Nat :=
  pack [(0, 4), (4, bn reset), (5, bn query), (6, bn replayEnd)]

/-! ### Presentation at a nib target -/

/-- EID of the blot (R3). -/
def blotEid : Nat := 0xFFFFF

/-- A presentation reaches the outputs of a Nib-1 port (R53, R54). -/
def Port.drive (p : Port) (x : Shown) : Port :=
  { p with req := true, vaddr := x.vaddr, eid := x.eid, prio := x.prio, due := none, taken := false }

/-- A presentation for a Nib-1 port (R54, R187): where another stands or has just gone, REQ is low first, for the blink. -/
def Port.offer (p : Port) (blink : Bool) (x : Shown) : Port :=
  if blink || p.req || p.due.isSome then { p with req := false, due := some x, taken := false } else p.drive x

/-- The cycle in which REQ is low ends, and the port drives what is due (R54, R189). -/
def Port.blinked (p : Port) : Port :=
  match p.due with
  | none => p
  | some x => p.drive x

/-- What stands at a nib target's port, agent or front file after an offer (R187, R200, R204). The blot always follows the
blink of a withdrawal (R189). -/
def State.showAt (s : State) (t : Nat) (vaddr : BitVec 50) (eid prio vector : Nat) (blot : Bool) : State :=
  let c := s.tgt t
  if c.path then s.onPort t fun p => { p with taken := false }
  else if s.isNib2 t then s.sendFlit t 1 c.pseq (presentPayload eid prio vector blot)
  else s.onPort t fun p => p.offer blot { vaddr := vaddr, eid := eid, prio := prio }

/-- The offer of event `e` at nib target `t` (R163, R183, R186). -/
def State.present (s : State) (t e : Nat) : State :=
  let r := s.source e
  let q := wrap 8 ((s.tgt t).pseq + 1)
  let s := s.putSource e { r with place := .presented, shownAt := some (t, q) }
  let s := s.onTgt t fun c => { c with pseq := q, held := true, blot := false, presLevel := r.prio, pres := some e,
                                       port := { c.port with confirmed := false } }
  s.showAt t ((s.tgt t).vectorAddr r.vector) e r.prio r.vector false

/-- The presentation of the blot at nib target `t` in place of an event of level `p` (R111, R115, R189). -/
def State.presentBlot (s : State) (t p : Nat) : State :=
  let q := wrap 8 ((s.tgt t).pseq + 1)
  let s := s.onTgt t fun c => { c with pseq := q, held := true, blot := true, presLevel := 64, pres := none,
                                       port := { c.port with confirmed := false } }
  (s.showAt t (s.tgt t).blotVa blotEid p 0 true).recCount 8 1

/-- Nothing stands at target `t` any more, and no withdrawal is in progress there. -/
def State.clearShown (s : State) (t : Nat) : State :=
  s.onTgt t fun c => { c with held := false, blot := false, presLevel := 64, pres := none, wdrBusy := false,
                              port := { c.port with req := false, due := none, taken := false } }

/-- Nib-1 port `t` is released and has its clock (R34, R56). -/
def State.nibClocked (s : State) (t : Nat) : Bool :=
  (tget (fun _ => false) s.pins.nibOk t : Bool) && !s.pins.absent.any (· == .nib (Fin.ofNat 1024 t))

/-- Attachment `g` is up and has its clock (R34, R57). -/
def State.linkOn (s : State) (g : Nat) : Bool :=
  (s.link g).up && !s.pins.absent.any (· == .link (Fin.ofNat 32 g))

/-- The management bus boundary takes requests: its clock is present (R34). -/
def State.portOn (s : State) : Bool := s.pins.mbOk && !s.pins.absent.contains .mb

/-- K_FAB_CLK runs at its boundaries. -/
def State.fabOn (s : State) : Bool := s.pins.fabOk && !s.pins.absent.contains .fab

/-- Intake takes new signals (R43, R47, R417, R435): from the assertion of a warm reset it does not until D6 is released again. -/
def State.intakeOpen (s : State) : Bool := !s.intakeShut && !s.quiescing 6 && !s.pwr.parking

/-- K_MIc_OPEN is high (R45, R47, R435). -/
def State.channelOpen (s : State) : Bool := s.fabOn && s.intakeOpen

/-- PORT_READY of a nib target (R171). -/
def State.portReady (s : State) (t : Nat) : Bool :=
  !s.isHeld 7 && (if (s.tgt t).path then s.portOn
    else if s.isNib2 t then s.linkOn (t / 32) else s.nibClocked t)

/-- The block may hand a new presentation to target `t`: it is ready, and a link that came up again has ended its
replay (R202). -/
def State.canOffer (s : State) (t : Nat) : Bool :=
  s.portReady t && !(s.isNib2 t && !(s.tgt t).path && (s.link (t / 32)).awaitReplay)

/-- The idle report of a target for the ligature bypass (R55, R193, R204, R245). -/
def State.reportsIdle (s : State) (t : Nat) : Bool :=
  let c := s.tgt t
  decide (t < 1024) && !c.path && (c.port.idle == 1 || c.port.idle == 2)

/-! ### The event engines (R267) -/

/-- The event engines take work: D5 and D2 are released, D5 is not going idle, and the rung is 0 or 1 (R417, R428). -/
def State.engineOn (s : State) : Bool := !s.isIdle 5 && !s.isHeld 2 && decide (s.pwr.rung < 2)

/-- The deficit counters and the visit of a cluster after it has chosen among the instances `all` (R267). -/
def Cluster.turn (c : Cluster) (weight : Nat → Nat) (all : List Nat) : Cluster :=
  let r := robin c.deficit c.visit weight all all
  { deficit := r.1, visit := r.2 }

/-- Cluster `c` runs a work item of instance `i` when its round robin chooses this instance among those with work waiting at it (R267);
another item of the cluster runs otherwise. The item leaves the cluster: its run of dual-rail failures ends (R450). -/
def State.byCluster (s : State) (c : Nat) (waiting : List (Fin 512)) (i : Nat) (run : State → State) : State :=
  let k := (tget (fun _ => {}) s.clusters c : Cluster).turn (fun i => (s.ctx i).weight) (addOnce i (waiting.map (·.val)))
  if k.visit = i then run (({ s with clusters := tset (fun _ => {}) s.clusters c k }).stageOk 4 c) else s

/-! ### Capture and running level at a take (R192, R208) -/

/-- The running level that the ranker uses changes with the reported value (R192). -/
def State.reportRun (s : State) (t v : Nat) : State :=
  s.onTgt t fun c => if c.runRpt = v then c else { c with runRpt := v, runEff := v, effEid := none }

/-- The effective running level after a take of event `e` at level `p` (R192). -/
def Tgt.takeLevel (c : Tgt) (e p : Nat) : Tgt := { c with runEff := min c.runRpt p, effEid := some e }

/-- The effective running level after the done of event `e` (R192). -/
def Tgt.doneLevel (c : Tgt) (e : Nat) : Tgt :=
  if c.effEid = some e then { c with runEff := c.runRpt, effEid := none } else c

/-- Bin of the intake-to-take latency (R470). -/
def latBin (a : Nat) : Nat := if a < 2 then 0 else min 30 (Nat.log2 a)

/-- A histogram bin of the working record moves up and saturates (R470). -/
def binUp (m : Table Nat) (k : Nat) : Table Nat :=
  tset (fun _ => 0) m k (sat (2 ^ 64 - 1) (tget (fun _ => 0) m k + 1))

/-- The latency histogram at a take (R470). -/
def State.latency (s : State) (t stamp : Nat) : State :=
  let a := (s.tick + 2 ^ 31 - stamp % 2 ^ 31) % 2 ^ 31
  { s with rcd := { s.rcd with work := { s.rcd.work with
      lat := binUp s.rcd.work.lat (t / 64 * 32 + latBin a) } } }

end Sys2Proof.Machine
end

