-- ==== Sys2Proof/Machine/Moderation.lean ====
section
/-! DEFINITION. Ligature groups (R237 to R248): windows, joins, counts and releases. -/
namespace Sys2Proof.Machine

/-- Bits [30:0] of a tick, as STAMP, START and CLOSED hold them (R124, R235). -/
def low31 (v : Nat) : Nat := v % 2 ^ 31

/-- Age of a tick at the tick after the present one, modulo 2^31 (R124, R235). CLOSED may name that tick. -/
def State.age (s : State) (v : Nat) : Nat := low31 (s.tick + 1 + 2 ^ 31 - low31 v)

/-- Length of the window of a group in ticks (R239). -/
def Group.span (g : Group) : Nat := g.timer * 32

/-- The tick of END of the open window, bits [30:0] (R239). -/
def Group.endTick (g : Group) : Nat := low31 (g.start + g.span)

/-- The tick has reached the END of the open window; without a good timebase no window has an END (R239, R240). -/
def State.endReached (s : State) (g : Nat) : Bool :=
  (s.grp g).open_ && s.tb.good && decide ((s.grp g).span + 1 ≤ s.age (s.grp g).start)

/-- A stamp lies at or after the END of the open window (R239, R240). -/
def State.pastEnd (s : State) (g stamp : Nat) : Bool :=
  (s.grp g).open_ && s.tb.good && decide ((s.grp g).span + s.age stamp ≤ s.age (s.grp g).start)

/-- The release-size histogram (R243, R470). -/
def State.sizeUp (s : State) (n : Nat) : State :=
  { s with rcd := { s.rcd with work := { s.rcd.work with lig := binUp s.rcd.work.lig (min 18 (Nat.log2 n)) } } }

/-- A release closes the window and detaches the held list as one batch, which takes a pool cell or waits for one (R126, R241,
R243). COUNT reads 0 and START stays while OPEN is 0 (assumption log 59). -/
def State.release (s : State) (g cause closed : Nat) : State :=
  let c := s.grp g
  let n := c.held.length
  let p := if n = 0 then (s, none) else s.takePool
  let b : Batch := { members := c.held, gen := (s.ctx c.inst).parity, cell := p.2 }
  let s' := p.1.putGrp g { c with
    open_ := false, count := 0, held := [], closed := if c.open_ then low31 closed else c.closed, lastSize := n,
    lastCause := cause, owed := 0, batches := if n = 0 then c.batches else c.batches ++ [b] }
  if n = 0 then s' else s'.sizeUp n

/-- A release that is applied at the present tick (R239). -/
def State.releaseNow (s : State) (g cause : Nat) : State := s.release g cause (s.tick + 1)

/-- The modes with an idle bypass (R27, R245). -/
def Mode.bypasses : Mode → Bool
  | .start => true
  | .test => true
  | .recovery => true
  | _ => false

/-- The idle bypass acts now (R27): in DUCTUS as in the mode that follows, which is START after a cold reset and else REBUILD; a held
uncontained fault leads to FAILSAFE (R26), which has none. -/
def State.bypasses (s : State) : Bool :=
  if s.mode.mode = .ductus then s.rst.coldReach && !s.mode.heldUncont && !s.isHeld 2 else s.mode.mode.bypasses

/-- A group's releases wait for the repair of its held list (R148). -/
def State.listHeld (s : State) (g : Nat) : Bool := s.repairing (.moderated (Fin.ofNat 65536 g))

/-- The idle bypass of one group, whenever LEN is not 0 (R245). It releases an open window also without a good timebase
(assumption log 60). -/
def State.bypass (s : State) (g : Nat) : State :=
  let c := s.grp g
  if s.bypasses && !c.held.isEmpty && s.reportsIdle c.bypTgt && !s.listHeld g then s.releaseNow g 3 else s

/-- The idle bypass of every group with a held list that watches target `t`. -/
def State.bypassFor (s : State) (t : Nat) : State :=
  forEach (s.groups.map (·.1)) (fun g s => if (s.grp g).bypTgt = t then s.bypass g else s) s

/-- Window, MODERATED and list of a member that joins (R238, R239). -/
def State.joinGroup (s : State) (e : Nat) : State :=
  let r := s.source e
  let s := s.onGrp r.group fun g =>
    if g.open_ then g else { g with open_ := true, start := low31 r.stamp, count := 0 }
  (((s.putSource e { r with held := { r.held with moderated := true } }).linkHeld e).bypass r.group)

/-- A count is stamped before CLOSED, and so stops at the first line of R239. -/
def State.beforeClosed (s : State) (x : LigCount) : Bool := decide (s.age (s.grp x.group).closed < s.age x.stamp)

/-- A count reaches its group (R239, R246). -/
def State.groupCount (s : State) (x : LigCount) : State :=
  let g := s.grp x.group
  if !g.en || s.mode.mode = .quiesce || s.beforeClosed x then s
  else
    let g := if g.open_ then g else { g with open_ := true, start := low31 x.stamp, count := 0 }
    let g := { g with count := g.count + 1 }
    let s := s.putGrp x.group g
    if g.thresh ≤ g.count then s.release x.group 1 (x.stamp + 1) else s

end Sys2Proof.Machine
end

