-- ==== Sys2Proof/Machine/Placing.lean ====
section
/-! DEFINITION. Queue or hold (R101, R161, R261, R265, R491) the release of a source from a held
list (R266, R268), guest tables (R260) and splices (R166, R167). -/
namespace Sys2Proof.Machine

/-- The deputy can serve (R161, R259). -/
def State.deputyServes (s : State) (t : Nat) : Bool :=
  let d := s.tgt (s.tgt t).deputy
  (s.tgt t).depEn && d.svc == .online && !d.virt

/-- The serving target of an event with static target `t` (R161). -/
def State.servingOf (s : State) (t : Nat) : Nat :=
  if (s.tgt t).svc = .online then t else if s.deputyServes t then (s.tgt t).deputy else t

/-- The event is queued at its serving target with one cell reserved (R127, R153, R161). -/
def State.enqueue (s : State) (e : Nat) : State :=
  let r := s.source e
  let t := s.servingOf r.target
  let s := s.putSource e { r with place := .queued, serving := t, carried := false }
  let s := s.onCtx r.inst fun i => { i with cellsPlaced := i.cellsPlaced + 1 }
  s.linkTail t r.prio e

/-- Set one reason and put the source on its list (R101, R125). -/
def State.hold (s : State) (e : Nat) (f : Held → Held) : State :=
  (s.onSource e fun r => { r with held := f r.held }).linkHeld e

/-- The same for an event that a ligature release may carry, which stays carried (R101, R242). -/
def State.holdCarried (s : State) (e : Nat) (carried : Bool) (f : Held → Held) : State :=
  (s.onSource e fun r => { r with carried := carried }).hold e f

/-- What a queue-or-hold decision disregards: the list that the source has just left (R261, R265) and its ligature
group (R101). -/
structure Left where
  moderated : Bool := false
  dormant : Bool := false
  rate : Bool := false
  quota : Bool := false
  deriving DecidableEq, Repr

/-- The event is dormant (R261). -/
def State.isDormant (s : State) (e : Nat) (left : Left) : Bool :=
  let r := s.source e
  let c := s.tgt r.target
  r.inst != 0 && c.virt && (c.resInst != r.inst || (!left.dormant && !(c.dormList r.inst).isEmpty))

/-- The checks of RATE and QUOTA, and the queueing (R265). -/
def State.rateOrQueue (s : State) (e : Nat) (left : Left) : State :=
  let r := s.source e
  let i := s.ctx r.inst
  if i.rate != 0 && (i.tokens == 0 || (!left.rate && !i.rateList.isEmpty)) then
    (s.holdCarried e left.moderated fun h => { h with rate := true }).onCtx r.inst
      fun i => { i with statRate := true, statSeq := seqUp i.statSeq }
  else if decide (i.quota ≤ i.cellsPlaced) || (!left.quota && !i.quotaList.isEmpty) then
    (s.holdCarried e left.moderated fun h => { h with quota := true }).onCtx r.inst
      fun i => { i with statQuota := true, statSeq := seqUp i.statSeq }
  else
    let s := s.onCtx r.inst fun i => if i.rate = 0 then i else { i with tokens := i.tokens - 1 }
    s.enqueue e

/-- An event is due to be queued: the checks of R101 in their order. A join that belongs to the next window waits
(R239). -/
def State.queueOrHold (s : State) (e : Nat) (left : Left) : State :=
  let r := s.source e
  if r.st != .pending || r.placed || r.held.any then s
  else if s.mode.mode = .failsafe && !presentable e then s
  else if (s.ctx r.inst).frozen then s.holdCarried e left.moderated fun h => { h with frozen := true }
  else if s.isDormant e left then s.holdCarried e left.moderated fun h => { h with dormant := true }
  else if s.isMember e && !left.moderated && s.mode.mode != .quiesce then
    if s.pastEnd r.group r.stamp then s else s.joinGroup e
  else s.rateOrQueue e left

/-- Queue or hold as one change of the record. -/
def State.placeNow (s : State) (e : Nat) (left : Left) : State :=
  let r0 := s.source e
  (s.queueOrHold e left).commit e r0

/-- A source leaves the list of a reason, and the check is repeated (R101). A member that was held for its group as well
joins it again (R249). -/
def State.releaseFrom (s : State) (e : Nat) (f : Held → Held) (left : Left) : State :=
  let r0 := s.source e
  let s := s.unlinkHeld e
  let s := s.onSource e fun r => { r with held := f r.held }
  let s := if (s.source e).held.first = some .moderated then
      s.onSource e fun r => { r with held := { r.held with moderated := false } } else s
  let s := if (s.source e).held.any then s.linkHeld e else s.queueOrHold e left
  s.commit e r0

/-! ### Guest tables (R260) -/

/-- The lowest entry of a guest table that is not in use. -/
def Tgt.freeEntry (c : Tgt) : Nat :=
  ((List.range 32).find? fun e => !c.guests.any fun g => g.inst != 0 && g.entry == e).getD 32

/-- SRCS of (t, i) rises by one, with a new entry where there was none. -/
def State.guestIn (s : State) (t i : Nat) : State :=
  if i = 0 ∨ 1024 ≤ t then s
  else s.onTgt t fun c =>
    if (c.guest i).isSome then
      { c with guests := c.guests.map fun g => if g.inst == i then { g with srcs := g.srcs + 1 } else g }
    else { c with guests := (c.guests.filter fun g => g.entry != c.freeEntry) ++ [{ inst := i, entry := c.freeEntry, srcs := 1 }] }

/-- SRCS of (t, i) falls by one; the entry is freed at 0. -/
def State.guestOut (s : State) (t i : Nat) : State :=
  if i = 0 ∨ 1024 ≤ t then s
  else s.onTgt t fun c =>
    let gs := c.guests.map fun g => if g.inst == i then { g with srcs := g.srcs - 1 } else g
    { c with guests := gs.filter fun g => !(g.inst == i && g.srcs == 0) }

/-- A further source of guest `i` fits in the guest table of nib target `t`; VI 0 and far targets need no entry. -/
def State.guestFits (s : State) (t i : Nat) : Bool :=
  i == 0 || decide (1024 ≤ t) || ((s.tgt t).guest i).isSome || decide (((s.tgt t).guests.filter fun g => g.inst != 0).length < 32)

/-- Source `e` fits in the guest tables after its move to target `t` and owner `i`; the entry that it leaves is freed first
(R260). -/
def State.moveFits (s : State) (e t i : Nat) : Bool :=
  let r := s.source e
  (s.guestOut r.target r.inst).guestFits t i

/-- A source changes its static target or owner: the guest tables follow. -/
def State.reroute (s : State) (e t i : Nat) : State :=
  let r := s.source e
  if r.target = t ∧ r.inst = i then s
  else ((s.guestOut r.target r.inst).guestIn t i).onSource e fun r => { r with target := t, inst := i }

/-! ### Splices (R166, R167) -/

/-- The level queues of `t` are appended to those of its deputy, lowest level first, and the deputy's bitmap and counters are made
again from its queues (R167). -/
def State.splice (s : State) (t : Nat) : State :=
  let d := (s.tgt t).deputy
  let qs := (s.tgt t).queues
  let s := forEach qs (fun p s => s.onTgt d fun c => c.putLevel p.1 (c.level p.1 ++ p.2)) s
  let s := forEach qs (fun p s => forEach p.2 (fun e s => s.onSource e fun r => { r with serving := d }) s) s
  let s := s.onTgt d Tgt.recount
  s.onTgt t fun c => { c with queues := [], bits := 0, counts := [] }

/-- A splice of a target that has left ONLINE: nothing is presented or withdrawing there, it has waiting events,
and its deputy serves (R167). -/
def State.trySplice (s : State) (t : Nat) : State :=
  let c := s.tgt t
  if c.svc != .online && c.pres.isNone && !c.queues.isEmpty && s.deputyServes t then s.splice t else s

/-- Steps 2 and 3 of R166, once the withdrawal of step 1 has resolved: the splice and the start of the taker sweep. -/
def State.settleSplice (s : State) (t : Nat) : State :=
  if (s.tgt t).spliceDue then
    ((s.onTgt t fun c => { c with spliceDue := false, sweep := true }).trySplice t).startSweep (.taker (Fin.ofNat 1536 t))
  else s

end Sys2Proof.Machine
end

