-- ==== Sys2Proof/Machine/Defer.lean ====
section
/-! DEFINITION. Deferred commands and their second replies (R313, R321, R325). -/
namespace Sys2Proof.Machine

/-- The second reply of a deferred command; OK becomes OK_CLAMPED where a field was clamped (R310). -/
def State.answer (s : State) (d : Deferred) (status : Nat) (result : List (BitVec 64)) : State :=
  let st := if status = 0 && d.clamped then 1 else status
  let s := { s with cmd := { s.cmd with deferred := s.cmd.deferred.filter (·.id != d.id) } }
  s.reply d.q { tag := d.tag, status := st, opcode := d.opcode, second := true, result := result }

/-- Every fence whose queue has no earlier deferred command is answered with its words (R321). -/
def State.settleFences (s : State) : State :=
  forEach s.cmd.deferred (fun d s =>
    match d.work with
    | .fence ws =>
      if s.cmd.deferred.any (fun x => x.q == d.q && decide (x.id < d.id)) then s else s.answer d 0 ws
    | _ => s) s

/-- A deferred command ends. -/
def State.second (s : State) (d : Deferred) (status : Nat) (result : List (BitVec 64)) : State :=
  (s.answer d status result).settleFences

/-- The deferred commands that wait for exactly this work end with a status, in the order of issue. -/
def State.finishWork (s : State) (w : Work) (status : Nat) (result : List (BitVec 64)) : State :=
  forEach (s.cmd.deferred.filter fun d => d.work == w) (fun d s => s.second d status result) s

/-- A change of the work of one deferred command. -/
def State.rework (s : State) (id : Nat) (w : Work) : State :=
  { s with cmd := { s.cmd with deferred := s.cmd.deferred.map fun d => if d.id = id then { d with work := w } else d } }

/-- A deferred command joins the list, which is kept in the order of issue (R116, R313). -/
def State.joinDeferred (s : State) (d : Deferred) : State :=
  { s with cmd := { s.cmd with
      deferred := s.cmd.deferred.filter (fun x => decide (x.id < d.id)) ++ d :: s.cmd.deferred.filter (fun x => decide (d.id < x.id)) } }

/-- The next number in the order of issue is given out. -/
def State.issued (s : State) : State := { s with cmd := { s.cmd with nextId := s.cmd.nextId + 1 } }

/-- A command is deferred as it is issued: its work joins the list (R313). -/
def State.defer (s : State) (q tag opcode : Nat) (clamped : Bool) (w : Work) : State :=
  (s.joinDeferred { id := s.cmd.nextId, q := q, tag := tag, opcode := opcode, clamped := clamped, work := w }).issued

/-- Result word of SRC_ENABLE and SRC_DISABLE (R325). -/
def pairWord (lo hi : Nat) : BitVec 64 := w64 (lo + hi * 2 ^ 32)

/-- A drain that completes counts for the commands whose first reply is still to come (R119, R325). -/
def CmdPart.drained (p : CmdPart) (e : Nat) : CmdPart :=
  let n := p.deferring.countP (· == e)
  { p with late := if p.cancelled.contains e then p.late else p.late + n,
           busy := if p.cancelled.contains e then p.busy + n else p.busy,
           deferring := without e p.deferring, cancelled := without e p.cancelled }

/-- The same for every queue. -/
def State.partsDrained (s : State) (e : Nat) : State :=
  { s with cmd := { s.cmd with parts := s.cmd.parts.map fun x => (x.1, x.2.map fun p => p.drained e) } }

/-- The drain of source `e` is complete: every command that waits for it goes on (R116, R118, R325). -/
def State.sourceReplies (s : State) (e : Nat) : State :=
  forEach s.cmd.deferred (fun d s =>
    match d.work with
    | .enableSources w c ok busy =>
      if w.contains e then
        let bad := c.contains e
        let n := w.countP (· == e)
        let ok := if bad then ok else ok + n
        let busy := if bad then busy + n else busy
        let w := without e w
        if w.isEmpty then s.second d (if busy = 0 then 0 else 0x14) [pairWord ok busy]
        else s.rework d.id (.enableSources w (without e c) ok busy)
      else s
    | .disableSources w ok =>
      if w.contains e then
        let ok := ok + w.countP (· == e)
        let w := without e w
        if w.isEmpty then s.second d 0 [pairWord ok 0] else s.rework d.id (.disableSources w ok)
      else s
    | _ => s) (s.partsDrained e)

/-- A disable cancels every deferred enable of source `e` (R116, R118). -/
def State.cancelEnables (s : State) (e : Nat) : State :=
  { s with cmd := { s.cmd with
      deferred := s.cmd.deferred.map (fun d =>
        match d.work with
        | .enableSources w c ok busy =>
          if w.contains e then { d with work := .enableSources w (addOnce e c) ok busy } else d
        | _ => d),
      parts := s.cmd.parts.map fun x => (x.1, x.2.map fun p =>
        if p.cmd = .enable ∧ e ∈ p.deferring then { p with cancelled := addOnce e p.cancelled } else p) } }

/-- A disable cancels the deferred enables of one object; their second replies will carry BUSY. -/
def State.cancelWork (s : State) (up : Work) (kind obj : Nat) : State :=
  { s with cmd := { s.cmd with deferred := s.cmd.deferred.map fun d =>
      if d.work = up then { d with work := .cancelled kind obj } else d } }

/-- The drain of one object is complete: its deferred enables and disables are answered in the order of issue, a
cancelled enable with BUSY (R165, R248, R270); `result` gives the words of each reply. -/
def State.objectReplies (s : State) (up down : Work) (kind obj : Nat)
    (result : State → List (BitVec 64) := fun _ => []) : State :=
  forEach s.cmd.deferred (fun d s =>
    if d.work = up || d.work = down then s.second d 0 (result s)
    else if d.work = .cancelled kind obj then s.second d 0x14 (result s)
    else s) s

end Sys2Proof.Machine
end

