-- ==== Sys2Proof/Machine/Bank.lean ====
section
/-! DEFINITION. Orders at a home bank (R102 to R119): intake signals, takes, dones, withdrawals and their
resolution, disable, enable and drain, the held reasons set by a sweep, and the discards of a reset (R106, R110,
R274). -/
namespace Sys2Proof.Machine

/-! ### Wait slots (R105) -/

/-- Park an order until the withdrawal of source `e` resolves. -/
def State.park (s : State) (e : Nat) (o : Order) : State := { s with parked := s.parked ++ [(e, o)] }

/-! ### Endings (R106, R110, R216) -/

/-- A record without a pending event: the fields that apply only to one read 0 (R98). -/
def SrcRec.atRest (r : SrcRec) : SrcRec :=
  { r with held := {}, place := .unplaced, wcause := .preemption, originLevel := false, carried := false }

/-- The pending event of `e` ends with unit `u`; the source goes to state `st`. -/
def State.endPending (s : State) (e : Nat) (u : Tally) (st : SrcState) : State :=
  let r := s.source e
  let s := if r.placed then s.freeCell e else s.unlinkHeld e
  (s.onSource e fun r => { r.atRest with st := st }).ledge r.inst u

/-- A service ends without or with a done: a far target's level is open again (R216). It is the level of the present PRIO, which only a
BULK_LOAD changes while a source is in service (assumption log 79). -/
def State.endService (s : State) (e : Nat) : State :=
  let r := s.source e
  if r.taker < 1024 then s
  else s.onFar r.taker fun f => { f with inserv := if f.inserv.testBit r.prio then f.inserv - 2 ^ r.prio else f.inserv }

/-- The event in service of `e` ends under R110: Active becomes Inactive, Active+Pending becomes Pending. -/
def State.endActive (s : State) (e : Nat) : State :=
  let s := s.endService e
  s.onSource e fun r =>
    match r.st with
    | .active => { r with st := .inactive }
    | .activePending => { r with st := .pending }
    | _ => r

/-! ### Drains of a source (R116, R118) -/

/-- A source becomes ENABLED: a level that stands produces an assertion with the present stamp (R118). -/
def State.enabledNow (s : State) (e : Nat) : State :=
  let r := s.source e
  let s := s.putSource e { r with en := true, drain := false }
  if s.sensedLevel e && r.level then s.accept e true 0 s.tick else s

/-- A drain completes when the source is Inactive and unplaced (R116). -/
def State.drainCheck (s : State) (e : Nat) : State :=
  let r := s.source e
  if r.drain && r.st == .inactive && !r.placed then
    let s := if r.en then s.enabledNow e else s.putSource e { r with drain := false }
    s.sourceReplies e
  else s

/-! ### Withdrawals (R111) -/

/-- A withdrawal starts: PLACE withdrawing with its cause, sent to the target (R111, R200). -/
def State.startWithdrawal (s : State) (e : Nat) (cause : WCause) : State :=
  let r := s.source e
  let t := r.serving
  let s := s.putSource e { r with place := .withdrawing, wcause := cause }
  let s := s.onTgt t fun c => { c with wdrBusy := true }
  if s.isNib2 t && !(s.tgt t).path && s.linkOn (t / 32) then s.sendFlit t 2 (s.tgt t).pseq 0 else s

/-- A class 1 discard of the source's event (R106, R110, R111). -/
def State.discard (s : State) (e : Nat) (u : Tally) (cause : WCause) : State :=
  let r := s.source e
  let s : State :=
    match r.st with
    | .inactive => s
    | .pending =>
      if r.place == .presented then s.startWithdrawal e cause
      else if r.place == .withdrawing then s.putSource e { r with wcause := cause }
      else s.endPending e u .inactive
    | .active => s.endActive e
    | .activePending => (s.endService e).endPending e u .inactive
  s.drainCheck e

/-- A stale discard, noted in INST_STAT (R273, R278). -/
def State.discardStale (s : State) (e : Nat) : State :=
  let r := s.source e
  if r.st == .inactive then s
  else (s.discard e .stale .stale).onCtx r.inst fun i => { i with statStale := true, statSeq := seqUp i.statSeq }

/-- The record carries the retired generation of its instance (R274); a withdrawal that has the cause stale is the discard
already under way (R111, R273). -/
def State.isStale (s : State) (e : Nat) : Bool :=
  let r := s.source e
  let i := s.ctx r.inst
  i.oldGen && r.st != .inactive && r.gen != i.parity && !(r.place == .withdrawing && r.wcause == .stale)

/-- The stale discard that goes ahead of every order and engine result (R102, R274). -/
def State.staleFirst (s : State) (e : Nat) : State := if s.isStale e then s.discardStale e else s

/-- One order at the home bank of `e`: the stale discard, the order, and one change counted. The word has passed the stage of
the bank (R450). -/
def State.atBank (s : State) (e : Nat) (f : State → State) : State :=
  let r0 := s.source e
  ((f (s.staleFirst e)).commit e r0).stageOk 8 (e % 64)

/-- The source's withdrawal is in progress (R105). -/
def State.withdrawing (s : State) (e : Nat) : Bool := (s.source e).place == .withdrawing

/-! ### Takes and dones (R106, R108, R109) -/

/-- A take of the pending event of `e` by target `t` with presentation number `q` (R95, R106, R109, R208). -/
def State.honour (s : State) (t e q : Nat) : State :=
  let r := s.source e
  let s := s.freeCell e
  let s := s.onSource e fun r => { r.atRest with st := .active, taker := t, merged := false }
  let s := s.ledge r.inst .deliver
  let cap : Capture := { payload := r.payload, eid := e, merged := r.merged, pseq := q }
  let s := s.onTgt t fun c => { c with pay := tset (fun _ => {}) c.pay r.prio cap }
  s.latency t r.stamp

/-- The done of a source in service at its record (R106, R108, R192). -/
def State.doneRecord (s : State) (t e : Nat) : State :=
  let r := s.source e
  let s := s.onTgt t fun c => c.doneLevel e
  match r.st with
  | .active =>
    let s := s.putSource e { r with st := .inactive }
    let s := if s.sensedLevel e && r.level && r.enabled && (s.ctx r.inst).serving then s.accept e true 0 s.tick else s
    s.drainCheck e
  | .activePending =>
    let s := s.putSource e { r with st := .pending }
    s.linkHeld e
  | _ => s

/-- The done of a source in service, which opens the level of a far taker (R216). -/
def State.doneNow (s : State) (t e : Nat) : State := (s.endService e).doneRecord t e

/-- A take with what follows at a far target: the done of an auto-completing one, which has no level of INSERV to open, or INSERV
(R109, R216). -/
def State.takeNow (s : State) (t e q : Nat) : State :=
  let p := (s.source e).prio
  let s := s.honour t e q
  if t < 1024 then s
  else if (s.tgt t).far.taking then s.doneRecord t e
  else s.onFar t fun f => { f with inserv := f.inserv ||| 2 ^ p }

/-! ### Orders -/

/-- A relay cell is freed (R226). -/
def State.freeRelay (s : State) (e : Nat) : State :=
  let mine := s.relays.filter fun c => c.mid == e - 0x1000
  { s with relays := mine.drop 1 ++ s.relays.filter fun c => c.mid != e - 0x1000 }

/-- A relay record counts as applied or refused, and its cell is freed (R226 to R228). -/
def State.relayDone (s : State) (e : Nat) (f : PulseFrom) (refused : Bool) : State :=
  if f.relay then
    let s := s.freeRelay e
    { s with ldg := { s.ldg with
        relayRecv := if refused then s.ldg.relayRecv else wrap 32 (s.ldg.relayRecv + 1),
        relayRefused := if refused then wrap 32 (s.ldg.relayRefused + 1) else s.ldg.relayRefused } }
  else s

/-- EIDs of the switch sources (R73). -/
def isSwitchEid (e : Nat) : Bool := decide (0x800 ≤ e) && decide (e < 0xA00)

/-- A pulse at its record (R86, R91, R106). A relay record of a retired generation is freed without acting (R273). -/
def State.applyPulse (s : State) (e : Nat) (payload : BitVec 32) (stamp : Nat) (f : PulseFrom) : State :=
  match f.owner with
  | none => s.accept e false payload stamp
  | some i =>
    if f.relay && (s.ctx i).oldGen && f.gen != (s.ctx i).parity then s.freeRelay e
    else if (s.source e).inst = i then (s.accept e false payload stamp).relayDone e f false
    else (s.refuse 0xA 0 f i).relayDone e f true

/-- A redundant level item of a switch source is counted and ignored (R83). -/
def State.redundantItem (s : State) : State :=
  { s with cfg := { s.cfg with swsRedund := wrap 32 (s.cfg.swsRedund + 1) } }

/-- An assertion at its record (R79, R83, R106). -/
def State.applyAssert (s : State) (e stamp : Nat) : State :=
  if isSwitchEid e && (s.source e).level then s.redundantItem
  else (s.onSource e fun r => { r with level := true }).accept e true 0 stamp

/-- A deassertion at its record (R79, R82, R83, R106, R117). -/
def State.applyDeassert (s : State) (e : Nat) : State :=
  if isSwitchEid e && !(s.source e).level then s.redundantItem
  else
    let s := s.onSource e fun r => { r with level := false }
    let r := s.source e
    if r.enabled && r.originLevel then
      match r.st, r.place with
      | .pending, .presented => s.startWithdrawal e .deassertion
      | .pending, .withdrawing => s.putSource e { r with wcause := .deassertion }
      | .pending, _ => s.endPending e .withdraw .inactive
      | .activePending, _ => s.endPending e .withdraw .active
      | _, _ => s
    else s

/-- A pulse as an order of intake. -/
def State.orderPulse (s : State) (e : Nat) (payload : BitVec 32) (stamp : Nat) (f : PulseFrom) : State :=
  s.atBank e fun s =>
    if s.withdrawing e then s.park e (.pulse payload stamp f) else s.applyPulse e payload stamp f

/-- An assertion as an order of intake. -/
def State.orderAssert (s : State) (e stamp : Nat) : State :=
  s.atBank e fun s => if s.withdrawing e then s.park e (.assertion stamp) else s.applyAssert e stamp

/-- A deassertion as an order of intake. -/
def State.orderDeassert (s : State) (e : Nat) : State :=
  s.atBank e fun s => if s.withdrawing e then s.park e .deassertion else s.applyDeassert e

/-- A done from target `t` for EID `e` (R55, R108). -/
def State.orderDone (s : State) (t e : Nat) (reg : Bool) : State :=
  if 0x41000 ≤ e then s.nibNotice t 1
  else s.atBank e fun s =>
    if s.withdrawing e then s.park e (.done t reg)
    else
      let r := s.source e
      if r.inService && r.taker == t then s.doneNow t e else s.nibNotice t 1

/-! ### Lines (R78 to R82) -/

/-- The synchronised input is at the active level of POL (R79). -/
def State.lineActive (s : State) (k : Nat) : Bool := (s.line k).input != (s.lineCfg k).pol

/-- The level that an order leaves, where it carries one. -/
def Order.levelAfter : Order → Option Bool
  | .assertion _ => some true
  | .deassertion => some false
  | _ => none

/-- The last level that intake saw (R79): LEVEL, or the level of the last parked signal. -/
def State.seenLevel (s : State) (k : Nat) : Bool :=
  s.parked.foldl (fun v p => if p.1 = k then p.2.levelAfter.getD v else v) (s.source k).level

/-- The intake signals of a caught change of line `k` (R78, R79), applied to the record: level sense compares the
input with LEVEL, edge sense gives one pulse. -/
def State.handoff (s : State) (k : Nat) (levelSense : Bool)
    (pulse assertion deassertion : State → State) : State :=
  if levelSense then
    let now := s.lineActive k
    if now != s.seenLevel k then (if now then assertion s else deassertion s)
    else if now then assertion (deassertion s) else deassertion (assertion s)
  else pulse s

/-- A hand-off within an order of the block's own (R80, R82): the signals are applied at once, and the latch is
cleared. -/
def State.handoffNow (s : State) (k : Nat) (levelSense : Bool) : State :=
  if (s.line k).latch then
    let t := s.tick
    (s.handoff k levelSense (fun s => s.applyPulse k 0 t {}) (fun s => s.applyAssert k t)
      (fun s => s.applyDeassert k)).onLine k fun l => { l with latch := false }
  else s

/-- LEVEL is set to the present input and no signal is produced (R80, R82). -/
def State.setLevel (s : State) (k : Nat) : State :=
  let now := s.lineActive k
  s.onSource k fun r => { r with level := now }

/-- SENSE as a write leaves it before the clamp, where the write selects one of its bits (R353). -/
def LineWrite.sense (w : LineWrite) (c : LineCfg) : Option Nat :=
  if nfld w.mask 0 2 = 0 then none else some (nfld ((c.sense &&& (0xFFFFFFFF - w.mask)) ||| (w.data &&& w.mask)) 0 2)

/-- LINE_CFG after a write (R76): a field that is not selected keeps its value, and SENSE 0b11 is clamped to 0b00. -/
def LineWrite.over (w : LineWrite) (c : LineCfg) : LineCfg :=
  { sense := match w.sense c with
      | none => c.sense
      | some v => if v = 3 then 0 else v,
    pol := if w.mask.testBit 2 then w.data.testBit 2 else c.pol,
    clamped := match w.sense c with
      | none => c.clamped
      | some v => v == 3 }

/-- A write of LINE_CFG takes effect at the home bank: its clamp is recorded, and a change of SENSE or POL goes through the three
steps of R80 (R353, R357). -/
def State.applyLineCfg (s : State) (k : Nat) (w : LineWrite) : State :=
  let c0 := s.lineCfg k
  let c := w.over c0
  let s := if w.sense c0 = some 3 then s.clamp (clampReg (0x20000 + 4 * k) 0) 3 0 false true 2 else s
  let put := fun (s : State) => { s with cfg := { s.cfg with lineCfg := tset (fun _ => {}) s.cfg.lineCfg k c } }
  if c.sense = c0.sense ∧ c.pol = c0.pol then put s
  else ((put (s.handoffNow k (s.lineLevelOnly k))).onLine k fun l => { l with latch := false }).setLevel k

/-- The same as an order. -/
def State.orderLineCfg (s : State) (k : Nat) (w : LineWrite) : State :=
  s.atBank k fun s => if s.withdrawing k then s.park k (.lineCfg w) else s.applyLineCfg k w

/-! ### Disable and enable (R116, R118) -/

/-- SRC_DISABLE at one source; the answer is whether it defers. -/
def State.disableSource (s : State) (e : Nat) : State × Bool :=
  let r0 := s.source e
  let s := s.staleFirst e
  let r := s.source e
  let off := fun (s : State) (drain : Bool) => s.onSource e fun r => { r with en := false, drain := drain }
  if r.drain then (((s.cancelEnables e).onSource e fun r => { r with en := false }).commit e r0, true)
  else if !r.en then (s.commit e r0, false)
  else
    match r.st with
    | .inactive => ((off s false).commit e r0, false)
    | .pending =>
      if r.place == .presented then (((off s true).startWithdrawal e .disable).commit e r0, true)
      else (((off s false).endPending e .disabled .inactive).commit e r0, false)
    | .active => ((off s true).commit e r0, true)
    | .activePending => (((off s true).endPending e .disabled .active).commit e r0, true)

/-- SRC_ENABLE at one source; the answer is whether it defers. -/
def State.enableSource (s : State) (e : Nat) : State × Bool :=
  let r0 := s.source e
  let s := s.staleFirst e
  let r := s.source e
  if r.drain then ((s.onSource e fun r => { r with en := true }).commit e r0, true)
  else if r.en then (s.commit e r0, false)
  else ((s.enabledNow e).commit e r0, false)

/-- SRC_ENABLE at one source; a DISABLED wired line that is sensed as a level first takes LEVEL from its input (R118, R443). -/
def State.enableOne (s : State) (e : Nat) : State × Bool :=
  let r := s.source e
  (if decide (e < 0x800) && s.lineLevelOnly e && !r.en && !r.drain then s.setLevel e else s).enableSource e

/-! ### Orders of commands at sources (R105, R119, R323 to R326) -/

/-- The instance of source `e` is FROZEN (R283). -/
def State.frozenAt (s : State) (e : Nat) : Bool := (s.ctx (s.source e).inst).frozen

/-- The value of a field after a setting. -/
def SrcSet.route (c : SrcSet) (r : SrcRec) : Nat × Nat := (c.target.getD r.target, c.inst.getD r.inst)

/-- The settings applied to the source, as one order (R119, R323). -/
def State.configSource (s : State) (e : Nat) (c : SrcSet) : State :=
  s.atBank e fun s =>
    let dest := c.route (s.source e)
    (s.reroute e dest.1 dest.2).onSource e fun r =>
      { r with vector := c.vector.getD r.vector, prio := c.prio.getD r.prio, group := (c.group.map (·.1)).getD r.group,
               groupEn := (c.group.map (·.2)).getD r.groupEn }

/-- Queue `q` may name source `e` (R103). -/
def State.owns (s : State) (q e : Nat) : Bool :=
  (s.queue q).bindInst == 0 || (s.source e).inst == (s.queue q).bindInst

/-- The status of SRC_CONFIG where it is not applied (R312). -/
def State.configRefused (s : State) (q e : Nat) (c : SrcSet) : Option Nat :=
  let r := s.source e
  let dest := c.route r
  if !s.owns q e || ((s.queue q).bindInst != 0 && dest != (r.target, r.inst)) then some 0x13
  else if r.en || r.drain || r.st != .inactive || s.frozenAt e then some 0x14
  else if dest != (r.target, r.inst) && !s.moveFits e dest.1 dest.2 then some 0x18
  else none

/-- OUTCOME of a pulse at source `e` (R326). -/
def State.outcome (s : State) (e : Nat) : Nat :=
  let r := s.source e
  if !(r.enabled && (s.ctx r.inst).serving) then 2 else if r.pend then 1 else 0

/-- The command of queue `q` that has orders at home banks. -/
def State.part (s : State) (q : Nat) : Option CmdPart := tget (fun _ => none) s.cmd.parts q
def State.putPart (s : State) (q : Nat) (p : Option CmdPart) : State :=
  { s with cmd := { s.cmd with parts := tset (fun _ => none) s.cmd.parts q p } }

/-- Result words of SRC_CONFIG, SRC_READ and SRC_INJECT. -/
def CmdPart.result (p : CmdPart) : List (BitVec 64) :=
  match p.cmd with
  | .inject => if p.status = 0 then [w64 p.outcome] else []
  | _ => p.words.flatMap fun x => [x.2.1, x.2.2]

/-- The first reply of a command whose orders have all been applied: DEFERRED where any source deferred, and the second at once where
all of those have completed meanwhile (R119, R310, R325). -/
def State.finishPart (s : State) (q : Nat) : State :=
  match s.part q with
  | none => s
  | some p =>
    if p.left ≠ 0 then s
    else
      let s := (s.putPart q none).onQueue q fun c => { c with cur := none }
      let give := fun (s : State) (st : Nat) (ws : List (BitVec 64)) =>
        s.reply q { tag := p.tag, status := st, opcode := p.opcode, second := false, result := ws }
      let ok := if p.clamped then 1 else 0
      if p.cmd != .enable && p.cmd != .disable then give s (if p.status = 0 then ok else p.status) p.result
      else
        let n := p.deferring.length + p.late + p.busy
        if n = 0 then give s ok [pairWord p.ok 0]
        else
          let w : Work := if p.cmd = .enable then .enableSources p.deferring p.cancelled (p.ok + p.late) p.busy
            else .disableSources p.deferring (p.ok + p.late)
          let d : Deferred := { id := p.id, q := q, tag := p.tag, opcode := p.opcode, clamped := p.clamped, work := w }
          let s := give (s.joinDeferred d) 2 [pairWord p.ok n]
          if p.deferring.isEmpty then s.second d (if p.busy = 0 then 0 else 0x14) [pairWord (p.ok + p.late) p.busy] else s

/-- One order of an enable or a disable, and what it leaves of the command. -/
def CmdPart.ran (p : CmdPart) (e : Nat) (defers : Bool) : CmdPart :=
  if defers then { p with deferring := p.deferring ++ [e] } else { p with ok := p.ok + 1 }

/-- The order of the command of queue `q` at source `e`. -/
def State.runAt (s : State) (q e : Nat) (p : CmdPart) : State × CmdPart :=
  match p.cmd with
  | .enable => let r := s.enableOne e; (r.1, p.ran e r.2)
  | .disable => let r := s.disableSource e; (r.1, p.ran e r.2)
  | .read => (s, { p with words := tinsert e ((s.source e).word0, (s.source e).word1) (terase p.words e) })
  | .inject => (s.atBank e fun s => s.applyPulse e 0 p.stamp {}, { p with outcome := s.outcome e })
  | .config c cl =>
    match s.configRefused q e c with
    | some st => (s, { p with status := st })
    | none =>
      let s := (forEach cl (fun x s => s.clamp x.1 x.2.1 x.2.2.1 false false x.2.2.2) s).configSource e c
      (s, { p with words := [(e, (s.source e).word0, (s.source e).word1)] })

/-- The order of the command of queue `q` reaches the home bank of source `e`: the stale discard first; while a withdrawal is in
progress the order is parked (R102, R105). -/
def State.orderCommand (s : State) (q e : Nat) : State :=
  let s := if s.isStale e then s.atBank e id else s
  if s.withdrawing e then s.park e (.command q)
  else match s.part q with
    | none => s
    | some p =>
      let r := s.runAt q e { p with left := p.left - 1 }
      ((r.1.putPart q (some r.2)).finishPart q).stageOk 8 (e % 64)

/-! ### Resolution of a withdrawal (R111 to R114) -/

/-- The unit and the cause kinds of R111. -/
def WCause.unit : WCause → Option Tally
  | .deassertion => some .withdraw
  | .disable => some .disabled
  | .stale => some .stale
  | .reset => some .reset
  | _ => none

/-- What the target showed of the withdrawn event goes away (R112, R114, R219). -/
def State.clearTarget (s : State) (t : Nat) (keepMove : Bool) : State :=
  let s := { s with waiting := s.waiting.filter (·.2 != Order.returned t) }
  if t < 1024 then s.clearShown t
  else
    let s := s.onTgt t fun c => { c with pres := none, wdrBusy := false, port := { c.port with taken := false } }
    s.onFar t fun f => { f with ready := none, wakeCand := f.wakeCand && keepMove, retryDue := none,
                                moveTo := if keepMove then f.moveTo else none }

/-- A withdrawal is resolved as withdrawn: the displacing causes leave the event pending, the releasing ones end it (R111); a
releasing cause leaves the blot at a nib target that showed the event (R112, R200, R204). -/
def State.endWithdrawn (s : State) (t e : Nat) (shown : Bool) : State :=
  let r00 := s.source e
  let s := s.staleFirst e
  let r0 := s.source e
  let s := s.clearTarget t (r0.wcause == .preemption)
  let s : State :=
    match r0.wcause.unit with
    | some u =>
      let s := s.endPending e u .inactive
      if shown && decide (t < 1024) then s.presentBlot t r0.prio else s
    | none =>
      if r0.wcause == .hold then
        let s := s.freeCell e
        (s.onSource e fun r => { r with wcause := .preemption }).linkHeld e
      else s.putSource e { r0 with place := .queued, wcause := .preemption }
  ((s.drainCheck e).commit e r00).settleSplice t

/-- TAKEN_SEQ after a take through the register path is honoured (R207). -/
def State.noteTaken (s : State) (t q : Nat) : State :=
  if (s.tgt t).path then s.onPort t fun p => { p with takenSeq := q } else s

/-- A withdrawal is resolved as taken: the take is honoured, then a stale or reset cause ends the event (R111, R112). -/
def State.endTaken (s : State) (t e : Nat) : State :=
  let r00 := s.source e
  let s := s.staleFirst e
  let r0 := s.source e
  let q := (s.tgt t).pseq
  let s := s.clearTarget t false
  let s := (s.takeNow t e q).noteTaken t q
  let s := if r0.wcause == .stale || r0.wcause == .reset then
      (if (s.source e).inService then s.endActive e else s) else s
  ((s.drainCheck e).commit e r00).settleSplice t

/-- A Nib-2 TAKE that crosses a releasing withdrawal yields the blot (R113). -/
def State.endCrossed (s : State) (t e : Nat) : State :=
  let r0 := s.source e
  let s := s.staleFirst e
  match (s.source e).wcause.unit with
  | some u =>
    let s := s.clearTarget t false
    let s := s.endPending e u .inactive
    ((s.drainCheck e).commit e r0).settleSplice t
  | none => s.endTaken t e

/-- The event presented at target `t` returns to PLACE queued at the head of its level, with no counter changed (R56, R194, R202,
R223). An event of a retired generation ends instead (R274), and a withdrawal that has begun meanwhile resolves as withdrawn. -/
def State.returnNow (s : State) (t : Nat) : State :=
  match (s.tgt t).pres with
  | none => s
  | some e =>
    let r0 := s.source e
    let s := if s.isStale e then s.atBank e id else s
    if (s.source e).place == .presented then
      ((s.clearTarget t false).onSource e fun r => { r with place := .queued }).commit e r0
    else if s.withdrawing e then s.endWithdrawn t e false
    else s

/-! ### Takes and dones of the ports (R72, R106, R108, R188) -/

/-- A take of the presented event reaches its home bank (R106): honoured while the event is presented; a take that
meets a withdrawal, the one of a stale discard included, is left to the withdrawal's answer (R112), and at a Nib-2 target it is
that answer (R113). -/
def State.takeAt (s : State) (t : Nat) : State :=
  let q := (s.tgt t).pseq
  match (s.tgt t).pres with
  | none => (s.clearShown t).noteTaken t q
  | some e =>
    let s := s.atBank e fun s =>
      if (s.source e).place == .presented then ((s.clearShown t).takeNow t e q).noteTaken t q
      else s.onPort t fun p => { p with taken := true, req := false }
    if s.withdrawing e && s.isNib2 t && !(s.tgt t).path then s.endCrossed t e else s

/-- The oldest done leaves the holder; a captured take has one done less before it (R72). -/
def Port.dropDone (p : Port) : Port := { p with dones := p.dones.drop 1, takeAfter := p.takeAfter - 1, doneDue := false }

/-- The oldest done of target `t` reaches its home bank (R108, R191); the credit of a DONE flit is owed again (R199). -/
def State.doneAt (s : State) (t : Nat) : State :=
  match (s.tgt t).port.dones with
  | [] => s
  | e :: _ =>
    let s := s.onPort t Port.dropDone
    let s := if s.isNib2 t then s.onLink (t / 32) fun l => { l with credOwed := l.credOwed + 1 } else s
    s.orderDone t e false

/-! ### Record words of a BULK_LOAD (R344) -/

/-- What a target shows of the event of source `e` goes away with the record. -/
def State.dropShown (s : State) (e : Nat) : State :=
  let r := s.source e
  if r.place == .presented then (s.clearTarget r.serving false).settleSplice r.serving else s

/-- What a source has under way ends before its word 0 is loaded (assumption log 40): a pending event counts as discarded at a
source that is not enabled, so that OUTSTANDING stays the number of pending sources (R132). -/
def State.dropEvent (s : State) (e : Nat) : State :=
  let s := s.dropShown e
  let r := s.source e
  let s := if r.pend then s.endPending e .disabled (if r.inService then .active else .inactive) else s
  let s := if (s.source e).inService then s.endActive e else s
  if r.drain then (s.onSource e fun r => { r with drain := false }).sourceReplies e else s

/-- INSTANCE as it is loaded: a house source belongs to VI 0 (R74). -/
def loadOwner (e i : Nat) : Nat := if 0xE00 ≤ e ∧ e < 0x1000 then 0 else i

/-- A source record word as loaded, an order at its home bank: routing fields stored, every other field at its reset value. A
route that needs a 33rd guest table entry ends the load with NO_SPACE (R260). -/
def State.loadRecordWord (s : State) (q e k : Nat) (w : BitVec 64) : State × Option Nat :=
  let r0 := s.source e
  if k = 0 then
    let t := min (fld w 53 11) 1535
    let i := loadOwner e (fld w 44 9)
    if (r0.target ≠ t ∨ r0.inst ≠ i) ∧ !s.moveFits e t i then (s, some 0x18)
    else
      let s := ((s.dropEvent e).reroute e t i).onSource e fun r =>
        { groupEn := flag w 16, inst := i, target := t, payload := r.payload, group := r.group, vector := r.vector,
          prio := r.prio, stamp := r.stamp }
      let s := (s.commit e r0).onSource e fun r => { r with changes := 0 }
      (s.recordClamps q 0x68 (clampIf 0 44 9 (fld w 44 9) i ++ clampIf 0 53 11 (fld w 53 11) t), none)
  else
    let s := s.dropShown e
    let s := if (s.source e).placed then s.freeCell e else s.unlinkHeld e
    let s := s.onSource e fun r => { r with payload := 0, group := fld w 32 16, vector := fld w 48 8, prio := fld w 56 6 }
    let s := if (s.source e).st == .pending then s.linkHeld e else s
    (s.commit e r0, none)

/-- A record word as an order at its bank (R105, R274, R344): the transfer of command `owner` learns that its word is stored, or why
it is not. -/
def State.orderWord (s : State) (owner q e k : Nat) (w : BitVec 64) : State :=
  let s := if s.isStale e then s.atBank e id else s
  if s.withdrawing e then s.park e (.word owner q k w)
  else
    let r := s.loadRecordWord q e k w
    let s := r.1.stageOk 8 (e % 64)
    let c := s.cmd.cdw
    if c.owner = some owner then { s with cmd := { s.cmd with cdw := { c with atBank := false, failed := r.2 } } } else s

/-! ### Rounds (R75, R102, R105) -/

/-- An order of a round is applied, or one that was parked. -/
def State.applyOrder (s : State) (e : Nat) (o : Order) : State :=
  match o with
  | .pulse payload stamp f => s.orderPulse e payload stamp f
  | .assertion stamp => s.orderAssert e stamp
  | .deassertion => s.orderDeassert e
  | .done t reg => s.orderDone t e reg
  | .lineCfg w => s.orderLineCfg e w
  | .command q => s.orderCommand q e
  | .word owner q k w => s.orderWord owner q e k w
  | .returned t => s.returnNow t
  | .take t => (s.onPort t fun p => { p with takenCut := false }).takeAt t
  | .holder t => s.doneAt t

/-- Intake port index of a pulse at source `e` (R73, R75). -/
def intakePort (e chan : Nat) : Nat :=
  if e < 0x800 then 16 else if e < 0xA00 then 17 else if e < 0xE00 then 19 else if e < 0x1000 then 18 else chan

/-- The place of an order in its round: its class, and its place within the class (R75, R102). SRC_INJECT enters through intake. -/
def State.orderKey (s : State) (e : Nat) (o : Order) : Nat :=
  match o with
  | .command q =>
    if (s.part q).any fun p => p.cmd == .inject then 50019
    else if (s.queue q).bindInst == 0 then 20000 + q else 30000 + q
  | .word _ q _ _ => 20000 + q
  | .lineCfg _ => 20008
  | .take t => 40001 + 4 * t
  | .done t _ | .holder t => 40002 + 4 * t
  | .returned t => 40003 + 4 * t
  | .pulse _ _ f => 50000 + intakePort e f.chan
  | .assertion _ | .deassertion => 50000 + intakePort e 0

/-- An order put into its place in a round, ahead of those that rank with it. -/
def insertOrder (key : Nat × Order → Nat) (x : Nat × Order) : List (Nat × Order) → List (Nat × Order)
  | [] => [x]
  | y :: ys => if key x ≤ key y then x :: y :: ys else y :: insertOrder key x ys

/-- The captured take of target `t` that waits at its port for an open round (R72, R105). -/
def State.takeWaits (s : State) (t : Nat) : Option (Nat × Order) :=
  let c := s.tgt t
  if c.port.takenCut && c.port.takeAfter == 0 && !s.isHeld 7 then
    (c.pres.filter fun e => !s.withdrawing e).map fun e => (e, .take t)
  else none

/-- The done of target `t` that waits at its port for an open round (R105). -/
def State.doneWaits (s : State) (t : Nat) : Option (Nat × Order) :=
  let p := (s.tgt t).port
  if p.doneDue && !s.isHeld 7 && !s.isHeld 2 && !(p.takenCut && p.takeAfter == 0) then p.dones.head?.map fun e => (e, .holder t)
  else none

/-- The orders that have reached the arbitration point of bank `k` when an open round begins, in the order of R102. -/
def State.round (s : State) (k : Nat) : List (Nat × Order) :=
  let ts := s.tgts.map (·.1)
  ((ts.filterMap s.takeWaits ++ ts.filterMap s.doneWaits ++ s.waiting).filter fun p => p.1 % 64 == k).foldr
    (insertOrder fun p => s.orderKey p.1 p.2) []

/-- The order takes a wait slot where its source is being withdrawn (R105). -/
def Order.slotted : Order → Bool
  | .take _ | .returned _ => false
  | _ => true

/-- One order of an open round: the stale discard first, and an order that needs a wait slot while none is free waits on at its port
(R102, R105). -/
def State.roundOrder (s : State) (p : Nat × Order) : State :=
  let s := if s.isStale p.1 then s.atBank p.1 id else s
  if p.2.slotted && s.bankFull p.1 && s.withdrawing p.1 then s
  else ({ s with waiting := s.waiting.erase p }).applyOrder p.1 p.2

/-- The parked orders of bank `k` whose source is being withdrawn no longer are applied in the order of their arrival; while one of them
starts a withdrawal, the rest is parked again (R105). -/
def State.settleParked (s : State) (k : Nat) : State :=
  let free := fun (p : Nat × Order) => p.1 % 64 == k && !s.withdrawing p.1
  forEach (s.parked.filter free) (fun p s => s.applyOrder p.1 p.2) { s with parked := s.parked.filter fun p => !free p }

/-- The rounds of bank `k` after wait slots may have become free, at most `fuel` of them: parked orders first, then what waits at the
ports, while the bank opens rounds that are not restricted (R105). -/
def State.letIn (s : State) (k : Nat) : Nat → State
  | 0 => s
  | fuel + 1 =>
    let s := s.settleParked k
    match s.round k with
    | [] => s
    | os => if s.bankFull k then s else (forEach os (fun p s => s.roundOrder p) s).letIn k fuel

/-- A withdrawal of source `e` is resolved, or its bank has lost parked orders: the bank goes on. -/
def State.unpark (s : State) (e : Nat) : State := s.letIn (e % 64) 4

/-- An order enters its bank, or waits at its port for an open round (R105). -/
def State.sendOrder (s : State) (e : Nat) (o : Order) : State :=
  if s.bankFull e then { s with waiting := s.waiting ++ [(e, o)] } else s.applyOrder e o

/-- An order of a command reaches the bank of its source. -/
def State.sendCommand (s : State) (q e : Nat) : State := s.sendOrder e (.command q)

/-- A command that is cut short takes its orders back from the banks that have not applied them (assumption log 61). -/
def State.dropPart (s : State) (q : Nat) : State :=
  let es := (s.parked.filter (·.2 == .command q)).map (·.1)
  forEach es (fun e s => s.unpark e)
    { s.putPart q none with parked := s.parked.filter (·.2 != .command q), waiting := s.waiting.filter (·.2 != .command q) }

/-- Resolved as withdrawn; the bank goes on (R105, R111). -/
def State.resolveWithdrawn (s : State) (t e : Nat) (shown : Bool) : State := (s.endWithdrawn t e shown).unpark e

/-- Resolved as taken; the bank goes on (R105, R111). -/
def State.resolveTaken (s : State) (t e : Nat) : State := (s.endTaken t e).unpark e

/-- Resolved by a crossing TAKE; the bank goes on (R105, R113). -/
def State.resolveCrossed (s : State) (t e : Nat) : State := (s.endCrossed t e).unpark e

/-- A take reaches its home bank, which goes on. -/
def State.applyTake (s : State) (t : Nat) : State :=
  match (s.tgt t).pres with
  | none => s.takeAt t
  | some e => (s.takeAt t).unpark e

/-- The return of the event presented at target `t` to PLACE queued waits for it. -/
def State.returning (s : State) (t : Nat) : Bool := s.waiting.any (·.2 == Order.returned t)

/-- A presented event returns to PLACE queued, an order of class 4 (R56, R102, R105, R194, R202, R223). -/
def State.returnQueued (s : State) (t : Nat) : State :=
  match (s.tgt t).pres with
  | none => s
  | some e =>
    if (s.source e).place == .presented && !s.returning t then
      (if s.bankFull e then { s with waiting := s.waiting ++ [(e, .returned t)] } else (s.returnNow t).unpark e)
    else s

/-- The captured takes are reported where nothing holds them back, each after the dones that were sampled before it (R72, R105). One that
meets a withdrawal answers it (R112, R113); the front file answers of its own (R204). -/
def State.reportTakes (s : State) : State :=
  forEach (s.tgts.map (·.1)) (fun t s =>
    let c := s.tgt t
    if !c.port.takenCut || c.port.takeAfter != 0 || s.isHeld 7 then s
    else
      let free := s.onPort t fun p => { p with takenCut := false }
      match c.pres with
      | none => free.applyTake t
      | some e =>
        if s.withdrawing e then
          if c.path then s else if s.isNib2 t then free.resolveCrossed t e else free.resolveTaken t e
        else if s.bankFull e then s else free.applyTake t) s

/-- A line enters or leaves the level-only fallback of the mode at the instant of a mode change, an order of class
1 (R82); `before` is the mode before the change. -/
def State.switchLine (s : State) (before : Mode) (k : Nat) : State :=
  let c := s.lineCfg k
  let r0 := s.source k
  let s := s.staleFirst k
  let s := (s.handoffNow k (c.sense == 0 || before.levelOnly)).setLevel k
  let s := if before.levelOnly && c.sense != 0 then
      s.onSource k fun r => if r.pend then { r with originLevel := false } else r
    else s
  s.commit k r0

/-! ### Reasons added by the block (R101, R125, R262, R282) -/

/-- FROZEN or DORMANT is added to a pending event (R106): a queued event is unlinked, a presented one is withdrawn
with cause hold, and a held one moves to the list of its first reason. -/
def State.addReason (s : State) (e : Nat) (f : Held → Held) : State :=
  let r0 := s.source e
  let s : State :=
    match r0.st with
    | .pending =>
      match r0.place with
      | .unplaced => ((s.unlinkHeld e).onSource e fun r => { r with held := f r.held }).linkHeld e
      | .queued => ((s.freeCell e).onSource e fun r => { r with held := f r.held }).linkHeld e
      | .presented => (s.onSource e fun r => { r with held := f r.held }).startWithdrawal e .hold
      | .withdrawing => s.onSource e fun r =>
          { r with held := f r.held, wcause := if r.wcause == .preemption then .hold else r.wcause }
    | .activePending => s.onSource e fun r => { r with held := f r.held }
    | _ => s
  s.commit e r0

/-- A taker-lost order (R106, R110, R166). -/
def State.takerLost (s : State) (e t : Nat) : State :=
  s.atBank e fun s =>
    let r := s.source e
    if r.inService && r.taker == t then
      let s := s.endActive e
      if r.st == .activePending then s.linkHeld e else s.drainCheck e
    else s

/-! ### Refills (R264, R266) -/

/-- A source leaves the RATE or the QUOTA list: the check starts again, and MODERATED is skipped for an event that a ligature
release carries (R101, R242, R265). -/
def State.releaseHeld (s : State) (e : Nat) (f : Held → Held) (left : Left) : State :=
  s.releaseFrom e f { left with moderated := left.moderated || (s.source e).carried }

/-- Release from the head of the RATE list while tokens remain, at most `fuel` sources (R266). -/
def State.releaseRate (s : State) (i : Nat) : Nat → State
  | 0 => s
  | fuel + 1 =>
    let c := s.ctx i
    match c.rateList with
    | [] => s
    | e :: _ =>
      if s.isStale e then (s.atBank e id).releaseRate i fuel
      else if c.rate != 0 && c.tokens == 0 then s
      else (s.releaseHeld e (fun h => { h with rate := false }) { rate := true }).releaseRate i fuel

/-- One refill (R264). A frozen instance releases nothing (R283). -/
def State.refill (s : State) (i : Nat) : State :=
  let s := s.onCtx i fun c =>
    if c.sharePend then { c with rate := c.newRate, burst := c.newBurst, refill := c.newRefill, sharePend := false,
                                 statShare := true, statSeq := seqUp c.statSeq } else c
  let s := s.onCtx i fun c => { c with tokens := min c.burst (c.tokens + c.rate), nextRefill := c.nextRefill + c.refill }
  if (s.ctx i).frozen || s.repairing (.rate (Fin.ofNat 512 i)) then s else s.releaseRate i (s.ctx i).rateList.length

/-- Every refill of instance `i` whose tick is at or before `stamp` (R264). -/
def State.refillsTo (s : State) (i stamp : Nat) : Nat → State
  | 0 => s
  | fuel + 1 => if (s.ctx i).nextRefill ≤ stamp then (s.refill i).refillsTo i stamp fuel else s

/-- The refills that are due at `stamp`, while a good timebase exists (R20, R264). -/
def State.dueRefills (s : State) (i stamp : Nat) : State :=
  if s.tb.good then s.refillsTo i stamp ((stamp - (s.ctx i).nextRefill) / 128 + 1) else s

end Sys2Proof.Machine
end

