-- ==== Sys2Proof/Machine/Targets.lean ====
section
/-! DEFINITION. Service states of targets (R164 to R168, R490), queue repair (R160) and running sweeps (R489). -/
namespace Sys2Proof.Machine

/-! ### Completed sweeps -/

/-- The records of one bank (R122). -/
def bankRecords : Nat := 4160

/-- Every bank has passed its 4,160 records. -/
def Sweep.complete (w : Sweep) : Bool :=
  decide (w.pos.length = 64) && w.pos.all (fun p => decide (bankRecords ≤ p.2))

/-- The sweep of this name runs and has passed every record. -/
def State.sweepDone (s : State) (n : SweepName) : Bool := s.sweeps.any (fun w => w.name == n && w.complete)

/-! ### Leaving and returning to ONLINE (R165 to R167) -/

/-- The three steps of a target that leaves ONLINE (R166): steps 2 and 3 follow the resolution of a withdrawal. -/
def State.leave (s : State) (t : Nat) : State :=
  let s := s.onTgt t fun c => { c with spliceDue := true }
  match (s.tgt t).pres with
  | some e =>
    let r0 := s.source e
    let s := s.staleFirst e
    if (s.source e).place == .presented then (s.startWithdrawal e .preemption).commit e r0 else s.commit e r0
  | none => s.settleSplice t

/-- The target is leaving ONLINE: a withdrawal of step 1 or the taker sweep of step 3 is under way (R166). For the commands of R165
both count as the sweep running (assumption log 83). -/
def Tgt.leaving (c : Tgt) : Bool := c.spliceDue || c.sweep

/-- A fault cause at a target (R165). -/
def State.faultTarget (s : State) (t cause : Nat) : State :=
  let set := fun (s : State) => s.onTgt t fun c =>
    { c with svc := .faulted, fcause := cause, port := { c.port with causeGone := false, presFell := false } }
  match (s.tgt t).svc with
  | .online => (set s).leave t
  | .draining => set s
  | .offline => set s
  | .faulted => s

/-- A target becomes ONLINE; every target that it deputises and that has left ONLINE is spliced onto it (R165,
R167). -/
def State.goOnline (s : State) (t : Nat) : State :=
  let s := s.onTgt t fun c => { c with svc := .online, fcause := 0, onlineDefer := false, spliceDue := false }
  forEach (s.tgts.map (·.1)) (fun u s => 
    if (s.tgt u).deputy = t ∧ ((s.tgt u).svc = .offline ∨ (s.tgt u).svc = .faulted) then s.trySplice u else s) s

/-- The cause in FCAUSE stands (R490). -/
def State.causeStands (s : State) (t : Nat) : Bool :=
  let c := s.tgt t
  let l := s.link (t / 32)
  if c.fcause = 1 then !c.port.causeGone
  else if c.fcause = 3 then c.repair
  else if c.fcause = 4 then !l.up || l.resetDue
  else false

/-- The presence signal of a target's port has fallen or risen: cause 0x1 goes once it has done both (R490). -/
def Port.presence (p : Port) (rose : Bool) : Port :=
  if rose then { p with causeGone := p.causeGone || p.presFell } else { p with presFell := true }

/-- The stall timer of a far target starts at a tick, with the limit of the standing write (R212, R218). -/
def Far.startTimer (f : Far) (now : Nat) : Far := { f with retryDue := f.ready.map fun w => now + w.stallLimit }

/-! ### Queue repair (R160) -/

/-- A queue repair of the set of `t` starts. -/
def State.startRepair (s : State) (t : Nat) : State := s.onTgt t fun c => { c with repair := true }

/-! ### List repair (R148) -/

/-- The empty list that a repair links again. -/
def State.breakList (s : State) (l : ListName) : State :=
  match l with
  | .level t k => s.onTgt t.val fun c => c.putLevel k.val []
  | .frozen i => s.onCtx i.val fun c => { c with frozenList := [] }
  | .dormant t i => s.onTgt t.val fun c => c.onDorm i.val fun _ => []
  | .moderated g => s.onGrp g.val fun c => { c with held := [] }
  | .rate i => s.onCtx i.val fun c => { c with rateList := [] }
  | .quota i => s.onCtx i.val fun c => { c with quotaList := [] }

/-- A list is marked broken: its repair starts (R130, R148). -/
def State.startListRepair (s : State) (l : ListName) : State := (s.breakList l).startSweep (.repair l)

end Sys2Proof.Machine
end

