-- ==== Sys2Proof/Machine/Modes.lean ====
section
/-! DEFINITION. The operating modes (R23 to R28, R81, R82, R245, R246, R461, R462, R491). -/
namespace Sys2Proof.Machine

/-- GLB_MODE.MODE codes (R23). -/
def Mode.code : Mode → Nat
  | .cold => 0 | .ductus => 1 | .rebuild => 2 | .start => 3 | .service => 4 | .test => 5
  | .recovery => 6 | .quiesce => 7 | .warm => 8 | .park => 9 | .wake => 10 | .failsafe => 11

/-- The lines whose state can differ from its reset value; the switch of R82 changes nothing at any other line. -/
def State.touchedLines (s : State) : List Nat :=
  let a := s.lines.foldl (fun l p => addOnce p.1 l) []
  let a := s.cfg.lineCfg.foldl (fun l p => addOnce p.1 l) a
  s.src.foldl (fun l p => if p.1 < 0x800 then addOnce p.1 l else l) a

/-- Every line enters or leaves the level-only fallback (R82). -/
def State.switchLines (s : State) (before : Mode) : State :=
  forEach s.touchedLines (fun k s => s.switchLine before k) s

/-- Every group releases with one cause (R246); the release of a list under repair follows the repair (R148). -/
def State.releaseAll (s : State) (cause : Nat) (ok : Group → Bool) : State :=
  forEach (s.groups.map (·.1)) (fun g s =>
    if !ok (s.grp g) then s
    else if s.listHeld g then s.onGrp g fun c => { c with owed := cause }
    else s.releaseNow g cause) s

/-- The links of queues and held lists and the reserved cells are void; the scan of R146 makes them again from the
records (R147, R149). The pool cells stay with their work: switch work starts again at its first step, and batches go on
with their members as the scan passes them. -/
def State.voidLinks (s : State) : State :=
  { s with
    tgts := s.tgts.map (fun p => (p.1, { p.2 with
      queues := [], bits := 0, counts := [], guests := p.2.guests.map (fun g => { g with dorm := [] }),
      switching := p.2.switching.map (fun w => { w with step := 1 }) })),
    groups := s.groups.map (fun p => (p.1, { p.2 with held := [] })),
    insts := s.insts.map (fun p => (p.1, { p.2 with rateList := [], quotaList := [], frozenList := [],
                                                    cellsPlaced := 0 })) }

/-- The canonical form of the tables that `voidLinks` maps. -/
def State.tidyLinks (s : State) : State :=
  { s with
    tgts := s.tgts.filter (fun p => p.2 != {}),
    groups := s.groups.filter (fun p => p.2 != {}),
    insts := s.insts.filter (fun p => p.2 != Inst.dflt p.1) }

/-- The REBUILD scan, or the scan that follows a domain reset of D5, starts (R146, R417). -/
def State.startScan (s : State) (n : SweepName) : State := s.voidLinks.tidyLinks.startSweep n

/-- A scan of R146 runs (R145, R491). -/
def State.scanning (s : State) : Bool := s.sweeping .rebuild || s.sweeping .rescan

/-- The modes in which the block may stand in rungs 1 to 3 (R432). -/
def Mode.runged : Mode → Bool
  | .start => true | .service => true | .test => true | .recovery => true | _ => false

/-- The witness starts a new window at the present tick, and nothing is published (R177). -/
def State.restartWitness (s : State) : State :=
  { s with rank := { s.rank with boundNs := 100, exceeded := false, floor := 110, window := [], published := false,
                                 windowStart := s.tick } }

/-- The walk starts again from word 0 (R361, R363). -/
def State.restartWalk (s : State) : State := { s with cfg := { s.cfg with walkPos := 0, walkCrc := 0xFFFFFFFF } }

/-- The ranker is power-gated in this rung (R177). -/
def gated (r : Nat) : Bool := r == 2 || r == 3

/-- The block comes to stand in a rung (R431, R469). The witness and the walk start again at a return from rungs 2 and 3; an exit from
rung 3 leaves every source cell unrestored and every pool cell at its reset value (R124, R428). -/
def State.standIn (s : State) (r : Nat) : State :=
  let old := s.pwr.rung
  if old = r then s
  else
    let s := if old = 3 then { s with lost := some [], poolTop := poolBase, relayTop := relayBase } else s
    let s := if gated old != gated r then s.restartWitness.restartWalk else s
    ({ s with pwr := { s.pwr with rung := r } }).recCount (14 + r) 1

/-- The rung to apply (R430): the lower of the pin's request and the last RUNG_SET; without a confirmed loss it is
not below rung 3. -/
def Pwr.apply (p : Pwr) : Nat :=
  let a := min p.pin p.sw
  if decide (4 ≤ a) && !p.confirm then 3 else a

/-- A park entry ends with QUIESCE: `back` tells that the block goes on, so the channels open again with 64 credits each (R45);
writes that still stand in a buffer give no further credit (assumption log 62). -/
def State.endParking (s : State) (back : Bool) : State :=
  if !s.pwr.parking then s
  else
    let s := { s.endSweep .park with pwr := { s.pwr with parking := false }, rcd := { s.rcd with parkWrite := false } }
    if back then
      let s := { s with rst := { s.rst with drainStart := none } }
      if s.channelOpen then
        forEach (List.range 16) (fun c s => s.onChan c fun x => { x with switchCredits := 64, old := x.buf.length }) s
      else s
    else s

/-- A group has an open window or a held list. The entry to QUIESCE leaves the record of any other group as it is (assumption log
86). -/
def Group.working (g : Group) : Bool := g.open_ || !g.held.isEmpty

/-- A mode change with the actions at its instant (R25, R82, R245, R246, R462, R491). -/
def State.enterMode (s : State) (m : Mode) : State :=
  let old := s.mode.mode
  if old = m then s
  else
    let s := { s with mode := { s.mode with mode := m, req := 15 } }
    let s := if old.levelOnly != m.levelOnly then s.switchLines old else s
    let s : State := if m = .quiesce then
        { s.releaseAll 6 Group.working with
          mode := { s.mode with prior := old, quiesceStart := s.instant, quiesceTimedOut := false, drained := false } } else s
    let s := if old = .quiesce then s.endParking (m == .recovery || m == .failsafe) else s
    let s : State := if m = .start then
        { s with cfg := { s.cfg with sealed_ := false, timed := false, latchPend := false } } else s
    let s := if m = .recovery then { s with ldg := { s.ldg with auditDue := true } } else s
    let s := if m = .failsafe then s.startSweep .failsafe else s
    let s : State := if m = .failsafe then { s with pwr := { s.pwr with nack := s.pwr.apply != s.pwr.ack } }
      else if m = .ductus ∨ m = .park then { s with pwr := { s.pwr with nack := false } } else s
    let s := if m.bypasses then forEach (s.groups.map (·.1)) (fun g s => s.bypass g) s else s
    let s : State := if !m.runged && decide (1 ≤ s.pwr.rung) && decide (s.pwr.rung ≤ 3) then
        s.standIn 0 else s
    s.raiseHouse 18

/-- The block enters RECOVERY: no escalation and no contained-with-recovery fault is held any more (R26, R461). -/
def ModeSt.dropHolds (m : ModeSt) : ModeSt := { m with heldEsc := false, heldCwr := false }

/-- The block enters FAILSAFE: a held uncontained fault has had its effect; a held escalation stays held (R26). -/
def ModeSt.dropUncont (m : ModeSt) : ModeSt := { m with heldUncont := false }

/-- A request for a parked rung, with its loss confirmed, leads from START, SERVICE or TEST to QUIESCE; under escalation level
1 it waits (R25, R435, R460). -/
def State.parkCheck (s : State) : State :=
  match s.mode.mode with
  | .start | .service | .test => if decide (4 ≤ s.pwr.apply) && s.pins.esc != 1 then s.enterMode .quiesce else s
  | _ => s

/-- A transition that would lead to REBUILD, START, SERVICE or RECOVERY: a held uncontained fault leads to FAILSAFE,
a held or standing escalation to level 2 from START or SERVICE to RECOVERY (R26, R461). REBUILD starts its scan,
also where FAILSAFE takes its place (R491). -/
def State.goTo (s : State) (m : Mode) : State :=
  let s := if m = .rebuild then s.startScan .rebuild else s
  if s.mode.heldUncont then ({ s with mode := s.mode.dropUncont }).enterMode .failsafe
  else if (m == .start || m == .service) && (s.mode.heldEsc || s.mode.heldCwr || s.pins.esc == 2) then
    ({ s with mode := s.mode.dropHolds }).enterMode .recovery
  else (s.enterMode m).parkCheck

/-- The mode effect of the faults and escalations reported in this step (R25, R26, R461). -/
def State.settleMode (s : State) : State :=
  let uncont := fun (s : State) => { s with mode := { s.mode with heldUncont := false } }
  let cwr := fun (s : State) => { s with mode := { s.mode with heldCwr := false } }
  let s : State :=
    if s.mode.heldUncont then
      match s.mode.mode with
      | .start | .service | .test | .quiesce | .recovery => (cwr { s with mode := s.mode.dropUncont }).enterMode .failsafe
      | .rebuild | .wake => ({ s with mode := s.mode.dropUncont }).enterMode .failsafe
      | .warm | .ductus | .park => s
      | .cold | .failsafe => uncont s
    else s
  if s.mode.heldCwr then
    match s.mode.mode with
    | .start | .service | .test | .quiesce => (cwr s).enterMode .recovery
    | _ => s
  else s

/-! ### K_PWR_ACK and K_ALARM (R64, R69, R71, R431) -/

/-- K_PWR_ACK takes a value, and house source 19 is raised when it changes (R69, R431). -/
def State.ackRung (s : State) (r : Nat) : State :=
  if s.pwr.ack = r then s
  else
    let s := { s with pwr := { s.pwr with ack := r, nack := s.pwr.nack && s.pwr.apply != r } }
    s.raiseHouse 19

/-- The modes in which K_PWR_ACK may change outside PARK and WAKE: a warm reset holds it (R71). -/
def Mode.acks : Mode → Bool
  | .cold | .warm | .park | .wake => false
  | _ => true

/-- A request for rung 0 is reported at once (R431). -/
def State.settleAck (s : State) : State :=
  if s.mode.mode.acks && !s.rst.fromPark && s.pwr.apply == 0 then
    { (s.ackRung 0) with pwr := { (s.ackRung 0).pwr with excursion := false } } else s

/-- K_ALARM (R64): a warm reset holds it as it was (R71). -/
def State.alarmOut (s : State) : Bool :=
  s.mode.mode == .failsafe || s.flt.uncont || (s.mode.mode == .warm && s.mode.alarmKept)

/-! ### Presentation in a mode -/

/-- The block makes presentations in this mode and waits for no scan (R27, R491). The scan that follows a reset of D5 holds none back
(assumption log 82). -/
def State.presents (s : State) : Bool :=
  (match s.mode.mode with
   | .start | .service | .test | .recovery | .failsafe => true
   | .ductus | .wake => s.rst.coldReach || s.mode.mode == .wake
   | _ => false) && !s.sweeping .rebuild

/-- Ready far writes stand at channel `f` (R231). -/
def State.readyAt (s : State) (f : Nat) : Nat :=
  (s.tgts.filter fun p => p.2.far.ready.isSome && p.2.far.atChan == f).length

end Sys2Proof.Machine
end

