-- ==== Sys2Proof/Machine/ResetOps.lean ====
section
/-! DEFINITION. The operations of reset and release: what a cold or warm assertion does at once (R403 to R405, R411,
R413, R419, R423), strap sampling (R37, R409), the ductus (R406, R412), the reading of the record's copies (R474) and
the release actions of the domains other than D3 (R406). -/
namespace Sys2Proof.Machine

/-! ### PWR_RST_CAUSE (R423) -/

/-- The bit of a cold source. -/
def coldIndex : ColdSrc → Nat
  | .pokAon => 0 | .pokCore => 1 | .coldPin => 2 | .testEn => 3

/-- The bit of a warm source. -/
def warmIndex : WarmSrc → Nat
  | .warmPin => 4 | .watchdog => 5 | .esc => 6

/-- A reset after the cold one is recorded: its bit, LAST and SEQ (R423). -/
def Rst.record (r : Rst) (bit : Nat) : Rst :=
  { r with cause := r.cause ||| 2 ^ bit, causeLast := bit + 1, causeSeq := seqUp r.causeSeq }

/-- A bit of PWR_RST_CAUSE is set. -/
def Rst.note (r : Rst) (bit : Nat) : Rst := { r with cause := r.cause ||| 2 ^ bit }

/-- A ductus runs. -/
def State.inDuctus (s : State) : Bool := s.rst.running

/-! ### Program pulses of the record (R413, R475) -/

/-- The copy being written is left failed, with the image that was being programmed. -/
def Rec.failWrite (r : Rec) : Rec :=
  match r.writing with
  | none => { r with cutPulse := false }
  | some (toB, img) =>
    if toB then { r with copyB := .failed img, writing := none, cutPulse := false }
    else { r with copyA := .failed img, writing := none, cutPulse := false }

/-- The patch copy being programmed is left without a valid image (R478). -/
def Rec.failPatch (r : Rec) : Rec :=
  match r.patchBusy with
  | none => r
  | some (toB, _, _) =>
    if toB then { r with patchB := none, patchBusy := none, patchWait := [] }
    else { r with patchA := none, patchBusy := none, patchWait := [] }

/-- A reset whose reach includes D1 arrives: a running program pulse is waited out, and the reset is stretched
(R413). -/
def State.stretch (s : State) : State :=
  let s := { s with rcd := s.rcd.failPatch }
  if s.rcd.writing.isSome then
    { s with rcd := { s.rcd with cutPulse := true }, rst := s.rst.note 8 }
  else s

/-! ### Channels close (R45, R47, R223) -/

/-- K_FDf_OPEN falls: every ready write returns to its queue, TRIES and the retry cells are cleared, and the credits
go back to the switch (R60, R223). -/
def State.closeFar (s : State) : State :=
  let s := forEach (s.tgts.map (·.1)) (fun t s =>
    if t < 1024 then s
    else if (s.tgt t).far.ready.isSome then
      (s.returnQueued t).onFar t fun f => { f with ready := none, tries := 0, retryDue := none, wakeCand := false, cellWait := none }
    else s) s
  forEach [0, 1, 2, 3] (fun f s => s.onFarChan f fun c => { stallTicks := c.stallTicks }) s

/-- K_FDf_OPEN rises: the switch grants credits afresh and the deficit counters are cleared (R60, R224). -/
def State.openFar (s : State) : State :=
  forEach [0, 1, 2, 3] (fun f s => s.onFarChan f fun c => { stallTicks := c.stallTicks }) s

/-- The 16 intake channels. -/
def channels : List Nat := List.range 16

/-- K_MIc_OPEN falls on every channel: the switch sets its credits to 0 (R45). -/
def State.closeIntake (s : State) : State :=
  forEach channels (fun c s => s.onChan c fun x => { x with switchCredits := 0 }) s

/-- K_MIc_OPEN rises on every channel: the switch holds 64 credits (R45). -/
def State.openIntake (s : State) : State :=
  forEach channels (fun c s => s.onChan c fun x => { x with switchCredits := 64, old := x.buf.length }) s

/-- The lines whose latches are set, in ascending order. -/
def State.latchedLines (s : State) : List Nat := (s.lines.filter (·.2.latch)).map (·.1)

/-- Every channel buffer is empty. -/
def State.buffersEmpty (s : State) : Bool := channels.all fun c => (s.chan c).buf.isEmpty

/-! ### Cold reset (R403, R404, R408) -/

/-- The lines keep their inputs; latches and LINE_STAT are held clear (R40, R404). -/
def State.inputsOnly (s : State) : Table Line :=
  s.lines.foldl (fun m p => tset (fun _ => {}) m p.1 { input := p.2.input }) []

/-- The block while a cold reset is asserted: every field at its reset value but the inputs, the record's array and
what counts the resets. A core supply that is down then holds the block in cold reset as well, and has its bit in the cause (R32,
R423). The 200 ns of R413 go on in ring counts. -/
def State.inCold (s : State) (src : ColdSrc) : State :=
  let rcd := if src = .pokAon ∨ src = .pokCore then s.rcd.failPatch.failWrite else s.stretch.rcd
  let restarted := s.inDuctus
  let base : State := {}
  { base with
    pending := s.pending, now := s.now, free := s.free, pins := { s.pins with roseAt := [] }, lines := s.inputsOnly,
    links := (s.links.map fun p => (p.1, ({ up := p.2.up } : Link))).filter (fun p => p.2 != {}),
    pwr := { pin := s.pwr.pin, pokCore := s.pwr.pokCore && src != .pokCore }
    rst := { cold := src :: (if s.pwr.pokCore || src == .pokCore then [] else [.pokCore]), warm := s.rst.warm,
             pulseEnd := if src = .pokAon ∨ src = .pokCore then none else s.rst.pulseEnd.map fun i => { i with ring := true },
             cause := pack [(8, bn rcd.cutPulse), (9, bn restarted)] ||| 2 ^ coldIndex src |||
               (if s.pwr.pokCore then 0 else 2 ^ coldIndex .pokCore),
             causeLast := (coldIndex src) + 1 }
    rcd := { copyA := rcd.copyA, copyB := rcd.copyB, patchA := rcd.patchA, patchB := rcd.patchB,
             writing := rcd.writing, cutPulse := rcd.cutPulse } }

/-- A low K_POK_CORE is no cold reset in PARK, or before D2 is released in WAKE and in a warm reset begun in a park
(R32, R441). -/
def State.pokExempt (s : State) : Bool :=
  s.mode.mode == .park || (s.rst.fromPark && s.isHeld 2)

/-- A cold reset source asserts. -/
def State.coldAssert (s : State) (src : ColdSrc) : State :=
  if src = .pokCore ∧ s.pokExempt then
    { s with pwr := { s.pwr with pokCore := false },
             rst := { s.rst with checking := false, needCheck := s.rst.needCheck || s.rst.fromPark } }
  else if s.rst.cold.contains src then s
  else if s.rst.cold.isEmpty then s.inCold src
  else
    let cut := src = .pokAon ∨ src = .pokCore
    { s with
      rst := { (s.rst.note (coldIndex src)) with cold := s.rst.cold ++ [src] },
      pwr := { s.pwr with pokCore := s.pwr.pokCore && src != .pokCore },
      rcd := if cut then s.rcd.failWrite else s.rcd }

/-- The straps are sampled with their clamps (R19, R37, R358, R359). -/
def State.sampleStraps (s : State) (p : StrapPins) : State :=
  let tbBad := p.tb.val == 3
  let bootBad := p.boot.val == 3
  let s := { s with
    pins := { s.pins with straps := p },
    strap := { tb := if tbBad then 0 else p.tb.val, tbClamped := tbBad,
               boot := if bootBad then 0 else p.boot.val, bootClamped := bootBad,
               blockNum := p.blockNum.val, nibGen := p.nibGen },
    tb := { s.tb with source := if tbBad then 0 else p.tb.val } }
  let s := if tbBad then s.clamp (clampInput 1) 3 0 false true 2 else s
  if bootBad then s.clamp (clampInput 2) 3 0 false true 2 else s

/-! ### Warm reset (R405, R411, R415, R419) -/

/-- Sweeps across a warm reset: those of commands and targets start again, the others end (R415). -/
def keepsWarm : SweepName → Bool
  | .taker _ => true | .destroy _ => true | .drain _ => true | .stale _ => true | .freeze _ => true
  | _ => false

/-- The sweeps that restart, from the first record. -/
def State.restartSweeps (s : State) : State :=
  { s with sweeps := (s.sweeps.filter fun w => keepsWarm w.name).map fun w => { name := w.name } }

/-- A Nib-1 port in a warm reset: what stood in the cycle in which REQ is low is not driven, and the agent of a Nib-2 target has
confirmed nothing yet (R71, R203). -/
def Tgt.warmPort (c : Tgt) : Tgt :=
  let blot := c.blot && c.port.due.isSome
  { c with held := c.held && !blot, blot := c.blot && !blot, repair := false, repairFresh := false,
           port := { c.port with due := none, confirmed := false } }

/-- The deferred flushes wait for the end of REBUILD (R415); a write that none of them has had yet is still asked for (R476). -/
def Rec.cutFlushes (r : Rec) : Rec :=
  { r with flushCut := r.flushCut ++ r.flushRun ++ r.flushWait, flushRun := [], flushWait := [],
           causeWaits := r.causeWaits || !r.flushWait.isEmpty }

/-- A warm reset takes hold of D4, D7 and D8 at once, the channels close, and the rest of the block is asked to
finish (R47, R405). Nib-1 ports sample on, those that a reset of D7 holds already included (R72, R419). -/
def State.enterWarm (s : State) : State :=
  let inPark := s.mode.mode == .park
  let parked := inPark || s.mode.mode == .wake || s.rst.fromPark
  let alarm := s.alarmOut
  let asleep := s.pwr.stopped
  let s := s.stretch
  let s := if s.isHeld 8 then s else s.closeFar
  let s := s.closeIntake.restartSweeps
  let s := s.enterMode .warm
  { s with
    mode := { s.mode with heldUncont := false, req := 15, alarmKept := alarm },
    tgts := (s.tgts.map fun p => (p.1, p.2.warmPort)).filter (·.2 != {}),
    rank := { s.rank with boundNs := 100, exceeded := false, floor := 110, window := [], published := false },
    tb := { s.tb with lostAt := if asleep then s.now else s.tb.lostAt },
    ldg := { s.ldg with riding := s.ldg.riding ++ s.ldg.wanted, wanted := [], auditDue := false },
    pwr := { s.pwr with coreEn := true, parking := false, wakeDue := none,
                        wakeCount := if inPark then sat 255 (s.pwr.wakeCount + 1) else s.pwr.wakeCount,
                        wakeSeq := if inPark then seqUp s.pwr.wakeSeq else s.pwr.wakeSeq },
    rst := { s.rst with
      held := (if s.rcd.cutPulse then [4, 7, 8] else [1, 4, 7, 8]).foldl (fun l d => addOnce d l) s.rst.held,
      running := false, waitInit := false, needInit := s.rst.needInit || parked, needCheck := parked,
      checking := false, fromPark := parked,
      portsKept := s.rst.portsKept || !s.isHeld 7 || (s.rst.dom.phase == 2 && s.rst.dom.domain == 7),
      drainStart := some s.now, dom := { s.rst.dom with phase := 0 } },
    rcd := s.rcd.cutFlushes }

/-- A warm reset source asserts. In COLD it only joins the sources that hold D1 to D8; in WARM it joins the warm reset that runs
(R25, R26, R412). -/
def State.warmAssert (s : State) (src : WarmSrc) : State :=
  if s.rst.warm.contains src then s
  else
    let inColdNow := !s.rst.cold.isEmpty
    let s := { s with rst := { s.rst with warm := s.rst.warm ++ [src] } }
    if inColdNow then s
    else
      let wasDuctus := s.inDuctus
      let s : State := if s.mode.mode = .warm then { s with mode := { s.mode with heldUncont := false } } else s.enterWarm
      let s := { s with rst := s.rst.record (warmIndex src) }
      let s := if wasDuctus then { s with rst := s.rst.note 9 } else s
      ({ s with rst := { s.rst with warmCount := wrap 16 (s.rst.warmCount + 1) } }).recCount 26 1

/-! ### The record's copies (R473, R474) -/

def Copy.isValid : Copy → Bool
  | .valid _ => true
  | _ => false
def Copy.isBlank : Copy → Bool
  | .blank => true
  | _ => false
def Copy.isFailed : Copy → Bool
  | .failed _ => true
  | _ => false

/-- The image of a valid copy. -/
def Copy.image : Copy → Option Image
  | .valid i => some i
  | _ => none

/-- `b` is newer than `a` modulo 2^32 (R473). -/
def newerSeq (a b : Nat) : Bool :=
  let d := (b + 2 ^ 32 - a % 2 ^ 32) % 2 ^ 32
  decide (1 ≤ d) && decide (d < 2 ^ 31)

/-- Copy B is the chosen copy (R474). -/
def Rec.bChosen (r : Rec) : Bool :=
  match r.copyA.image, r.copyB.image with
  | some a, some b => newerSeq a.seq b.seq
  | none, some _ => true
  | _, _ => false

/-- The chosen copy. -/
def Rec.chosen (r : Rec) : Option Image := if r.chosenB then r.copyB.image else r.copyA.image

/-- The registers that report the copies (R480, R482, R483). -/
def Rec.report (r : Rec) : Rec :=
  { r with
    aValid := r.copyA.isValid, bValid := r.copyB.isValid, aBlank := r.copyA.isBlank, bBlank := r.copyB.isBlank,
    regSeq := (r.chosen.map (·.seq)).getD 0,
    regWritesA := (r.copyA.image.map (·.writes)).getD 0, regWritesB := (r.copyB.image.map (·.writes)).getD 0 }

/-- The copies are read at a release of D1 (R474, R482). -/
def State.readCopies (s : State) : State :=
  let r := s.rcd
  let n := bn r.copyA.isFailed + bn r.copyB.isFailed
  let r := { r with chosenB := r.bChosen, none_ := !r.copyA.isValid && !r.copyB.isValid }
  let r := r.report
  let r := if n = 0 then r else { r with cut := true, statSeq := (r.statSeq + n) % 256 }
  let s := ({ s with rcd := r }).recCount 36 n
  if n = 0 then s else s.report 0x16 1 (if n = 1 then 2 else 3)

/-- Counters of a loaded image with what the block has counted since the working copies were lost (R469, R474). After a park
counters 14 to 25, which the always-on domain kept, go on from their values. -/
def RecData.resume (d : RecData) (work : RecData) (parked : Bool) : RecData :=
  { d with ctr := work.ctr.foldl (fun m p =>
      tset (fun _ => 0) m p.1 (if parked && decide (14 ≤ p.1) && decide (p.1 ≤ 25) then p.2
        else sat (2 ^ 64 - 1) (tget (fun _ => 0) m p.1 + p.2))) d.ctr }

/-- The working copies are loaded when the initialisation of D2 ends (R469, R474). Those that a warm reset in WAKE finds loaded are kept
(R404, assumption log 87). -/
def State.loadRecord (s : State) : State :=
  let d : RecData := (s.rcd.chosen.map (·.data)).getD {}
  let s := if s.rcd.loaded then s
    else { s with rcd := { s.rcd with work := d.resume s.rcd.work s.rst.fromPark, loaded := true } }
  if s.rst.coldReach then s.recCount 27 1 else s

/-! ### Inkwell initialisation (R408, R440) -/

/-- The outputs of the port of target `t` stay as they are held, but for REQ in a park (R71). The agent of a Nib-2 target that has settings other than the reset
ones is told of the change (R200). -/
def State.initPort (s : State) (t : Nat) (c : Tgt) : Port :=
  { req := c.port.req && !s.pwr.parking, vaddr := c.port.vaddr, eid := c.port.eid, prio := c.port.prio,
    cfgDue := s.isNib2 t && (c.port.cfgDue || c.vbase != 0 || c.vshift != 2 || c.blotVa != 0) }

/-- Every inkwell region at its reset values. An attachment whose link stays up across a park starts its numbering again (assumption log
84). -/
def State.initInkwell (s : State) : State :=
  { s with
    src := [], lost := none, parked := [], waiting := [], trans := [], pages := [], groups := [], counts := [], insts := [],
    tgts := (s.tgts.map fun p => (p.1, ({ port := s.initPort p.1 p.2 } : Tgt))).filter (·.2 != {}),
    relays := [], poolTop := poolBase, relayTop := relayBase, sweeps := [], clusters := [],
    links := (s.links.map fun p => (p.1, ({ up := p.2.up, everUp := p.2.everUp } : Link))).filter (fun p => p.2 != {}),
    ldg := { s.ldg with inst := [], block := {}, riding := [], wanted := [], badWords := [] },
    acc := { s.acc with slots := [] } }

/-! ### The ductus (R406, R412) -/

/-- D1 waits out a program pulse, or the 200 ns after it (R407, R413). -/
def State.waitsPulse (s : State) : Bool :=
  s.rcd.cutPulse || (match s.rst.pulseEnd with
                     | none => false
                     | some t => !s.elapsed t 100)

/-- The further conditions of domain `n` (R406). -/
def State.mayRelease (s : State) (n : Nat) : Bool :=
  s.rst.cold.isEmpty && s.rst.warm.isEmpty &&
  (!s.rst.fromPark || s.pwr.pokCore) &&
  (if n = 1 then !s.waitsPulse && !s.rst.needCheck && [2, 3, 4, 5, 6, 7, 8].all s.isHeld
   else if n = 2 then s.pwr.pokCore
   else if n = 3 then !s.rst.waitInit
   else true)

/-- The gap of R406 has passed; the first domain of a warm reach has no gap before it. -/
def State.gapPassed (s : State) : Bool :=
  (s.rst.next == 1 && !s.rst.coldReach) || s.elapsed s.rst.lastRelease s.cfg.gap

/-- Domain `n` is held no longer, from the present instant (R34). -/
def State.unhold (s : State) (n : Nat) : State :=
  { s with rst := { s.rst with held := without n s.rst.held, freedAt := tset (fun _ => {}) s.rst.freedAt n s.instant } }

/-- The ductus releases a domain. -/
def State.freeDomain (s : State) (n : Nat) : State :=
  { (s.unhold n) with rst := { (s.unhold n).rst with next := n + 1, lastRelease := s.instant } }

/-- The house sources whose flags stood while D6 was held raise one pulse each, in ascending order (R492). -/
def State.raiseHeldHouse (s : State) : State :=
  forEach s.house (fun n s => s.housePulse n) { s with house := [] }

/-- The pulse of a doorbell (R85, R86). -/
def State.ring (s : State) (b : Bell) : State :=
  let slot := 0x0E00 + b.inst
  s.sendOrder (0xA00 + b.swev) (.pulse 0 s.tick { owner := some b.inst, master := b.master, priv := b.priv, slot := slot,
                                                  chan := 0, epoch := s.acc.epoch })

/-- The doorbells held while D6 was held enter intake in their order (R492). -/
def State.ringHeld (s : State) : State := forEach s.bus.bells (fun b s => s.ring b) { s with bus := { s.bus with bells := [] } }

/-- A link that is up receives a STATE of kind LINK (R202, R203). -/
def State.sendLink (s : State) (g : Nat) (reset query : Bool) : State :=
  s.onLink g fun l => l.send s.tick 5 0 0 (linkPayload reset query false)

/-- The 32 targets of group `g`. -/
def groupTargets (g : Nat) : List Nat := (List.range 32).map (32 * g + ·)

/-- CONFIG and BLOTCFG of the targets of group `g` that changed while nothing could be sent, or of all of them (R200). -/
def State.sendDue (s : State) (g : Nat) (all : Bool) : State :=
  forEach (groupTargets g) (fun t s =>
    if all || (s.tgt t).port.cfgDue then (s.sendSettings t).onPort t fun p => { p with cfgDue := false } else s) s

/-- What the block sends when a link comes up, or D7 is released with the link up (R199, R200, R202): LINK with the
grant of 32 credits, with RESET where it is due, and the settings that the agent does not have. -/
def State.linkOpen (s : State) (g : Nat) : State :=
  let l := s.link g
  let reset := l.resetDue
  let s := s.onLink g fun l => { l with credOwed := 32, agentCredits := 0, resetDue := false,
                                        awaitReplay := l.everUp && !reset, everUp := true,
                                        open_ := true }
  let s := s.sendLink g reset false
  s.sendDue g reset

/-- The captured takes and the dones sampled since are reported, and a port that has nothing presented drives REQ low (R71, R72). -/
def State.reportKept (s : State) : State :=
  forEach (s.tgts.map (·.1)) (fun t s =>
    let c := s.tgt t
    if c.port.req && c.pres.isNone && !c.blot then s.onPort t fun p => { p with req := false } else s) s.reportTakes

/-- The release of D7: ports leave reset, captured takes are reported and the Nib-2 agents are asked for what they
hold (R72, R203, R420). -/
def State.releaseNib (s : State) (query : Bool) : State :=
  forEach (List.range 32) (fun g s =>
    if s.isNib2 (32 * g) && s.linkOn g then
      let s := if (s.link g).open_ then s.sendDue g false else s.linkOpen g
      if query then s.sendLink g false true else s
    else s) { s.reportKept with rst := { s.reportKept.rst with portsKept := false } }

/-- The release of D6: the channels open, house flags and held doorbells enter intake, and the lines latched by then are handed
off in ascending order (R406, R417, R492). -/
def State.releaseIntake (s : State) : State :=
  let s := if s.channelOpen then s.openIntake else s
  ({ s with rst := { s.rst with lateLines := s.latchedLines } }).raiseHeldHouse.ringHeld

/-- The release actions of every domain but D3 (R406). After a park the block works in rung 0 from the release of D2, where the
exit of R429 ends (assumption log 63). -/
def State.releaseActions (s : State) (n : Nat) : State :=
  if n = 1 then { s.readCopies with rst := { s.readCopies.rst with pulseEnd := none } }
  else if n = 2 then
    let s := if s.rst.fromPark then s.standIn 0 else s
    { s with rst := { s.rst with waitInit := s.rst.needInit } }
  else if n = 4 then s.restartWitness
  else if n = 5 then
    if s.rst.coldReach || s.rst.fromPark then
      { s with ldg := { s.ldg with periodKnown := false, periodStart := s.tick } } else s
  else if n = 6 then
    s.releaseIntake
  else if n = 7 then s.releaseNib (!s.rst.coldReach && s.mode.mode != .wake)
  else if n = 8 then s.openFar
  else s

/-- The mode that follows the release of D8 (R25, R26, R411, R440). -/
def State.endDuctus (s : State) : State :=
  let cold := s.rst.coldReach
  let wake := s.mode.mode == .wake
  let parked := wake || s.rst.fromPark
  let s : State := { s with
    rst := { s.rst with running := false, next := 9, coldReach := false, fromPark := false },
    pwr := if parked then { s.pwr with sw := 0, confirm := false, ack := 0 } else s.pwr }
  let s := if parked then s.raiseHouse 19 else s
  if s.mode.mode == .failsafe then s else if cold || wake then s.goTo .start else s.goTo .rebuild

/-- A ductus starts again from D1 once every reset is released (R410 to R412); D1 leaves reset when the warm reset
has taken hold of the whole of its reach. -/
def State.startWarmDuctus (s : State) : State :=
  if s.mode.mode == .warm && s.rst.warm.isEmpty && s.rst.cold.isEmpty then
    (({ s with rst := { s.rst with running := true, next := 1, lastRelease := s.tb.d0Release,
                                   checking := s.rst.needCheck && s.pwr.pokCore } }).enterMode .ductus).settleAck
  else s

end Sys2Proof.Machine
end

