-- ==== Sys2Proof/Machine/Operands.lean ====
section
/-! DEFINITION. The forms in which operands arrive: the words of the inkwell and the address that names one
(R88, R90, R121 to R124, R184, R211, R234, R252, R259, R260, R284, R383), packet headers and reply fields (R309), and
the loads of inkwell words (R344). -/
namespace Sys2Proof.Machine

/-! ### Source cells (R124) -/

/-- The element after `e` in a list; `e` itself at the end (R124). -/
def nextIn (e : Nat) : List Nat → Nat
  | [] => e
  | [_] => e
  | a :: b :: l => if a = e then b else nextIn e (b :: l)

/-- The held list on which source `e` stands, by its first reason (R125). -/
def State.heldListOf (s : State) (e : Nat) : List Nat :=
  let r := s.source e
  match r.held.first with
  | none => []
  | some .frozen => (s.ctx r.inst).frozenList
  | some .dormant => (s.tgt r.target).dormList r.inst
  | some .moderated =>
    let g := s.grp r.group
    if g.held.contains e then g.held
    else match g.batches.find? (fun b => b.members.contains e) with
      | none => []
      | some b => b.members
  | some .rate => (s.ctx r.inst).rateList
  | some .quota => (s.ctx r.inst).quotaList

/-- The source cell of EID `e` (R124). -/
def State.cellWord (s : State) (e : Nat) : BitVec 64 :=
  let r := s.source e
  let onList := r.pend && r.held.any && !r.placed && r.st == .pending
  let next := if r.placed then nextIn e ((s.tgt r.serving).level r.prio)
    else if onList then nextIn e (s.heldListOf e) else e
  let kind := if s.cellLost e then 7 else if r.placed then 1 else if onList then 2 else 0
  w64 (pack [(0, next), (19, bn (r.gen && !s.cellLost e)), (20, kind), (23, bn r.pend),
             (24, if s.cellLost e then 0 else r.inst), (33, r.stamp % 2 ^ 31)])

/-! ### Pool cells (R126, R219, R227, R241, R263) -/

/-- An event belongs to neither the resident instance nor VI 0. -/
def State.foreign (s : State) (t e : Nat) : Bool :=
  let i := (s.source e).inst
  i != 0 && i != (s.tgt t).resInst

/-- The first event of the queue set of `t`, level 0 first and in queue order, for which `p` holds. -/
def Tgt.firstQueued (c : Tgt) (p : Nat → Bool) : Option Nat := (c.queues.flatMap (·.2)).find? p

/-- The queued event that the walk of step 2 moves next (R262). -/
def State.walkNext (s : State) (t : Nat) : Option Nat :=
  (s.tgt t).firstQueued fun e => (s.source e).place == .queued && s.foreign t e

/-- NEXT of switch work (R263): the event that the walk or the splice moves next, and 0 where there is none (assumption log 58). -/
def State.switchNext (s : State) (t : Nat) (w : SwitchWork) : Nat :=
  if w.step = 2 then (s.walkNext t).getD 0
  else if w.step = 3 then ((s.tgt t).dormList (s.tgt t).resInst).headD 0
  else 0

/-- The splice cell of target `t` (R263). -/
def State.spliceWord (s : State) (t : Nat) (w : SwitchWork) : BitVec 64 :=
  w64 (pack [(0, t), (19, bn w.gen), (20, 3), (23, w.inst), (32, w.step), (34, s.switchNext t w)])

/-- The cell of a batch of group `g` (R241). -/
def Batch.word (b : Batch) (g : Nat) : BitVec 64 :=
  w64 (pack [(0, g), (19, bn b.gen), (20, 4), (23, b.members.headD 0), (42, b.members.length)])

/-- The retry cell of far target `t` (R219). -/
def Far.retryWord (f : Far) (t due : Nat) : BitVec 64 :=
  w64 (pack [(0, t - 1024), (9, f.atChan), (11, f.retryPseq), (19, bn f.retryGen), (20, 5), (23, low31 due)])

/-- A relay cell (R227). -/
def RelayCell.word (c : RelayCell) : BitVec 64 :=
  w64 (pack [(0, c.mid), (19, bn c.gen), (20, 6), (23, c.payload.toNat), (55, c.origin)])

/-- The word of pool cell `n` while some work uses it. -/
def State.poolWord (s : State) (n : Nat) : Option (BitVec 64) :=
  (s.tgts.findSome? fun p => p.2.switching.bind fun w => if w.cell = some n then some (s.spliceWord p.1 w) else none).orElse fun _ =>
  (s.groups.findSome? fun p => p.2.batches.findSome? fun b => if b.cell = some n then some (b.word p.1) else none).orElse fun _ =>
  (s.tgts.findSome? fun p => p.2.far.retryDue.bind fun d => if p.2.far.retryCell = n then some (p.2.far.retryWord p.1 d) else none).orElse fun _ =>
  (s.relays.find? (·.cell == n)).map (·.word)

/-- No work has used pool cell `n` yet. -/
def State.cellFresh (s : State) (n : Nat) : Bool := decide ((if n < relayBase then s.poolTop else s.relayTop) ≤ n)

/-- The fields of a freed pool cell beside KIND, which is 0b000 (R126), keep a value that no rule gives. -/
def freedCell (v : BitVec 64) : BitVec 64 := v &&& ~~~(w64 (7 * 2 ^ 20))

/-! ### Page and translation entries (R88, R90) -/

def PageEntry.word0 (p : PageEntry) : BitVec 64 :=
  w64 (pack [(0, p.tbase), (18, p.tstride), (30, p.fnM1), (38, p.host), (44, p.reqBase), (60, bn p.fmtMsi),
    (61, bn p.fmtKx2), (62, bn p.fmtExt), (63, bn p.valid)])

def PageEntry.word1 (p : PageEntry) : BitVec 64 :=
  w64 (pack [(0, p.dtag), (16, bn p.dtagEn), (17, bn p.relay)])

/-- Word 0 of a page entry as loaded (R88). -/
def PageEntry.load0 (p : PageEntry) (w : BitVec 64) : PageEntry :=
  { p with tbase := fld w 0 18, tstride := fld w 18 12, fnM1 := fld w 30 8, host := fld w 38 6,
           reqBase := fld w 44 16, fmtMsi := flag w 60, fmtKx2 := flag w 61, fmtExt := flag w 62, valid := flag w 63 }

/-- Word 1 of a page entry as loaded. -/
def PageEntry.load1 (p : PageEntry) (w : BitVec 64) : PageEntry :=
  { p with dtag := fld w 0 16, dtagEn := flag w 16, relay := flag w 17 }

def TransEntry.word (t : TransEntry) : BitVec 64 := w64 (pack [(0, t.mid), (18, bn t.valid)])

def transOf (w : BitVec 64) : TransEntry := { mid := fld w 0 18, valid := flag w 18 }

/-! ### Group records and instance contexts (R234, R252, R284) -/

def headOf (l : List Nat) : Nat := l.headD 0
def tailOf (l : List Nat) : Nat := l.getLastD 0

def Group.word (g : Group) (k : Nat) : BitVec 64 :=
  if k = 0 then w64 (pack [(0, g.thresh), (13, g.timer), (29, bn g.en), (30, bn g.drain), (31, g.bypTgt), (42, g.inst),
      (51, bn g.open_), (52, bn (!g.batches.isEmpty))])
  else if k = 1 then w64 (pack [(0, g.count), (13, g.start % 2 ^ 31)])
  else if k = 2 then w64 (pack [(0, headOf g.held), (19, tailOf g.held), (38, g.held.length)])
  else w64 (pack [(0, g.closed % 2 ^ 31), (31, g.lastSize), (50, g.lastCause)])

def Phase.code : Phase → Nat
  | .thawed => 0 | .freezing => 1 | .frozen => 2 | .restoring => 3

def Inst.word (c : Inst) (k : Nat) : BitVec 64 :=
  if k = 0 then w64 (pack [(0, bn c.created), (1, bn c.en), (2, bn c.drain), (3, bn c.frozen), (4, bn c.oldGen), (5, c.gen),
      (13, c.weight), (21, c.pageBase), (35, c.pageCount)])
  else if k = 1 then w64 (pack [(0, c.rate), (16, c.burst), (32, c.refill), (48, c.tokens)])
  else if k = 2 then w64 (pack [(0, c.newRate), (16, c.newBurst), (32, c.newRefill), (48, bn c.sharePend)])
  else if k = 3 then w64 (pack [(0, c.nextRefill % 2 ^ 31), (31, c.quota)])
  else if k = 4 then w64 (pack [(0, c.cellsPlaced), (19, c.rateList.length), (38, c.quotaList.length)])
  else if k = 5 then w64 (pack [(0, c.dormCount), (19, c.dormFirst)])
  else if k = 6 then w64 (pack [(0, headOf c.rateList), (19, tailOf c.rateList)])
  else if k = 7 then w64 (pack [(0, headOf c.quotaList), (19, tailOf c.quotaList)])
  else if k = 8 then w64 (pack [(0, headOf c.frozenList), (19, tailOf c.frozenList)])
  else if k = 9 then w64 (pack [(0, c.phase.code), (2, bn c.saving), (3, bn c.restored), (4, bn c.corrupt), (5, c.hseq),
      (13, c.originBlock), (19, c.originInst)])
  else if k = 10 then w64 (pack [(0, c.huskOut), (32, c.huskIn)])
  else 0

/-! ### Target contexts (R170, R184, R211, R259, R260) -/

def Svc.code : Svc → Nat
  | .offline => 0 | .online => 1 | .draining => 2 | .faulted => 3

/-- Words 0 to 9 of a target context. -/
def Tgt.word (c : Tgt) (t k : Nat) : BitVec 64 :=
  let far := decide (1024 ≤ t)
  if k = 0 then w64 (pack [(0, c.svc.code), (2, bn c.onlineDefer), (3, bn c.sweep), (4, bn c.depEn), (5, c.deputy),
      (16, c.fcause), (20, bn far), (21, bn c.wdrBusy)])
  else if k = 1 then w64 (pack [(0, c.vbase), (40, c.vshift), (44, bn c.path)])
  else if k = 2 then w64 c.blotVa.toNat
  else if k = 3 then w64 (pack [(0, c.pseq), (8, c.runRpt), (15, c.runEff), (22, bn c.held), (23, bn c.blot)])
  else if k = 4 then (if far then w64 (pack [(0, c.far.msgAddr.toNat), (62, c.far.form)]) else 0)
  else if k = 5 then (if far then w64 (pack [(0, c.far.msgData.toNat), (32, c.far.chan), (34, c.far.altMask), (38, c.far.tc),
      (41, bn c.far.auto), (42, c.far.retryMax), (46, c.far.stallLimit)]) else 0)
  else if k = 6 then (if far then w64 c.far.linkIdle else 0)
  else if k = 7 then (if far then w64 (pack [(0, c.far.tries), (4, c.far.atChan), (6, bn c.far.ready.isSome),
      (7, bn c.far.wakeCand), (8, c.far.lastXfer % 2 ^ 32), (40, bn c.far.never)]) else 0)
  else if k = 8 then w64 (pack [(0, bn c.virt), (1, c.resInst), (10, bn c.switching.isSome)])
  else w64 (if far then c.far.inserv else 0)

/-- Words 64 + 2e and 65 + 2e of a nib target context (R260). -/
def Tgt.guestWord (c : Tgt) (e k : Nat) : BitVec 64 :=
  match c.guests.find? (fun g => g.entry == e) with
  | none => 0
  | some g =>
    if k = 0 then w64 (pack [(0, g.inst), (9, bn (g.inst != 0)), (10, headOf g.dorm), (29, tailOf g.dorm)])
    else w64 (pack [(0, g.srcs), (19, g.dorm.length)])

/-! ### Inkwell addresses (R121) -/

/-- What an inkwell word holds. -/
inductive InkWord
  | record (e k : Nat)
  | trans (n : Nat)
  | cell (n : Nat)
  | group (g k : Nat)
  | inst (i k : Nat)
  | target (t k : Nat)
  | page (n k : Nat)
  | slot (n : Nat)
  | scratch
  | ledger
  | spare
  deriving DecidableEq, Repr

/-- The word at an inkwell byte address that is a multiple of 8 (R121, R383). -/
def inkAt (a : Nat) : InkWord :=
  if a < 0x410000 then .record (a / 16) (a / 8 % 2)
  else if a < 0x610000 then .trans ((a - 0x410000) / 8)
  else if a < 0xA10000 then .cell ((a - 0x610000) / 8)
  else if a < 0xC10000 then .group ((a - 0xA10000) / 32) (a / 8 % 4)
  else if a < 0xD10000 then .inst ((a - 0xC10000) / 2048) (a / 8 % 256)
  else if a < 0xE90000 then .target ((a - 0xD10000) / 1024) (a / 8 % 128)
  else if a < 0xED0000 then .page ((a - 0xE90000) / 16) (a / 8 % 2)
  else if a < 0xF18000 then .slot ((a - 0xED0000) / 8)
  else if a < 0xF50000 then .scratch
  else if a < 0xF90000 then .ledger
  else .spare

/-- The number of the region of an address, in the order of R121. -/
def inkRegion (a : Nat) : Nat :=
  if a < 0x410000 then 0 else if a < 0x610000 then 1 else if a < 0xA10000 then 2 else if a < 0xC10000 then 3
  else if a < 0xD10000 then 4 else if a < 0xE90000 then 5 else if a < 0xED0000 then 6 else if a < 0xF50000 then 7
  else if a < 0xF90000 then 8 else 9

/-- The word as BULK_READ sees it; none where no rule gives its layout, which is a free value (assumption log 3). -/
def State.inkWord (s : State) (w : InkWord) : Option (BitVec 64) :=
  match w with
  | .record e k => some (if k = 0 then (s.source e).word0 else (s.source e).word1)
  | .trans n => some (s.transEntry n).word
  | .cell n =>
    if n < poolBase then some (s.cellWord n)
    else (s.poolWord n).orElse fun _ => if s.cellFresh n then some 0 else none
  | .group g k => some ((s.grp g).word k)
  | .inst i k => some ((s.ctx i).word k)
  | .target t k =>
    if k < 10 then some ((s.tgt t).word t k)
    else if 64 ≤ k ∧ t < 1024 then some ((s.tgt t).guestWord ((k - 64) / 2) (k % 2))
    else none
  | .page n k => some (if k = 0 then (s.page n).word0 else (s.page n).word1)
  | .slot n => some (s.slot n)
  | .scratch => none
  | .ledger => none
  | .spare => some 0

/-- What stands in a word whose content no rule gives: a free value, with KIND 0b000 in a freed pool cell. -/
def InkWord.free (w : InkWord) (v : BitVec 64) : BitVec 64 :=
  match w with
  | .cell _ => freedCell v
  | _ => v

/-! ### Packet fields (R309) -/

def hdrOpcode (h : BitVec 64) : Nat := fld h 0 8
def hdrTag (h : BitVec 64) : Nat := fld h 8 8
def hdrInst (h : BitVec 64) : Nat := fld h 16 9
def hdrBlock (h : BitVec 64) : Nat := fld h 25 6
def hdrLen (h : BitVec 64) : Nat := fld h 31 8
def hdrFlag (h : BitVec 64) (k : Nat) : Bool := flag h (39 + k)

/-- Parameter word `k`, counted from 1. -/
def Packet.word (p : Packet) (k : Nat) : BitVec 64 := p.words.getD (k - 1) 0

/-- Bits of a word from `lo` upward are 0. -/
def zeroFrom (w : BitVec 64) (lo : Nat) : Bool := w.toNat < 2 ^ lo

end Sys2Proof.Machine
end

