-- ==== Sys2Proof/Machine/Flags.lean ====
section
/-! DEFINITION. What the registers read: every status field computed from the state, register by register (R76, R77,
R139 to R145, R171, R172, R179 to R182, R205 to R210, R230 to R233, R275 to R279, R300, R301, R304 to R307, R317, R346,
R368 to R379, R398 to R402, R422 to R427, R444 to R447, R464 to R468, R480 to R488), and the outputs that are derived
(R60, R64, R69). -/
namespace Sys2Proof.Machine

/-- A register by its place after decoding (R347, R348): the canonical place, or a hole. -/
inductive RegAt
  | global (p o : Nat)
  | lineCfg (k : Nat)
  | lineStat (k : Nat)
  | target (t o : Nat)
  | inst (i o : Nat)
  | hole
  deriving DecidableEq, Repr

/-! ### Derived outputs -/

/-- K_FDf_OPEN: D8 is released, K_FAB_CLK is present and no park entry runs (R60, R420, R435). -/
def State.farOpen (s : State) : Bool := !s.isHeld 8 && !s.pwr.parking && s.pins.fabOk && !s.pins.absent.contains .fab

/-- K_PWR_NACK (R69). -/
def State.nackOut (s : State) : Bool := s.pwr.nack

/-- A park request waits under R460. -/
def State.parkWaits (s : State) : Bool :=
  s.pins.esc == 1 && decide (4 ≤ s.pwr.apply) && !s.pwr.parking &&
  (s.mode.mode == .start || s.mode.mode == .service || s.mode.mode == .test || s.mode.mode == .quiesce)

/-! ### Sequence field helper -/

/-- A register with its sequence field in bits [31:24] (R355). -/
def withSeq (seq : Nat) (fs : List (Nat × Nat)) : Nat := seq * 2 ^ 24 + pack fs

/-! ### GLB page (R367) -/

/-- The bit of DORM_MAP of instance `i` (R279). -/
def State.dormBits (s : State) (k : Nat) : Nat :=
  (List.range 32).foldl (fun a b => a + bn (decide (0 < (s.ctx (32 * k + b)).dormCount)) * 2 ^ b) 0

/-- Whole units left in the UNSEAL window (R374). -/
def State.unsealLeft (s : State) : Nat :=
  let e := s.cfg.unsealStart + 500 * s.cfg.unsealLimit
  if !s.cfg.timed then 0 else if s.tb.good then (e - s.tick) / 500 else s.cfg.unsealLimit

def State.readGlb (s : State) (o : Nat) : Nat :=
  let c := s.cfg
  if o = 0x000 then 0x4B3300B0
  else if o = 0x004 then pack [(0, s.mode.mode.code), (4, s.mode.req), (8, s.mode.prior.code)]
  else if o = 0x008 then pack [(0, s.strap.tb), (2, bn s.strap.tbClamped), (3, s.strap.boot), (5, bn s.strap.bootClamped),
      (6, s.strap.blockNum), (12, bn s.strap.changed)]
  else if o = 0x00C then s.strap.nibGen.toNat
  else if o = 0x020 then c.crc.toNat
  else if o = 0x024 then c.ref.toNat
  else if o = 0x028 then pack [(0, bn c.sealed_), (1, bn c.timed), (2, bn c.refValid), (3, bn c.matched), (4, bn c.latchPend),
      (5, bn c.expired), (16, c.passes)]
  else if o = 0x02C then c.unsealLimit
  else if o = 0x030 then s.unsealLeft
  else if o = 0x034 then withSeq c.violSeq [(0, c.violCount)]
  else if o = 0x0C0 then pack [(0, s.rank.boundNs), (8, bn s.rank.exceeded), (9, bn (!s.tb.good)),
      (10, bn (s.pwr.rung == 2 || s.pwr.rung == 3))]
  else if o = 0x0C4 then s.rank.floor
  else if o = 0x0C8 then s.rank.period
  else if o = 0x0CC then s.rank.revs
  else if o = 0x0D0 then withSeq s.rank.cmpSeq [(0, s.rank.cmpTarget), (11, bn s.rank.cmpMismatch), (16, s.rank.cmpCount)]
  else if 0x100 ≤ o ∧ o < 0x110 then
    let f := (o - 0x100) / 4
    let n := s.readyAt f
    pack [(0, bn s.farOpen), (1, (s.farChan f).credits), (7, n), (17, bn (decide (0 < n) && (s.farChan f).credits == 0))]
  else if 0x110 ≤ o ∧ o < 0x120 then (s.farChan ((o - 0x110) / 4)).stallTicks / 64
  else if 0x140 ≤ o ∧ o < 0x180 then s.dormBits ((o - 0x140) / 4)
  else 0

/-! ### CMD page (R304 to R307, R317, R346) -/

/-- DEFER of queue `q` (R306). -/
def State.deferCount (s : State) (q : Nat) : Nat :=
  (s.cmd.deferred.filter (·.q == q)).length + ((s.queue q).late.filter (·.second)).length

/-- The window cannot tell yet how many words it takes: header word 1 of a HUSK_RESTORE has not arrived (R317). -/
def Cdw.headless (c : Cdw) : Bool :=
  match c.xfer with
  | some (.huskIn h) => decide (h.words.length < 2)
  | _ => false

/-- The reply opens the window: a DEFERRED first reply, or for outward data a second one (R316). -/
def Cdw.opensWith (c : Cdw) (r : Reply) : Bool :=
  c.announce == some (r.tag, r.opcode) && r.second == c.outward && (c.outward || r.status == 2)

/-- The window is open: the reply that opens it does not wait for room any more (R308, R316). -/
def State.cdwOpen (s : State) : Bool :=
  let c := s.cmd.cdw
  c.open_ && !(s.queue c.q).late.any c.opensWith

/-- SPACE of the window (R317), which buffers 64 words that no bank has taken yet (assumption log 64). -/
def Cdw.space (c : Cdw) : Nat :=
  if !c.open_ || c.outward then 0 else if c.headless then 64 - c.buf.length else min (64 - c.buf.length) c.left

/-- A command of the queue runs and has not given its first reply (R305). -/
def CmdQueue.running (q : CmdQueue) : Bool := q.cur.isSome || q.late.any fun r => !r.second

def State.readCmd (s : State) (o : Nat) : Nat :=
  let w := s.cmd.cdw
  if 0x080 ≤ o ∧ o < 0x0A0 then
    let n := (o - 0x080) / 4
    let q := s.queue n
    withSeq q.seq [(0, 512 - q.fifo.length), (10, q.rpl.length), (20, bn q.ovf), (21, bn q.proto), (22, bn q.discarding),
      (23, bn q.running)]
  else if 0x0A0 ≤ o ∧ o < 0x0C0 then 2 * s.deferCount ((o - 0x0A0) / 4)
  else if o = 0x0C8 then pack [(0, w.q), (3, bn s.cdwOpen), (4, bn w.outward), (8, w.pos)]
  else if o = 0x0CC then pack [(0, sat (2 ^ 24 - 1) w.left), (24, if s.cdwOpen then w.space else 0)]
  else if o = 0x0D0 then pack [(0, s.strap.boot), (2, bn s.cmd.patch.isSome), (3, bn s.cmd.patchFail), (4, bn s.cmd.fwReady),
      (16, (s.cmd.patch.map (·.ver)).getD 0)]
  else if 0x0E0 ≤ o ∧ o < 0x120 then
    let q := s.queue ((o - 0x0E0) / 8)
    if o % 8 = 0 then pack [(0, q.bindMaster), (22, q.bindInst), (31, bn q.bindValid)] else q.bindMask
  else 0

/-! ### ACC page (R398 to R402) -/

/-- The slot of an instance page, which a doorbell goes through (R85, R382). -/
def doorbellSlot (n : Nat) : Bool := decide (0xE00 ≤ n) && decide (n < 0x1000)

/-- The pulse of a doorbell. -/
def PulseFrom.isBell (f : PulseFrom) : Bool := f.owner.isSome && doorbellSlot f.slot

/-- The access that an order at a home bank belongs to: a message write whose pulse waits, or a write of LINE_CFG. A relay write stands
in its cell. -/
def Order.access : Order → Option Judged
  | .pulse _ _ f => if f.owner.isSome && !f.isBell && !f.relay then some ⟨f.epoch, f.write⟩ else none
  | .lineCfg w => some w.by_
  | _ => none

/-- The access that a write in the hot write queue belongs to. -/
def HotWrite.access : HotWrite → Judged
  | .take _ _ j | .done _ _ j | .runlvl _ _ j | .resInst _ _ j | .doorbell _ _ _ _ j => j

/-- The accesses of a list, each once: an access may leave several writes behind. -/
def accessesOf (l : List Judged) : List Judged := l.foldl (fun a j => if a.contains j then a else j :: a) []

/-- The epochs of accesses judged under an earlier epoch that have not drained (R396): writes in the hot write queue, cold
requests in flight, relay records in their cells, message writes and writes of LINE_CFG whose order waits; each access counts once. -/
def State.undrained (s : State) : List Nat :=
  let l := s.bus.hotq.map HotWrite.access ++ s.bus.outstanding.map (·.2) ++ (s.parked ++ s.waiting).filterMap (·.2.access)
  ((accessesOf l).map (·.epoch) ++ s.relays.map (·.epoch)).filter fun x => decide (x < s.acc.epoch)

/-- The oldest of a list of epochs. -/
def oldestOf (l : List Nat) : Nat := l.foldl (fun m x => if m = 0 ∨ x + 1 < m then x + 1 else m) 0 - 1

def State.readAcc (s : State) (o : Nat) : Nat :=
  let a := s.acc
  if o = 0x000 then a.epoch % 2 ^ 32
  else if o = 0x004 then
    let u := s.undrained
    pack [(0, bn (!u.isEmpty)), (8, sat 255 u.length), (16, oldestOf u % 2 ^ 16)]
  else if o = 0x010 then a.violAddr
  else if o = 0x014 then withSeq a.violSeq [(0, a.violKind), (4, bn a.violWrite), (5, bn a.violHot), (6, bn a.violSize8),
      (7, bn a.violValid), (16, a.violMore)]
  else if o = 0x018 then pack [(0, a.violMaster), (22, bn a.violPriv), (23, a.violTag)]
  else if o = 0x01C then pack [(0, a.violMatch), (2, a.violRegion), (6, a.violSlot)]
  else if o = 0x020 then a.violCount
  else if o = 0x030 then withSeq a.noteSeq [(0, bn a.notePending), (8, a.noteNew)]
  else if o = 0x034 then pack [(0, a.noteMaster), (22, bn a.notePriv), (23, bn a.noteSpace), (24, a.noteReason),
      (28, a.noteKind)]
  else if o = 0x038 then pack [(0, a.noteSlot), (15, a.noteChan), (19, a.noteInst)]
  else if o = 0x03C then a.noteCount
  else if o = 0x050 then a.slotSel
  else if o = 0x054 then fld a.slotCap 0 32
  else if o = 0x058 then fld a.slotCap 32 32
  else if 0x100 ≤ o ∧ o < 0x180 then fld (s.region ((o - 0x100) / 8)) (if o % 8 = 0 then 0 else 32) 32
  else 0

/-! ### INT page (R376 to R379) -/

/-- The order comes from a register write: LINE_CFG, TGT_DONE or a doorbell. -/
def Order.isWrite : Order → Bool
  | .lineCfg _ => true
  | .done _ reg => reg
  | .pulse _ _ f => f.isBell
  | _ => false

/-- Writes accepted and not yet applied (R378): those in the hot write queue, in the holder of R492 and in wait slots, and the
takes of the register path that their bank has not taken yet. -/
def State.writesWaiting (s : State) : Nat :=
  s.bus.hotq.length + s.bus.bells.length + ((s.parked ++ s.waiting).filter (·.2.isWrite)).length +
  (s.tgts.filter fun p => p.2.path && p.2.port.takenCut).length

def State.readInt (s : State) (o : Nat) : Nat :=
  let c := s.cfg
  if o = 0x000 then c.clampCount
  else if o = 0x004 then withSeq c.clampSeq [(0, bn c.clampLogged), (16, c.clampNew)]
  else if o = 0x010 then pack [(0, bn (s.writesWaiting == 0)), (8, sat 255 s.writesWaiting)]
  else if o = 0x014 then pack [(0, s.bus.hotq.length), (6, bn (s.bus.hotq.length == 32))]
  else if o = 0x020 then c.drainDrop
  else if o = 0x024 then c.swsRedund
  else if o = 0x028 then c.poolWait
  else if 0x100 ≤ o ∧ o < 0x200 then
    match (tget (fun _ => none) c.clampLog ((o - 0x100) / 16) : Option ClampEntry) with
    | none => 0
    | some e =>
      if o % 16 = 0 then e.id else if o % 16 = 4 then e.wr else if o % 16 = 8 then e.ap else e.info
  else 0

/-! ### PWR page (R422 to R427, R444 to R447) -/

/-- HELD of PWR_DUCTUS (R424). -/
def State.heldBits (s : State) : Nat := s.rst.held.foldl (fun a d => a + 2 ^ d) 0

/-- NEXT of PWR_DUCTUS (R424). -/
def State.ductusNext (s : State) : Nat := if s.rst.running then s.rst.next else if s.rst.cold.isEmpty then 9 else 0

def State.readPwr (s : State) (o : Nat) : Nat :=
  let r := s.rst
  let p := s.pwr
  if o = 0x000 then withSeq r.causeSeq [(0, r.cause), (12, r.causeLast)]
  else if o = 0x004 then pack [(0, s.ductusNext), (4, s.heldBits), (13, bn r.coldReach), (14, bn r.ring), (15, bn r.waitInit),
      (16, bn s.waitsPulse),
      (17, bn (r.running && r.next == 2 && !p.pokCore))]
  else if o = 0x008 then s.cfg.gap
  else if o = 0x00C then s.cfg.quiesceLimit
  else if o = 0x010 then withSeq r.dom.seq [(0, r.dom.domain), (4, r.dom.phase), (6, bn r.dom.timedOut)]
  else if o = 0x014 then pack [(0, r.warmCount), (16, r.domCount)]
  else if o = 0x018 then pack [(0, r.qtoMode), (16, r.qtoDomain)]
  else if o = 0x080 then pack [(0, p.pin), (3, p.sw), (6, p.apply), (9, p.ack), (12, bn p.confirm), (13, bn s.nackOut),
      (14, bn p.excursion), (15, bn p.parking)]
  else if o = 0x084 then withSeq p.wakeSeq [(0, p.wakeBits), (16, p.wakeCount)]
  else if o = 0x088 then p.wakeLines
  else if o = 0x08C then p.parkDrop
  else if o = 0x090 then p.alarm % 2 ^ 32
  else if o = 0x094 then p.alarm / 2 ^ 32
  else if o = 0x098 then pack [(0, bn p.alarmEn), (1, bn p.alarmFired)]
  else if o = 0x0A0 then p.lossPend
  else if o = 0x0A4 then p.lossActive
  else if o = 0x0A8 then p.lossInst
  else if o = 0x0B0 then p.resync
  else 0

/-! ### LDG page (R139 to R145, R233, R480 to R483) -/

/-- The nine counters of a ledger, in the order of R141. -/
def Ledger.list (l : Ledger) : List Nat :=
  [l.accepted, l.merged, l.delivered, l.withdrawn, l.dStale, l.dDisabled, l.dReset, l.outstanding, l.refused]

/-- Records passed by the slowest bank (R145). -/
def Sweep.slowest (w : Sweep) : Nat :=
  if w.pos.length < 64 then 0 else w.pos.foldl (fun m p => min m p.2) 4160

/-- A list repair (R148). -/
def isRepair : SweepName → Bool
  | .repair _ => true
  | _ => false

/-- LDG_SCAN (R145). While an audit sweep or a scan and a list repair run at once it shows the former, and of several list repairs
the oldest (assumption log 65). -/
def State.scanWord (s : State) : Nat :=
  match s.sweeps.find? (fun w => countsPending w.name) with
  | some w => pack [(0, w.slowest), (13, 1), (14, if w.name = .audit then 1 else 2)]
  | none =>
    match s.sweeps.find? (fun w => isRepair w.name) with
    | some w => pack [(0, w.slowest), (13, 1), (14, 3)]
    | none => 0

/-- The patch copy with the valid patch of the higher PSEQ is PB (R483). -/
def Rec.patchChosenB (r : Rec) : Bool :=
  match r.patchA, r.patchB with
  | some a, some b => newerSeq a.pseq b.pseq
  | none, some _ => true
  | _, _ => false

/-- The patch that the record gives (R345). -/
def Rec.patchChosen (r : Rec) : Option Patch := if r.patchChosenB then r.patchB else r.patchA

/-- The temperature bin (R471). -/
def tempBin (t : Int) : Nat := if t < -29 then 0 else min 15 ((t + 40) / 11).toNat

/-- The LDG page. RUNNING is 1 during an audit sweep, and not during the scan of REBUILD (assumption log 82). -/
def State.readLdg (s : State) (o : Nat) : Nat :=
  let l := s.ldg
  let r := s.rcd
  if o = 0x000 then pack [(0, l.selInst), (9, bn l.selBlock)]
  else if 0x010 ≤ o ∧ o < 0x058 then
    let v := l.snap.list.getD ((o - 0x010) / 8) 0
    if o % 8 = 0 then v % 2 ^ 32 else v / 2 ^ 32 % 2 ^ 32
  else if o = 0x060 then pack [(0, s.cfg.auditPeriod), (6, bn s.cfg.auditPeriodic), (7, bn s.cfg.auditCredit)]
  else if o = 0x064 then withSeq l.statSeq [(0, bn l.mismatch), (1, bn l.creditMismatch), (2, bn l.rebased),
      (3, bn (s.sweeps.any fun w => w.name == .audit))]
  else if o = 0x068 then l.first
  else if o = 0x06C then l.count
  else if o = 0x070 then s.scanWord
  else if o = 0x074 then l.relaySent
  else if o = 0x078 then l.relayRecv
  else if o = 0x07C then l.relayRefused
  else if o = 0x080 then pack [(0, s.cfg.recPeriod), (6, bn s.cfg.recPeriodic)]
  else if o = 0x084 then withSeq r.statSeq [(0, bn r.writing.isSome), (1, bn r.chosenB), (2, bn r.aValid), (3, bn r.bValid),
      (4, bn r.aBlank), (5, bn r.bBlank), (6, bn r.skipped), (7, bn r.cut), (8, bn r.none_)]
  else if o = 0x088 then r.regSeq
  else if o = 0x08C then r.regWritesA
  else if o = 0x090 then r.regWritesB
  else if o = 0x094 then r.last % 2 ^ 32
  else if o = 0x098 then r.last / 2 ^ 32 % 2 ^ 32
  else if o = 0x09C then pack [(0, bn r.patchA.isSome), (1, bn r.patchB.isSome), (2, bn r.patchChosenB), (3, bn r.patchBusy.isSome),
      (16, (r.patchChosen.map (·.ver)).getD 0)]
  else if o = 0x0A0 then pack [(0, twos 8 r.tempC), (8, r.tempBin)]
  else 0

/-! ### FLT page (R464 to R468) -/

/-- The promoting classes (R453). -/
def promoting : List Nat := [0x01, 0x02, 0x05, 0x07, 0x09, 0x0C, 0x11, 0x12, 0x13]

/-- The window of a promoting class has ended at the present tick (R456). -/
def State.windowOpen (s : State) (p : Pre) : Bool :=
  p.open_ && !(s.tb.good && decide (p.start + p.win * 1024 ≤ s.tick))

def State.readFlt (s : State) (o : Nat) : Nat :=
  let f := s.flt
  if o = 0x000 then withSeq f.seq [(0, bn f.corr), (1, bn f.cont), (2, bn f.cwr), (3, bn f.uncont), (8, f.new_)]
  else if o = 0x004 then f.count
  else if o = 0x008 then f.mergedCount
  else if o = 0x00C then pack [(0, f.queue.length), (5, bn (f.queue.length == 16))]
  else if o = 0x010 then f.qdrop
  else if o = 0x014 then s.cfg.hold
  else if o = 0x018 then pack [(0, s.pins.esc), (2, bn (s.mode.heldEsc || s.mode.heldCwr || s.mode.heldUncont)),
      (3, bn s.parkWaits)]
  else if o = 0x01C then pack [(0, f.escNotify), (10, f.escRecovery), (20, f.escWarm)]
  else if o = 0x020 then pack [(0, s.cmd.pairsDisabled.foldl (fun a p => a + 2 ^ p) 0), (4, s.cmd.restarts)]
  else if 0x080 ≤ o ∧ o < 0x180 then
    match (tget (fun _ => none) f.log ((o - 0x080) / 16) : Option FaultEntry) with
    | none => 0
    | some x =>
      if o % 16 = 0 then pack [(0, x.cls), (8, x.sev), (10, bn x.promoted),
        (11, bn (!s.tb.good || decide (s.tick < x.timerEnd))), (12, 1), (16, x.merged)]
      else if o % 16 = 4 then x.info % 2 ^ 32 else if o % 16 = 8 then x.tick % 2 ^ 32 else x.last % 2 ^ 32
  else if 0x180 ≤ o ∧ promoting.contains ((o - 0x180) / 4) then
    let p : Pre := tget (fun _ => {}) f.pre ((o - 0x180) / 4)
    pack [(0, p.n), (8, p.win), (24, if s.windowOpen p then sat 255 p.count else 0)]
  else 0

/-! ### TBS page (R485 to R488) -/

def State.readTbs (s : State) (o : Nat) : Nat :=
  let b := s.tb
  if o = 0x000 then b.cap % 2 ^ 32
  else if o = 0x004 then (if b.good then b.cap / 2 ^ 32 else 0)
  else if o = 0x008 then withSeq b.seq [(0, b.source), (2, bn b.good), (3, bn b.fallback), (4, bn b.reject), (5, bn b.loaded),
      (6, bn s.strap.tbClamped), (16, b.rejects)]
  else if o = 0x00C then pack [(0, twos 16 b.devPpm), (16, bn b.valid)]
  else if o = 0x010 then b.rej % 2 ^ 32
  else if o = 0x014 then b.rej / 2 ^ 32
  else 0

/-! ### Lines, target pages and instance pages -/

/-- LINE_CFG[k] (R76). -/
def LineCfg.word (c : LineCfg) : Nat := pack [(0, c.sense), (2, bn c.pol), (3, bn c.clamped)]

/-- LINE_STAT[k] (R77). -/
def State.lineStat (s : State) (k : Nat) : Nat :=
  let l := s.line k
  withSeq l.seq [(0, bn l.input), (1, bn l.latch), (2, bn (s.lineLevelOnly k)), (3, bn l.overrun), (16, l.ovrCount)]

/-- EID shown by TGT_TAKE and whether a presentation stands at the register path (R204, R205); 0 while none stands
(assumption log 77). -/
def State.shownReg (s : State) (t : Nat) : Nat × Bool :=
  let c := s.tgt t
  if !c.path || decide (1024 ≤ t) || !c.held then (0, false)
  else if c.blot then (0xFFFFF, true)
  else match c.pres with
    | none => (0, false)
    | some e => if c.port.taken then (0, false) else (e, true)

/-- The running level that the front file shows: the last write while one waits in the hot write queue (R351), but not under PATH 0
(R207). -/
def State.shownRun (s : State) (t : Nat) : Nat :=
  if (s.tgt t).path && decide (t < 1024) then ((tget (fun _ => none) s.bus.frontRun t : Option Nat)).getD (s.tgt t).runRpt
  else (s.tgt t).runRpt

/-- The resident instance that the front file shows (R351). -/
def State.shownRes (s : State) (t : Nat) : Nat :=
  ((tget (fun _ => none) s.bus.frontRes t : Option Nat)).getD (s.tgt t).resInst

def State.readTarget (s : State) (t o : Nat) : Nat :=
  let c := s.tgt t
  let far := decide (1024 ≤ t)
  if o = 0x000 then withSeq c.pseq [(0, (s.shownReg t).1), (20, bn (s.shownReg t).2)]
  else if o = 0x008 then pack [(0, s.shownRun t), (8, c.port.takenSeq), (16, c.runEff)]
  else if o = 0x00C then pack [(0, s.shownRes t), (9, bn c.virt), (10, bn c.switching.isSome)]
  else if o = 0x100 then pack [(0, c.best), (7, if far then 64 else c.presLevel), (14, c.svc.code), (16, bn c.wdrBusy),
      (17, bn c.repair), (18, bn c.sweep), (19, bn (if far then s.farOpen else s.portReady t))]
  else if o = 0x104 then c.occ % 2 ^ 32
  else if o = 0x108 then c.occ / 2 ^ 32
  else if o = 0x110 then withSeq c.port.statSeq [(0, c.port.stat), (16, c.port.statCount)]
  else if o = 0x114 then pack [(0, c.runRpt), (7, c.runEff), (14, c.port.idle), (16, bn c.path),
      (17, bn (s.isNib2 t)), (18, bn c.held), (19, bn c.blot), (20, c.pseq)]
  else if o = 0x118 then (if far then withSeq c.far.seq [(0, c.far.atChan), (2, bn c.far.ready.isSome), (3, c.far.tries),
      (7, bn c.far.wakeCand), (8, bn c.far.limit), (16, c.far.moves)] else 0)
  else if 0x200 ≤ o ∧ o < 0x400 then
    let p : Capture := tget (fun _ => {}) c.pay ((o - 0x200) / 8)
    if o % 8 = 0 then p.payload.toNat else pack [(0, p.eid), (20, bn p.merged), (24, p.pseq)]
  else 0

def State.readInst (s : State) (i o : Nat) : Nat :=
  let c := s.ctx i
  if o = 0x00 then pack [(0, i), (9, bn c.created), (10, bn c.en), (11, bn c.drain), (12, bn c.frozen), (13, bn c.oldGen),
      (14, c.gen), (22, c.weight)]
  else if o = 0x04 then c.tokens
  else if o = 0x08 then c.rate
  else if o = 0x0C then c.cellsPlaced
  else if o = 0x10 then c.quota
  else if o = 0x14 then c.rateList.length
  else if o = 0x18 then c.quotaList.length
  else if o = 0x1C then pack [(0, c.dormCount), (19, c.dormFirst)]
  else if o = 0x20 then withSeq c.statSeq [(0, bn c.statRate), (1, bn c.statQuota), (2, bn c.statStale), (3, bn c.statShare)]
  else if o = 0x24 then c.huskOut
  else if o = 0x28 then c.huskIn
  else if o = 0x2C then pack [(0, c.phase.code), (2, bn c.saving), (3, bn c.restored), (4, bn c.corrupt), (8, c.hseq),
      (16, c.originBlock), (22, c.originInst)]
  else 0

/-- The value that a register reads; a hole reads 0 (R349). -/
def State.readReg (s : State) (r : RegAt) : Nat :=
  (match r with
   | .global 0 o => s.readGlb o
   | .global 1 o => s.readCmd o
   | .global 2 o => s.readAcc o
   | .global 3 o => s.readInt o
   | .global 4 o => s.readPwr o
   | .global 5 o => s.readLdg o
   | .global 6 o => s.readFlt o
   | .global _ o => s.readTbs o
   | .lineCfg k => (s.lineCfg k).word
   | .lineStat k => s.lineStat k
   | .target t o => s.readTarget t o
   | .inst i o => s.readInst i o
   | .hole => 0) % 2 ^ 32

end Sys2Proof.Machine
end

