-- ==== Sys2Proof/Machine/Husk.lean ====
section
/-! DEFINITION. The husk image (R288 to R293): its header and sections, the words of a save, the placement of a restore
(R294 to R297) and its revert (R296). -/
namespace Sys2Proof.Machine

/-! ### Reading an image (R288, R289, R292) -/

/-- The header of an image as far as it has arrived. -/
structure HuskHead where
  version : Nat
  delta : Bool
  moved : Bool
  block : Nat
  inst : Nat
  hseq : Nat
  length : Nat
  nsrc : Nat
  npage : Nat
  ngrp : Nat
  ntrans : Nat
  ntgt : Nat
  deriving DecidableEq, Repr

/-- The header fields in a list of words. -/
def huskHead (ws : List (BitVec 64)) : HuskHead :=
  let w0 := ws.getD 0 0
  let w1 := ws.getD 1 0
  let w2 := ws.getD 2 0
  { version := fld w0 16 8, delta := flag w0 24, moved := flag w0 25, block := fld w0 26 6, inst := fld w0 32 9,
    hseq := fld w0 41 8, length := fld w1 0 32, nsrc := fld w1 32 19, npage := fld w2 0 15,
    ngrp := if fld w0 16 8 = 2 then fld w2 15 17 else 0, ntrans := fld w2 32 19, ntgt := fld w2 51 11 }

/-- Words of the header. -/
def HuskHead.size (h : HuskHead) : Nat := if h.version = 2 then 8 else 4
/-- Words of one page entry and of one source entry. -/
def HuskHead.wide (h : HuskHead) : Nat := if h.version = 2 then 2 else 1
/-- First word of the page section. -/
def HuskHead.pageAt (h : HuskHead) : Nat := h.size + h.ntgt
def HuskHead.transAt (h : HuskHead) : Nat := h.pageAt + h.wide * h.npage
def HuskHead.groupAt (h : HuskHead) : Nat := h.transAt + h.ntrans
def HuskHead.srcAt (h : HuskHead) : Nat := h.groupAt + h.ngrp
def HuskHead.trailerAt (h : HuskHead) : Nat := h.srcAt + h.wide * h.nsrc
/-- L, the sum of the sections (R288). -/
def HuskHead.total (h : HuskHead) : Nat := h.trailerAt + 2

/-- A source entry of an image, in either version (R291, R292). -/
structure HuskSrc where
  eid : Nat
  ok : Bool
  state : Nat
  en : Bool
  drain : Bool
  groupEn : Bool
  merged : Bool
  target : Nat
  taker : Nat
  vector : Nat
  prio : Nat
  payload : BitVec 32
  group : Nat
  deriving DecidableEq, Repr

/-- An EID that a husk may carry: a MID or a software event (R285). -/
def huskEid (e : Nat) : Bool := (decide (0x1000 ≤ e) && decide (e < 0x41000)) || (decide (0xA00 ≤ e) && decide (e < 0xE00))

/-- A source entry from its words. -/
def huskSrc (version : Nat) (a b : BitVec 64) : HuskSrc :=
  if version = 2 then
    { eid := fld a 0 20, ok := huskEid (fld a 0 20), state := fld a 20 2, en := flag a 22, drain := flag a 23,
      groupEn := flag a 24, merged := flag a 25, target := fld a 26 11, taker := fld a 37 11, vector := fld a 48 8,
      prio := fld a 56 6, payload := w32 (fld b 0 32), group := fld b 32 16 }
  else
    let e := if flag a 16 then 0xA00 + fld a 0 16 else 0x1000 + fld a 0 16
    { eid := e, ok := (!flag a 16 || decide (fld a 0 16 < 1024)) && decide (fld a 17 2 < 2), state := fld a 17 2, en := flag a 19,
      drain := false, groupEn := false, merged := false, target := fld a 25 8, taker := 0, vector := fld a 33 8,
      prio := 2 * fld a 20 5, payload := w32 (fld a 41 16), group := 0 }

/-- Where a carried EID goes (R294). -/
def HuskIn.placeEid (h : HuskIn) (e : Nat) : Nat :=
  if 0x1000 ≤ e then 0x1000 + (e - 0x1000 + h.midDelta) % 262144 else e

/-- The map entry of an origin target (R294). -/
def HuskIn.mapTarget (h : HuskIn) (t : Nat) : Option Nat :=
  let d := huskHead h.words
  ((List.range d.ntgt).find? fun k => fld (h.words.getD (d.size + k) 0) 0 11 == t).map
    fun k => fld (h.words.getD (d.total + k) 0) 0 11

/-! ### Revert (R296, R297) -/

/-- A delta's revert of one source: a pending event that the delta made is discarded, a payload that it replaced is
put back. -/
def State.undoSource (s : State) (u : Nat × SrcRec) : State :=
  let e := u.1
  let r0 := s.source e
  let s := if !u.2.pend && r0.pend then s.endPending e .disabled (if r0.inService then .active else .inactive)
    else s.onSource e fun r => { r with payload := u.2.payload, merged := u.2.merged }
  s.commit e r0

/-- A restore ends with a failure: a delta is undone and answered at once; a full restore runs the destroy sweep of
R257 with `j` treated as DISABLED (R296). -/
def State.revert (s : State) (h : HuskIn) (owner : Option Nat) (status result : Nat) : State :=
  let reply := fun (s : State) =>
    match s.cmd.deferred.find? (fun d => some d.id == owner) with
    | none => s
    | some d => s.second d status [w64 result]
  if h.delta then reply (forEach h.undo.reverse (fun u s => s.undoSource u) s)
  else if h.words.isEmpty then reply s
  else
    let s := s.onCtx h.inst fun c => { c with en := false, drain := false }
    let s := { s with cmd := { s.cmd with reverts := s.cmd.reverts ++ [{ h with failed := some (status, result) }] } }
    s.startSweep (.destroy (Fin.ofNat 512 h.inst))

/-! ### Placing the items (R294, R295, R297) -/

/-- A page entry in the run of a guest that is not FREE belongs to it (R88). -/
def State.guestOwns (s : State) (e : Nat) : Bool :=
  s.insts.any fun p => p.1 != 0 && p.2.created && decide (p.2.pageBase ≤ e) && decide (e < p.2.pageBase + p.2.pageCount)

/-- A page run meets the run of another instance that is not FREE, or an entry that VI 0 holds valid (R88, R255). -/
def State.runTaken (s : State) (i base count : Nat) : Bool :=
  s.insts.any (fun p => p.1 != i && p.1 != 0 && p.2.created && decide (0 < count) && decide (0 < p.2.pageCount) &&
    decide (p.2.pageBase < base + count) && decide (base < p.2.pageBase + p.2.pageCount)) ||
  (s.pages.any fun p => decide (base ≤ p.1) && decide (p.1 < base + count) && p.2.valid && !s.guestOwns p.1)

/-- A page run fits under R255. -/
def State.runFits (s : State) (i base count : Nat) : Bool := decide (base + count ≤ 16384) && !s.runTaken i base count

/-- Settings of the instance from the header, under the clamps of R256; `true` when a field was clamped. -/
def huskShare (c : Inst) (d : HuskHead) (ws : List (BitVec 64)) : Inst × List Clamped :=
  let w3 := ws.getD 3 0
  let w4 := ws.getD 4 0
  let v2 := d.version == 2
  let rate := fld w3 0 16
  let burst0 := fld w3 16 16
  let refill0 := fld w3 32 16
  let weight0 := if v2 then fld w4 0 8 else fld w3 48 8
  let quota0 := if v2 then fld w4 8 19 else 266240
  let burst := max (max burst0 rate) 1
  let refill := near 128 32768 refill0
  let weight := near 1 255 weight0
  let quota := near 1 266240 quota0
  let tokens := if v2 then min burst (fld w3 48 16) else burst
  let en := if v2 then flag w4 27 else flag w3 56
  let cs := clampIf 3 16 16 burst0 burst ++ clampIf 3 32 16 refill0 refill ++
    clampIf (if v2 then 4 else 3) (if v2 then 0 else 48) 8 weight0 weight ++ clampIf 4 8 19 quota0 quota
  ({ c with rate := rate, burst := burst, refill := refill, newRate := rate, newBurst := burst, newRefill := refill,
            weight := weight, quota := quota, tokens := tokens, en := en }, cs)

/-- The restored group of an entry (R290, R294). BYP_TGT reads 0 until the target map gives it (assumption log 68). -/
def huskGroup (j : Nat) (w : BitVec 64) : Group :=
  { thresh := fld w 16 13, timer := fld w 29 16, en := flag w 45, inst := j }

/-- A source entry of a full husk takes effect at its destination as its last word arrives (R295). TARGET and TAKER read 0 until
the target map gives them (assumption log 68). -/
def State.placeSource (s : State) (h : HuskIn) (x : HuskSrc) : State :=
  let e := h.placeEid x.eid
  let pend := x.state % 2 == 1
  let st : SrcState := if x.state = 0 then .inactive else if x.state = 1 then .pending else if x.state = 2 then .active
    else .activePending
  let r0 := s.source e
  let s := s.putSource e
    { st := st, en := x.en, drain := x.drain, held := { frozen := pend }, merged := pend && x.merged, groupEn := x.groupEn,
      inst := h.inst, payload := x.payload, group := (x.group + h.groupDelta) % 65536, vector := x.vector, prio := x.prio,
      stamp := s.tick, gen := (s.ctx h.inst).parity }
  let s := if pend then s.ledge h.inst .accept else s
  let s := if st = .pending then s.onCtx h.inst fun c => { c with frozenList := c.frozenList ++ [e] } else s
  let s := s.restoreCell e
  { s with sweeps := s.sweeps.map fun w => w.adjust e r0 (s.source e) }

/-- The target map gives TARGET and TAKER of a restored source (R294); the guest table of the target follows (R260). -/
def State.mapSource (s : State) (h : HuskIn) (e target taker : Nat) : State :=
  (s.guestIn target h.inst).onSource e fun r => { r with target := target, taker := taker }

/-- A source entry of a delta at its destination (R297). -/
def State.placeDelta (s : State) (e : Nat) (x : HuskSrc) : State :=
  let r0 := s.source e
  let i := r0.inst
  let fresh := { r0 with originLevel := false, payload := x.payload, merged := x.merged, stamp := s.tick,
                         gen := (s.ctx i).parity, place := .unplaced, held := { frozen := true } }
  let s : State :=
    match r0.st with
    | .inactive =>
      ((s.putSource e { fresh with st := .pending }).ledge i .accept).onCtx i
        fun c => { c with frozenList := c.frozenList ++ [e] }
    | .active => (s.putSource e { fresh with st := .activePending }).ledge i .accept
    | _ => (s.putSource e { r0 with payload := x.payload, merged := true }).ledge i .merge
  s.commit e r0

/-- What one arriving word gives: the state, the record of the restore, and a failure with its status. -/
structure HuskStep where
  s : State
  h : HuskIn
  fail : Option Nat := none

/-- The first word of an image (R294, R295, R297). -/
def huskFirst (s : State) (h : HuskIn) : HuskStep :=
  let d := huskHead h.words
  let w0 := h.words.getD 0 0
  let j := h.inst
  if h.delta then
    let c := s.ctx j
    if !d.delta then { s := s, h := h, fail := some 0x14 }
    else if fld w0 0 16 ≠ 0x4B48 ∨ d.version ≠ 2 then { s := s, h := h, fail := some 0x1A }
    else if d.block ≠ c.originBlock ∨ d.inst ≠ c.originInst ∨ d.hseq ≠ seqUp c.hseq then
      { s := s, h := h, fail := some 0x17 }
    else { s := s, h := h }
  else
    let c0 := s.ctx j
    let c : Inst := { created := true, frozen := true, phase := .restoring, pageBase := h.pageBase,
                      originBlock := d.block, originInst := d.inst, hseq := d.hseq,
                      nextRefill := s.tick + 128, statRate := c0.statRate, statQuota := c0.statQuota,
                      statStale := c0.statStale, statShare := c0.statShare, statSeq := c0.statSeq }
    let s := s.putCtx j c
    if d.delta then { s := s, h := h, fail := some 0x14 }
    else if fld w0 0 16 ≠ 0x4B48 ∨ (d.version ≠ 1 ∧ d.version ≠ 2) then { s := s, h := h, fail := some 0x1A }
    else { s := s, h := h }

/-- The counts of the header (R294): LENGTH, the page run and the translation run. -/
def huskCounts (s : State) (h : HuskIn) : HuskStep :=
  let d := huskHead h.words
  if d.length ≠ d.total then { s := s, h := h, fail := some 0x11 }
  else if h.delta then { s := s, h := h }
  else if !s.runFits h.inst h.pageBase d.npage then { s := s, h := h, fail := some 0x18 }
  else if 262144 < h.transBase + d.ntrans ||
      (s.trans.any fun p => decide (h.transBase ≤ p.1) && decide (p.1 < h.transBase + d.ntrans) && p.2.valid) then
    { s := s, h := h, fail := some 0x18 }
  else { s := s.onCtx h.inst fun c => { c with pageCount := d.npage }, h := h }

/-- The last header word: the settings (R295). -/
def huskSettings (s : State) (h : HuskIn) (q : Nat) (owner : Option Nat) : HuskStep :=
  if h.delta then { s := s, h := h }
  else
    let d := huskHead h.words
    let p := huskShare (s.ctx h.inst) d h.words
    let s := s.putCtx h.inst { p.1 with nextRefill := s.tick + p.1.refill }
    let s := s.recordClamps q 0x3A p.2
    let s : State := if p.2.isEmpty then s else { s with cmd := { s.cmd with
      deferred := s.cmd.deferred.map fun x => if some x.id == owner then { x with clamped := true } else x } }
    { s := s, h := h }

/-- A complete page or translation entry is written (R294). -/
def huskTable (s : State) (h : HuskIn) (n : Nat) : HuskStep :=
  let d := huskHead h.words
  let w := h.words.getD n 0
  if n < d.transAt then
    let p := (n - d.pageAt) / d.wide
    let first := h.words.getD (d.pageAt + p * d.wide) 0
    if (n - d.pageAt) % d.wide + 1 = d.wide then
      let e : PageEntry := ({} : PageEntry).load0 first
      let e := if d.wide = 2 then e.load1 w else e
      { s := s.putPage (h.pageBase + p) { e with tbase := (e.tbase + h.transBase) % 262144 }, h := h }
    else { s := s, h := h }
  else
    let t : TransEntry := if d.version = 2 then transOf w else { mid := fld w 0 16, valid := flag w 16 }
    { s := s.putTrans (h.transBase + (n - d.transAt)) { t with mid := (t.mid + h.midDelta) % 262144 }, h := h }

/-- A group to which a restore may write: DISABLED with LEN 0 in VI 0 (R294). -/
def Group.free (g : Group) : Bool := g.inst == 0 && !g.en && !g.drain && g.held.isEmpty

/-- A source to which a restore may write: DISABLED and Inactive in VI 0 (R294). -/
def SrcRec.fresh (r : SrcRec) : Bool := r.inst == 0 && !r.en && !r.drain && r.st == .inactive

/-- A group entry is checked and written (R294). -/
def huskGroupAt (s : State) (h : HuskIn) (n : Nat) : HuskStep :=
  let w := h.words.getD n 0
  let g := (fld w 0 16 + h.groupDelta) % 65536
  if (s.grp g).free then { s := s.putGrp g (huskGroup h.inst w), h := h } else { s := s, h := h, fail := some 0x18 }

/-- The last word of a source entry (R294, R295, R297). -/
def huskSourceAt (s : State) (h : HuskIn) (n : Nat) : HuskStep :=
  let d := huskHead h.words
  if (n - d.srcAt) % d.wide + 1 ≠ d.wide then { s := s, h := h }
  else
    let x := huskSrc d.version (h.words.getD (n + 1 - d.wide) 0) (h.words.getD n 0)
    let e := h.placeEid x.eid
    let r := s.source e
    if !x.ok then { s := s, h := h, fail := some 0x1A }
    else if h.delta then
      if r.inst ≠ h.inst then { s := s, h := h, fail := some 0x1A }
      else { s := s.placeDelta e x, h := { h with undo := h.undo ++ [(e, r)] } }
    else if r.fresh then { s := s.placeSource h x, h := h }
    else { s := s, h := h, fail := some 0x18 }

/-- The CRC of the image is correct (R288). -/
def huskCrcOk (ws : List (BitVec 64)) (l : Nat) : Bool :=
  (ws.getD (l - 1) 0).toNat == crc32c ((ws.take (l - 1)).map (·.toNat))

/-- A map word is legal (R294). -/
def huskMapOk (h : HuskIn) (k : Nat) : Bool :=
  let d := huskHead h.words
  let v := fld (h.words.getD (d.total + k) 0) 0 11
  decide (v ≤ 1535) && (decide (1024 ≤ v) == flag (h.words.getD (d.size + k) 0) 11)

/-- The target map of a full husk is complete: every group and source gets its targets, or the first entry that cannot is
answered and none does (R260, R294). -/
def huskFinish (s : State) (h : HuskIn) : State × Option (Nat × Nat) :=
  let d := huskHead h.words
  let stepGroup := fun (a : State × Option (Nat × Nat)) (k : Nat) =>
    match a.2 with
    | some _ => a
    | none =>
      let w := h.words.getD (d.groupAt + k) 0
      match h.mapTarget (fld w 46 11) with
      | none => (a.1, some (0x1A, d.groupAt + k))
      | some t => (a.1.onGrp ((fld w 0 16 + h.groupDelta) % 65536) fun c => { c with bypTgt := t }, none)
  let stepSource := fun (a : State × Option (Nat × Nat)) (k : Nat) =>
    match a.2 with
    | some _ => a
    | none =>
      let n := d.srcAt + k * d.wide
      let x := huskSrc d.version (h.words.getD n 0) (h.words.getD (n + d.wide - 1) 0)
      match h.mapTarget x.target, (if x.state < 2 then some 0 else h.mapTarget x.taker) with
      | some t, some u =>
        if a.1.guestFits t h.inst then (a.1.mapSource h (h.placeEid x.eid) t u, none) else (a.1, some (0x18, n + d.wide - 1))
      | _, _ => (a.1, some (0x1A, n + d.wide - 1))
  let r := (List.range d.nsrc).foldl stepSource ((List.range d.ngrp).foldl stepGroup (s, none))
  if h.delta then (s, none) else if r.2.isSome then (s, r.2) else r

/-- One word of an image has arrived (R294 to R297): `h.words` ends with it. -/
def huskWord (s : State) (h : HuskIn) (q : Nat) (owner : Option Nat) : HuskStep :=
  let n := h.words.length - 1
  let d := huskHead h.words
  if n = 0 then huskFirst s h
  else if n = 1 then { s := s, h := h }
  else
    let a : HuskStep := if n = 2 then huskCounts s h else { s := s, h := h }
    if a.fail.isSome then a
    else if n + 1 = d.size then huskSettings a.s a.h q owner
    else if n < d.pageAt then a
    else if n < d.groupAt then huskTable a.s a.h n
    else if n < d.srcAt then huskGroupAt a.s a.h n
    else if n < d.trailerAt then huskSourceAt a.s a.h n
    else if n + 1 = d.total then (if huskCrcOk h.words d.total then a else { a with fail := some 0x1A })
    else if d.total ≤ n then (if huskMapOk h (n - d.total) then a else { a with fail := some 0x12 })
    else a

/-- The restore is complete (R295, R297). -/
def State.huskDone (s : State) (h : HuskIn) : State :=
  let d := huskHead h.words
  let carried := fld (h.words.getD d.trailerAt 0) 0 32
  s.onCtx h.inst fun c =>
    { c with phase := .frozen, restored := true, huskIn := (c.huskIn + carried) % 2 ^ 32,
             hseq := if h.delta then d.hseq else c.hseq }

/-! ### Writing an image (R285 to R293) -/

/-- The sources that a save carries (R285), in ascending EID order. -/
def State.carries (s : State) (i e : Nat) (delta : Bool) : Bool :=
  let r := s.source e
  huskEid e && r.inst == i && (!delta || r.pend)

/-- Page entries of an instance, in page order, each with the offset of its run (R290). R88 gives every entry its run, whatever
its VALID. -/
def State.huskPages (s : State) (i : Nat) : List (PageEntry × Nat) :=
  let c := s.ctx i
  ((List.range c.pageCount).foldl (fun (a : List (PageEntry × Nat) × Nat) p =>
    let e := s.page (c.pageBase + p)
    (a.1 ++ [(e, a.2)], a.2 + (e.fnM1 + 1) * e.tstride)) ([], 0)).1

/-- Translation entries of the runs of the pages, in page order (R290). -/
def State.huskTrans (s : State) (i : Nat) : List TransEntry :=
  (s.huskPages i).flatMap fun p => (List.range ((p.1.fnM1 + 1) * p.1.tstride)).map fun k => s.transEntry (p.1.tbase + k)

/-- Groups whose INST is the instance. -/
def State.huskGroups (s : State) (i : Nat) : List (Nat × Group) := s.groups.filter fun p => p.2.inst == i

/-- A group entry (R290). -/
def huskGroupWord (g : Nat) (c : Group) : BitVec 64 :=
  w64 (pack [(0, g), (16, c.thresh), (29, c.timer), (45, bn c.en), (46, c.bypTgt)])

/-- A target list entry (R290). -/
def huskTargetWord (t : Nat) : BitVec 64 := w64 (pack [(0, t), (11, bn (decide (1024 ≤ t)))])

/-- The distinct targets that the sections name, in ascending order (R289). -/
def State.huskTargets (s : State) (i version : Nat) (delta : Bool) (srcs : List Nat) : List Nat :=
  let a := srcs.foldl (fun l e =>
    let r := s.source e
    let l := addOnce r.target l
    if r.inService && version == 2 then addOnce r.taker l else l) []
  if version = 2 && !delta then (s.huskGroups i).foldl (fun l p => addOnce p.2.bypTgt l) a else a

/-- The words of an image before its source entries, and its length (R288, R289, R292). -/
def State.huskFront (s : State) (i version : Nat) (moved delta : Bool) (srcs : List Nat) : List (BitVec 64) × Nat :=
  let c := s.ctx i
  let v2 := version == 2
  let tgts := s.huskTargets i version delta srcs
  let pages := if delta then [] else s.huskPages i
  let trans := if delta then [] else s.huskTrans i
  let grps := if delta || !v2 then [] else s.huskGroups i
  let wide := if v2 then 2 else 1
  let l := (if v2 then 8 else 4) + tgts.length + wide * pages.length + trans.length + grps.length + wide * srcs.length + 2
  let w0 := w64 (pack [(0, 0x4B48), (16, version), (24, bn delta), (25, bn moved), (26, s.strap.blockNum), (32, i),
    (41, c.hseq)])
  let w1 := w64 (pack [(0, l), (32, srcs.length)])
  let w2 := w64 (pack [(0, pages.length), (15, grps.length), (32, trans.length), (51, tgts.length)])
  let head := if v2 then
      [w0, w1, w2, c.word 1, w64 (pack [(0, c.weight), (8, c.quota), (27, bn c.en)]), w64 s.tick, 0, 0]
    else [w0, w1, w2, w64 (pack [(0, c.rate), (16, c.burst), (32, c.refill), (48, c.weight), (56, bn c.en)])]
  let pw := pages.flatMap fun p =>
    let e := { p.1 with tbase := p.2 }
    if v2 then [e.word0, e.word1] else [e.word0]
  let tw := trans.map fun t => if v2 then t.word else w64 (pack [(0, t.mid % 2 ^ 16), (16, bn t.valid)])
  (head ++ tgts.map huskTargetWord ++ pw ++ tw ++ grps.map (fun p => huskGroupWord p.1 p.2), l)

/-- Word 0 of a version 2 source entry (R291). -/
def SrcRec.huskWord0 (r : SrcRec) (e : Nat) : BitVec 64 :=
  w64 (pack [(0, e), (20, r.st.code), (22, bn r.en), (23, bn r.drain), (24, bn r.groupEn), (25, bn r.merged),
    (26, r.target), (37, if r.inService then r.taker else 0), (48, r.vector), (56, r.prio)])

/-- Word 1 of a version 2 source entry. -/
def SrcRec.huskWord1 (r : SrcRec) : BitVec 64 := w64 (pack [(0, r.payload.toNat), (32, r.group)])

/-- A version 1 source entry (R292, R293). -/
def SrcRec.huskV1 (r : SrcRec) (e : Nat) : BitVec 64 :=
  let soft := decide (e < 0x1000)
  w64 (pack [(0, if soft then e - 0xA00 else e - 0x1000), (16, bn soft), (17, r.st.code), (19, bn r.en), (20, r.prio / 2),
    (25, r.target), (33, r.vector), (41, r.payload.toNat % 2 ^ 16)])

/-- A source that a version 1 image cannot carry (R293); `carried` tells that it is in the husk. -/
def State.unfitV1 (s : State) (e : Nat) (carried : Bool) : Bool :=
  let r := s.source e
  r.inService || r.groupEn || (carried && (decide (0x11000 ≤ e) || decide (255 < r.target)))

/-- The first value that version 1 changes in the sources of a save, in the order of the entries: lowest bit and width of the
field in the entry, the value of the source, and the value that a restore of the entry gives back (R293, assumption log 46). -/
def State.huskChange (s : State) (srcs : List Nat) : Option (Nat × Nat × Nat × Nat) :=
  (srcs.flatMap fun e =>
    let r := s.source e
    let v := r.payload.toNat
    (if r.prio % 2 = 1 then [(20, 5, r.prio, r.prio / 2 * 2)] else []) ++
    (if v < 2 ^ 16 then [] else [(41, 16, v, v % 2 ^ 16)])).head?

/-- A moving save takes the event that the entry carried (R286); `code` is the state that the entry shows (assumption log 88). An event
that was accepted after the entry was read stays pending, and joins the list of its first reason. -/
def State.moveOut (s : State) (e code : Nat) : State :=
  let r0 := s.source e
  let i := r0.inst
  let s := s.staleFirst e
  let count := fun (s : State) => s.onCtx i fun c => { c with huskOut := wrap 32 (c.huskOut + 1) }
  let s := if code % 2 = 1 ∧ (s.source e).pend then
      count (s.endPending e .deliver (if (s.source e).inService then .active else .inactive)) else s
  let s := if 2 ≤ code ∧ (s.source e).inService then
      let waits := (s.source e).pend
      if waits then (s.endActive e).linkHeld e else s.endActive e
    else s
  (s.drainCheck e).commit e r0

end Sys2Proof.Machine
end

