-- ==== Sys2Proof/Machine/Cdw.lean ====
section
/-! DEFINITION. The command data window (R316 to R319): transfers, the words of each kind of transfer (R286, R287, R327,
R336, R343 to R345) and their ends. -/
namespace Sys2Proof.Machine

/-! ### The window -/

/-- The window closes; POS stays readable (R317, assumption log 78). -/
def State.closeCdw (s : State) : State :=
  { s with cmd := { s.cmd with cdw := { s.cmd.cdw with
      open_ := false, announce := none, left := 0, buf := [], atBank := false, failed := none, owner := none, xfer := none } } }

/-- The window is open for a transfer of `left` words, from the reply of deferred command `id` on (R316). -/
def State.openCdw (s : State) (q id : Nat) (owner : Option Nat) (outward : Bool) (left : Nat) (x : Xfer) : State :=
  let said := (s.cmd.deferred.find? fun d => d.id == id).map fun d => (d.tag, d.opcode)
  { s with cmd := { s.cmd with cdw := { q := q, open_ := true, announce := said, outward := outward, pos := 0, left := left,
                                        last := s.tick, owner := owner, xfer := some x } } }

/-- The window is taken by a command that will open it with its second reply. -/
def State.claimCdw (s : State) (q : Nat) (owner : Nat) : State :=
  { s with cmd := { s.cmd with cdw := { q := q, owner := some owner } } }

/-- The window belongs to a command (R316). -/
def Cdw.owned (c : Cdw) : Bool := c.open_ || c.owner.isSome

/-- The deferred command that owns the window gives its second reply. -/
def State.answerOwner (s : State) (owner : Option Nat) (status : Nat) (result : List (BitVec 64)) : State :=
  match s.cmd.deferred.find? (fun d => some d.id == owner) with
  | none => s
  | some d => s.second d status result

/-- A transfer ends before its last word (R319): an inward one with a second reply and what its command reverts, an
outward one without; a save ends (R287). -/
def State.endShort (s : State) (status : Nat) : State :=
  let c := s.cmd.cdw
  let s := s.closeCdw
  match c.xfer with
  | none => s
  | some (.huskIn h) => s.revert h c.owner status c.pos
  | some (.huskOut h) => s.onCtx h.inst fun i => { i with saving := false }
  | some (.words _) => s
  | some (.bulk _) => s
  | _ => s.answerOwner c.owner status [w64 c.pos]

/-- A warm reset or a reset of D3 ends the transfer, and with it a command that owns the window but has not opened it
(R287, R319, R415, assumption log 57): its second reply is BAD_LENGTH with 0 words. -/
def State.stopCdw (s : State) : State :=
  let c := s.cmd.cdw
  if c.open_ then s.endShort 0x11
  else if c.owner.isNone then s
  else
    let s := s.closeCdw
    let s : State := match c.xfer with
      | some (.huskOut h) =>
        ({ s with sweeps := s.sweeps.filter (·.name != SweepName.prepare (Fin.ofNat 512 h.inst)) }).onCtx h.inst
          fun i => { i with saving := false }
      | _ => { s with rcd := { s.rcd with readWait := s.rcd.readWait.filter (some ·.1 != c.owner) } }
    s.answerOwner c.owner 0x11 [0]

/-- The owning queue takes its next header: the transfer ends short (R319), and a save also while it prepares (R287). -/
def State.cutCdw (s : State) : State :=
  if s.cmd.cdw.open_ then s.endShort 0x11
  else match s.cmd.cdw.xfer with
    | some (.huskOut _) => s.stopCdw
    | _ => s

/-- A word passes the window (R317). -/
def Cdw.advance (c : Cdw) (now : Nat) : Cdw := { c with pos := c.pos + 1, left := c.left - 1, last := now }

/-- What the transfer goes on with. -/
def State.xferOn (s : State) (x : Xfer) : State := { s with cmd := { s.cmd with cdw := { s.cmd.cdw with xfer := some x } } }

/-- An inward transfer is complete: the window closes and the second reply goes out. -/
def State.endInward (s : State) (owner : Option Nat) (status result : Nat) : State :=
  (s.closeCdw).answerOwner owner status [w64 result]

/-! ### Target settings and their clamps (R162, R185, R212, R259, R332) -/

/-- Word 1 or parameter word 2: VBASE, VSHIFT, PATH. -/
def Tgt.setPres (c : Tgt) (w : BitVec 64) (word : Nat) : Tgt × List Clamped :=
  let vb0 := fld w 0 40
  let vs0 := fld w 40 4
  let vb := min vb0 ((2 ^ 52 - 2 ^ 16) / 4096)
  let vs := near 2 8 vs0
  ({ c with vbase := vb, vshift := vs, path := flag w 44 }, clampIf word 0 40 vb0 vb ++ clampIf word 40 4 vs0 vs)

/-- DEP_EN and DEPUTY under the clamps of R162 and R259; `bit` is the place of DEP_EN. -/
def State.depClamp (s : State) (t : Nat) (virt dep : Bool) (deputy word bit lsb : Nat) : Bool × Nat × List Clamped :=
  let d := min deputy 1535
  let ok := !virt && !(d == t) && (decide (d < 1024) == decide (t < 1024)) && !(s.tgt d).virt
  let en := dep && ok
  let ce := clampIf word bit 1 (bn dep) (bn en)
  let cd := clampIf word lsb 11 deputy d
  (en, d, if bit < lsb then ce ++ cd else cd ++ ce)

/-- Far settings words 4, 5, 6 under the clamps of R212; `base` is the parameter word of the first. -/
def Far.setAll (f : Far) (w4 w5 w6 : BitVec 64) (base : Nat) : Far × List Clamped :=
  let form0 := fld w4 62 2
  let form := if form0 = 3 then 0 else form0
  let addr0 := fld w4 0 62
  let addr := if form = 1 ∨ form = 2 then addr0 / 2 * 2 else addr0
  let chan := fld w5 32 2
  let alt0 := fld w5 34 4
  let alt := alt0 ||| 2 ^ chan
  let auto0 := flag w5 41
  let auto := auto0 || form == 2
  let cs := clampIf base 0 62 addr0 addr ++ clampIf base 62 2 form0 form true ++ clampIf (base + 1) 34 4 alt0 alt ++
    clampIf (base + 1) 41 1 (bn auto0) (bn auto)
  ({ f with msgAddr := BitVec.ofNat 62 addr, form := form, msgData := w32 (fld w5 0 32), chan := chan, altMask := alt,
            tc := fld w5 38 3, auto := auto, retryMax := fld w5 42 4, stallLimit := fld w5 46 16,
            linkIdle := fld w6 0 16 }, cs)

/-- A change of the presentation settings of a Nib-2 target goes to its agent, now or as soon as it can (R200). -/
def State.tellAgent (s : State) (t : Nat) (old : Tgt) : State :=
  let c := s.tgt t
  if !s.isNib2 t || (c.vbase = old.vbase ∧ c.vshift = old.vshift ∧ c.blotVa = old.blotVa) then s
  else if (s.link (t / 32)).open_ && s.linkOn (t / 32) && !s.isHeld 7 then s.sendSettings t
  else s.onPort t fun p => { p with cfgDue := true }

/-- A change of PATH of a nib target (R204): on the register path REQ is low; back at the port the running level is the one that
the port last sampled (R192), and the target may report idle (R245). On the register path the running level stays as last reported
until software writes it (assumption log 44); a blot that stands there is held on when PATH returns to 0 (assumption log 84). -/
def State.pathChange (s : State) (t : Nat) (old : Tgt) : State :=
  let c := s.tgt t
  if 1024 ≤ t ∨ c.path = old.path then s
  else if c.path then s.onPort t fun p => { p with req := false, due := none }
  else (s.reportRun t c.port.runIn).bypassFor t

/-! ### BULK_LOAD of the inkwell (R344) -/

/-- The tick nearest to the present one whose low 31 bits are `v`. -/
def tickNear (now v : Nat) : Nat :=
  let d := (v + 2 ^ 31 - now % 2 ^ 31) % 2 ^ 31
  if d < 2 ^ 30 ∨ now < 2 ^ 31 - d then now + d else now + d - 2 ^ 31

/-- A group record word as loaded. -/
def Group.load (g : Group) (k : Nat) (w : BitVec 64) : Group :=
  if k = 0 then { g with thresh := fld w 0 13, timer := fld w 13 16, en := flag w 29, drain := false, bypTgt := fld w 31 11,
                         inst := fld w 42 9, open_ := false, batches := [] }
  else if k = 1 then { g with count := 0, start := 0 }
  else if k = 2 then { g with held := [] }
  else { g with closed := 0, lastSize := 0, lastCause := 0 }

/-- An instance context word as loaded; VI 0 is never FREE and its run covers every page entry (R88). -/
def Inst.load (c : Inst) (k now : Nat) (w : BitVec 64) : Inst :=
  if k = 0 then { c with created := flag w 0, en := flag w 1, drain := false, frozen := false, oldGen := false, gen := 0,
                         weight := fld w 13 8, pageBase := fld w 21 14, pageCount := fld w 35 15 }
  else if k = 1 then { c with rate := fld w 0 16, burst := fld w 16 16, refill := fld w 32 16, tokens := fld w 16 16 }
  else if k = 2 then { c with newRate := fld w 0 16, newBurst := fld w 16 16, newRefill := fld w 32 16, sharePend := flag w 48 }
  else if k = 3 then { c with nextRefill := tickNear now (fld w 0 31), quota := fld w 31 19 }
  else if k = 4 then { c with cellsPlaced := 0, rateList := [], quotaList := [] }
  else if k = 5 then { c with dormCount := 0, dormFirst := 0 }
  else if k = 6 then { c with rateList := [] }
  else if k = 7 then { c with quotaList := [] }
  else if k = 8 then { c with frozenList := [] }
  else if k = 9 then { c with phase := .thawed, saving := false, restored := false, corrupt := false, hseq := 0,
                              originBlock := 0, originInst := 0 }
  else if k = 10 then { c with huskOut := 0, huskIn := 0 }
  else c

/-- The same for instance `i`; a run that does not fit ends the load with NO_SPACE, as INST_CREATE refuses it (R88, R255). -/
def State.loadInstWord (s : State) (i k : Nat) (w : BitVec 64) : State × Option Nat :=
  let c := (s.ctx i).load k s.tick w
  if k ≠ 0 then (s.putCtx i c, none)
  else if i = 0 then (s.putCtx i { c with created := true, pageBase := 0, pageCount := 16384 }, none)
  else if c.created && !s.runFits i c.pageBase c.pageCount then (s, some 0x18)
  else (s.putCtx i c, none)

/-- One word of a guest table entry at its reset value: VALID with INST and the list, or SRCS with DORM_LEN (R260). -/
def Guest.load (g : Guest) (k : Nat) : Guest :=
  if k = 0 then { g with inst := 0, dorm := [] } else { g with srcs := 0, dorm := [] }

/-- A target context word as loaded, with the clamps of the settings. A far event that is presented stays so when word 7 is loaded
(assumption log 79). -/
def State.loadTargetWord (s : State) (q t k : Nat) (w : BitVec 64) : State :=
  let far := decide (1024 ≤ t)
  let c := s.tgt t
  let put := fun (n : Tgt) (cs : List Clamped) =>
    (((s.putTgt t n).tellAgent t c).pathChange t c).recordClamps q 0x68 cs
  if k = 0 then
    let d := s.depClamp t c.virt (flag w 4) (fld w 5 11) 0 4 5
    put { c with svc := .offline, onlineDefer := false, sweep := false, fcause := 0, wdrBusy := false, depEn := d.1,
                 deputy := d.2.1 } d.2.2
  else if k = 1 then put (c.setPres w 0).1 (c.setPres w 0).2
  else if k = 2 then put { c with blotVa := BitVec.ofNat 50 (fld w 0 50) } []
  else if k = 3 then put { c with pseq := 0, runRpt := 64, runEff := 64, effEid := none, held := false, blot := false,
                                  presLevel := 64 } []
  else if k = 4 ∧ far then
    let f := c.far.setAll w ((c.word t 5)) (c.word t 6) 0
    put { c with far := f.1 } f.2
  else if k = 5 ∧ far then
    let f := c.far.setAll (c.word t 4) w (c.word t 6) 0
    put { c with far := f.1 } f.2
  else if k = 6 ∧ far then put { c with far := { c.far with linkIdle := fld w 0 16 } } []
  else if k = 7 ∧ far then 
    let f := { c.far with tries := 0, atChan := 0, ready := none, wakeCand := false, lastXfer := 0, never := true,
                           retryDue := none, cellWait := none }
    put { c with far := f } []
  else if k = 8 then
    let v := flag w 0 && !far
    let c := { c with virt := v, depEn := c.depEn && !v, resInst := fld w 1 9, switching := none }
    put c (clampIf 0 0 1 (bn (flag w 0)) (bn v))
  else if k = 9 ∧ far then put { c with far := { c.far with inserv := 0 } } []
  else if 10 ≤ k ∧ k < 64 then put { c with queues := [], bits := 0, counts := [] } []
  else if 64 ≤ k ∧ !far then
    let gs := c.guests.map fun g => if g.entry = (k - 64) / 2 then g.load (k % 2) else g
    put { c with guests := gs.filter fun g => g.inst != 0 || g.srcs != 0 } []
  else s

/-- One word of a BULK_LOAD into a region other than the source records, whose words go to the home bank (`State.orderWord`). -/
def State.loadWord (s : State) (q addr : Nat) (w : BitVec 64) : State × Option Nat :=
  match inkAt addr with
  | .record _ _ => (s, none)
  | .trans n => (s.putTrans n (transOf w), none)
  | .page n k => (s.putPage n (if k = 0 then (s.page n).load0 w else (s.page n).load1 w), none)
  | .group g k =>
    let s := s.onGrp g fun c => c.load k w
    (if k = 0 then s.objectReplies (.groupEnable g) (.groupDisable g) 1 g else s, none)
  | .inst i k => s.loadInstWord i k w
  | .target t k => (s.loadTargetWord q t k w, none)
  | _ => (s, none)

/-! ### Firmware patches (R345, R478) -/

/-- The check of a patch image: its header word and its CRC. -/
def patchOk (ws : List (BitVec 64)) : Bool :=
  let n := ws.length
  fld (ws.getD 0 0) 0 16 == 0x4650 && fld (ws.getD (n - 1) 0) 0 32 == crc32c ((ws.take (n - 1)).map (·.toNat))

/-- The patch of a checked image. -/
def patchOf (ws : List (BitVec 64)) (pseq : Nat) : Patch :=
  { image := ws, ver := fld (ws.getD 0 0) 16 16, crc := w32 (crc32c ((ws.take (ws.length - 1)).map (·.toNat))), len := ws.length, pseq := pseq }

/-- The patch copy that PERSIST programs, and its PSEQ (R478). -/
def Rec.patchNext (r : Rec) : Bool × Nat :=
  match r.patchChosen with
  | none => (false, 1)
  | some p => (!r.patchChosenB, wrap 32 (p.pseq + 1))

/-- The programming of the oldest patch that waits for it starts, where none runs (R478). -/
def Rec.nextPatch (r : Rec) (now : Nat) : Rec :=
  match r.patchBusy, r.patchWait with
  | none, p :: ps => { r with patchBusy := some (r.patchNext.1, { p with pseq := r.patchNext.2 }, now), patchWait := ps }
  | _, _ => r

/-- The load of a patch is complete: LENGTH, then the image (R345). -/
def State.patchLoaded (s : State) (owner : Option Nat) (ws : List (BitVec 64)) (persist : Bool) : State :=
  let n := ws.length
  if fld (ws.getD 0 0) 32 32 ≠ n then s.endInward owner 0x11 n
  else if !patchOk ws then s.endInward owner 0x1A 0
  else
    let s := { s with cmd := { s.cmd with patch := some (patchOf ws 0), patchFail := false } }
    let s : State := if persist then
        { s with rcd := ({ s.rcd with patchWait := s.rcd.patchWait ++ [patchOf ws 0] }).nextPatch s.now } else s
    s.endInward owner 0 n

/-! ### A word written to the window (R316, R318, R327, R336, R344) -/

/-- The words still to come in a restore (R317); header word 2 comes whatever LENGTH says, and is where LENGTH is checked (R294). -/
def huskLeft (h : HuskIn) : Nat :=
  let d := huskHead h.words
  let n := h.words.length
  if n < 2 then 0 else if n = 2 then max 1 (d.length - n) else d.length + d.ntgt - n

/-- One word of a restore. -/
def State.cdwHusk (s : State) (h : HuskIn) (w : BitVec 64) : State :=
  let c := s.cmd.cdw
  let a := huskWord s { h with words := h.words ++ [w] } c.q c.owner
  match a.fail with
  | some st => (a.s.closeCdw).revert a.h c.owner st (a.h.words.length - 1)
  | none =>
    let d := huskHead a.h.words
    let n := a.h.words.length
    if 3 ≤ n ∧ n = d.total + d.ntgt then
      let f := huskFinish a.s a.h
      match f.2 with
      | some (st, idx) => (f.1.closeCdw).revert a.h c.owner st idx
      | none => (f.1.huskDone a.h).endInward c.owner 0 0
    else
      let s := a.s.xferOn (.huskIn a.h)
      { s with cmd := { s.cmd with cdw := { s.cmd.cdw with left := huskLeft a.h - c.buf.length } } }

/-- Word `idx` of an inward transfer takes effect; it is the last where no other is to come. -/
def State.cdwTake (s : State) (w : BitVec 64) (idx : Nat) : State :=
  let c := s.cmd.cdw
  let last := c.left == 0 && c.buf.isEmpty
  match c.xfer with
  | some (.map i page next) =>
    if !zeroFrom w 19 then s.endInward c.owner 0x12 idx
    else
      let s := s.putTrans next (transOf w)
      if last then
        let s := s.putPage page { s.page page with valid := true }
        s.endInward c.owner 0 (idx + 1)
      else s.xferOn (.map i page (next + 1))
  | some (.load addr) =>
    let r := s.loadWord c.q addr w
    match r.2 with
    | some st => s.endInward c.owner st idx
    | none => if last then r.1.endInward c.owner 0 (idx + 1) else r.1.xferOn (.load (addr + 8))
  | some (.patch ws p) =>
    if last then s.patchLoaded c.owner (ws ++ [w]) p else s.xferOn (.patch (ws ++ [w]) p)
  | some (.huskIn h) => s.cdwHusk h w
  | _ => s

/-- A word of entry `n` of a region other than the source records is an order at bank `n` modulo 64 (R122); it names no source. -/
def entryBank (n : Nat) : Nat := poolBase + n % 64

/-- The source whose home bank takes the next word of the transfer, or the bank alone (R105, R295, R344). -/
def Xfer.source : Xfer → BitVec 64 → Option Nat
  | .load addr, _ =>
    match inkAt addr with
    | .trans n | .page n _ | .group n _ | .inst n _ | .target n _ => some (entryBank n)
    | _ => none
  | .huskIn h, w =>
    let ws := h.words ++ [w]
    let d := huskHead ws
    let n := h.words.length
    if 3 ≤ n ∧ d.srcAt ≤ n ∧ n < d.trailerAt ∧ (n - d.srcAt) % d.wide + 1 = d.wide then
      some (h.placeEid (huskSrc d.version (ws.getD (n + 1 - d.wide) 0) w).eid)
    else none
  | _, _ => none

/-- The source, the number and the address of the record word that a load stores next. -/
def Xfer.recordWord : Xfer → Option (Nat × Nat × Nat)
  | .load addr =>
    match inkAt addr with
    | .record e k => some (e, k, addr)
    | _ => none
  | _ => none

/-- The record word at the front of the buffer goes to its home bank, where it may wait (R105, R344). -/
def State.sendWord (s : State) (e k addr : Nat) (w : BitVec 64) (ws : List (BitVec 64)) : State :=
  let c := s.cmd.cdw
  ({ s with cmd := { s.cmd with cdw := { c with buf := ws, atBank := true, xfer := some (.load (addr + 8)) } } }).sendOrder e
    (.word (c.owner.getD 0) c.q k w)

/-- The words that stand in the window's buffer take effect in their order, at most `fuel` of them. One whose bank cannot take its
order waits, and the others behind it: the stale discard goes ahead of the order (R105, R274, R318). -/
def State.drainCdw (s : State) : Nat → State
  | 0 => s
  | fuel + 1 =>
    let c := s.cmd.cdw
    if c.atBank then s
    else match c.failed with
    | some st => s.endInward c.owner st (c.pos - c.buf.length - 1)
    | none =>
      match c.buf, c.xfer with
      | [], some (.load _) => if c.left = 0 then s.endInward c.owner 0 c.pos else s
      | w :: ws, some x =>
        let take := fun (s : State) =>
          (({ s with cmd := { s.cmd with cdw := { s.cmd.cdw with buf := ws } } }).cdwTake w (c.pos - c.buf.length)).drainCdw fuel
        match x.recordWord with
        | some (e, k, addr) => (s.sendWord e k addr w ws).drainCdw fuel
        | none =>
          match x.source w with
          | none => take s
          | some e =>
            let s := if s.isStale e then s.atBank e id else s
            if s.bankFull e || s.withdrawing e then s else take s
      | _, _ => s

/-- The words of the buffer take effect as far as their banks let them. -/
def State.settleCdw (s : State) : State := s.drainCdw (s.cmd.cdw.buf.length + 1)

/-- One word of an inward transfer. -/
def State.cdwIn (s : State) (w : BitVec 64) : State :=
  let c := s.cmd.cdw.advance s.tick
  ({ s with cmd := { s.cmd with cdw := { c with buf := c.buf ++ [w] } } }).settleCdw

/-! ### A word read from the window (R286, R316, R318, R343) -/

/-- The next word of a save; an entry takes effect at its last word (R286). -/
def State.huskNext (s : State) (h : HuskOut) : State × BitVec 64 × HuskOut :=
  let feed := fun (h : HuskOut) (w : BitVec 64) => { h with crc := w32 (crcWord h.crc.toNat w.toNat) }
  let tally := fun (h : HuskOut) (code : Nat) =>
    { h with carried := h.carried + code % 2, active := h.active + code / 2 }
  match h.pre, h.half, h.srcs with
  | w :: ws, _, _ => (s, w, feed { h with pre := ws } w)
  | [], some (e, w0), _ =>
    let code := fld w0 20 2
    let w := (s.source e).huskWord1
    let s := if h.move then s.moveOut e code else s
    (s, w, feed (tally { h with half := none } code) w)
  | [], none, e :: es =>
    if h.version = 2 then
      let w := (s.source e).huskWord0 e
      (s, w, feed { h with srcs := es, half := some (e, w) } w)
    else
      let w := (s.source e).huskV1 e
      let code := (s.source e).st.code % 2
      let s := if h.move then s.moveOut e code else s
      (s, w, feed (tally { h with srcs := es } code) w)
  | [], none, [] =>
    if h.tail = 0 then
      let w := w64 (pack [(0, h.carried), (32, h.active)])
      (s, w, feed { h with tail := 1 } w)
    else (s, w64 (h.crc.toNat ^^^ 0xFFFFFFFF), { h with tail := 2 })

/-- The source whose home bank gives the next word of an outward transfer, and whether a withdrawal holds it up (R105). -/
def State.cdwFrom (s : State) : Option (Nat × Bool) :=
  match s.cmd.cdw.xfer with
  | some (.bulk addr) =>
    match inkAt addr with
    | .record e _ => some (e, false)
    | .cell e => if e < poolBase then some (e, false) else none
    | _ => none
  | some (.huskOut h) =>
    match h.pre, h.half, h.srcs with
    | [], some (e, _), _ => some (e, h.move)
    | [], none, e :: _ => some (e, h.move)
    | _, _, _ => none
  | _ => none

/-- The next word is ready (R318): its bank takes orders. -/
def State.cdwReady (s : State) : Bool :=
  match s.cdwFrom with
  | none => true
  | some (e, moves) => !s.bankFull e && !(moves && s.withdrawing e)

/-- One word of an outward transfer; the window closes at the last. -/
def State.cdwOut (s : State) : State × BitVec 64 :=
  let s : State := { s with cmd := { s.cmd with cdw := s.cmd.cdw.advance s.tick } }
  let c := s.cmd.cdw
  let last := c.left == 0
  match c.xfer with
  | some (.words ws) => (if last then s.closeCdw else s.xferOn (.words (ws.drop 1)), ws.headD 0)
  | some (.bulk addr) =>
    let v := s.inkWord (inkAt addr)
    let w := v.getD ((inkAt addr).free (Config.freeWord s.free))
    let s := if v.isSome then s else { s with free := s.free + 1 }
    (if last then s.closeCdw else s.xferOn (.bulk (addr + 8)), w)
  | some (.huskOut h) =>
    let a := s.huskNext h
    (if last then a.1.closeCdw.onCtx h.inst fun i => { i with saving := false } else a.1.xferOn (.huskOut a.2.2), a.2.1)
  | _ => (s, 0)

end Sys2Proof.Machine
end

