-- ==== Sys2Proof/Machine/Queues.lean ====
section
/-! DEFINITION. The command queues (R302 to R315, R320, R345): the catalog, the checks common to every command, the
taking of packets, replies, and what the release of D3 does. -/
namespace Sys2Proof.Machine

/-! ### Catalog (R320) -/

/-- A row of the catalog: manager-only, LENGTH allowed, marked S, defined flags, permitted in REBUILD and in
FAILSAFE (R27). -/
structure CatRow where
  opcode : Nat
  manager : Bool
  lenLo : Nat
  lenHi : Nat
  even : Bool := false
  sealed_ : Bool := false
  flags : Nat := 0
  rebuild : Bool := false
  failsafe : Bool := false
  deriving DecidableEq, Repr

def catalog : List CatRow :=
  [ { opcode := 0x01, manager := false, lenLo := 0, lenHi := 255, flags := 0x1, rebuild := true, failsafe := true },
    { opcode := 0x02, manager := false, lenLo := 0, lenHi := 0, rebuild := true, failsafe := true },
    { opcode := 0x10, manager := false, lenLo := 2, lenHi := 2, flags := 0x1F },
    { opcode := 0x11, manager := false, lenLo := 1, lenHi := 1 },
    { opcode := 0x12, manager := false, lenLo := 1, lenHi := 16 },
    { opcode := 0x13, manager := false, lenLo := 1, lenHi := 16 },
    { opcode := 0x14, manager := false, lenLo := 1, lenHi := 1 },
    { opcode := 0x18, manager := true, lenLo := 3, lenHi := 3, flags := 0x1 },
    { opcode := 0x19, manager := true, lenLo := 1, lenHi := 1, flags := 0x1 },
    { opcode := 0x20, manager := false, lenLo := 2, lenHi := 2, flags := 0xF },
    { opcode := 0x21, manager := false, lenLo := 1, lenHi := 1, flags := 0x1 },
    { opcode := 0x28, manager := true, lenLo := 7, lenHi := 7, sealed_ := true, flags := 0x1F },
    { opcode := 0x29, manager := true, lenLo := 1, lenHi := 1 },
    { opcode := 0x30, manager := true, lenLo := 3, lenHi := 3 },
    { opcode := 0x31, manager := true, lenLo := 2, lenHi := 2, flags := 0x1F },
    { opcode := 0x32, manager := true, lenLo := 0, lenHi := 0 },
    { opcode := 0x33, manager := true, lenLo := 0, lenHi := 0 },
    { opcode := 0x38, manager := true, lenLo := 0, lenHi := 0 },
    { opcode := 0x39, manager := true, lenLo := 1, lenHi := 1, flags := 0x3 },
    { opcode := 0x3A, manager := true, lenLo := 4, lenHi := 4 },
    { opcode := 0x3B, manager := true, lenLo := 0, lenHi := 0, flags := 0x1 },
    { opcode := 0x40, manager := true, lenLo := 2, lenHi := 254, even := true },
    { opcode := 0x48, manager := true, lenLo := 0, lenHi := 0 },
    { opcode := 0x49, manager := true, lenLo := 0, lenHi := 0 },
    { opcode := 0x50, manager := true, lenLo := 1, lenHi := 1, flags := 0x1 },
    { opcode := 0x58, manager := true, lenLo := 0, lenHi := 0, flags := 0x1, failsafe := true },
    { opcode := 0x59, manager := true, lenLo := 1, lenHi := 1, failsafe := true },
    { opcode := 0x5A, manager := true, lenLo := 0, lenHi := 0, failsafe := true },
    { opcode := 0x60, manager := true, lenLo := 1, lenHi := 1 },
    { opcode := 0x68, manager := true, lenLo := 2, lenHi := 2, sealed_ := true, flags := 0x1 },
    { opcode := 0x69, manager := true, lenLo := 2, lenHi := 2 },
    { opcode := 0x70, manager := true, lenLo := 1, lenHi := 1, sealed_ := true } ]

/-- The catalog row of an opcode. -/
def catRow (op : Nat) : Option CatRow := catalog.find? (·.opcode == op)

/-! ### Status codes (R312) -/

def stOk : Nat := 0x00
def stClamped : Nat := 0x01
def stDeferred : Nat := 0x02
def stBadOpcode : Nat := 0x10
def stBadLength : Nat := 0x11
def stBadParam : Nat := 0x12
def stNotOwner : Nat := 0x13
def stBusy : Nat := 0x14
def stSealed : Nat := 0x15
def stDenied : Nat := 0x16
def stNoSpace : Nat := 0x18
def stTimeout : Nat := 0x19
def stIntegrity : Nat := 0x1A
def stInternal : Nat := 0x1F

/-! ### Engine pairs (R302, R315, R451) -/

/-- The command engine pair on which queue `q` runs; none when every pair is disabled. -/
def State.pairOf (s : State) (q : Nat) : Option Nat :=
  ([0, 1, 2, 3].map fun k => (q + k) % 4).find? fun p => !s.cmd.pairsDisabled.contains p

/-- The pair of queue `q` executes commands now: D3 released, firmware ready, no restart under way. -/
def State.pairReady (s : State) (q : Nat) : Bool :=
  !s.isHeld 3 && s.cmd.fwReady &&
  (match s.pairOf q with
   | none => true
   | some p => !s.cmd.pairsRestarting.any (·.1 == p))

/-- The command of queue `q` has been applied, and its reply is withheld (R363, R396). -/
def State.withheld (s : State) (q : Nat) : Bool :=
  s.cmd.gates.any (·.1 == q) || (match s.cmd.commitReply with | none => false | some c => c.1 == q)

/-! ### Taking packets (R302, R308, R309) -/

/-- All parameter words have arrived. -/
def Packet.complete (p : Packet) : Bool := decide (hdrLen p.hdr ≤ p.words.length)

/-- The first reply of the packet that queue `q` runs; the queue is free again. -/
def State.firstReply (s : State) (q status : Nat) (result : List (BitVec 64)) : State :=
  match (s.queue q).cur with
  | none => s
  | some p =>
    (s.onQueue q fun c => { c with cur := none }).reply q
      { tag := hdrTag p.hdr, status := status, opcode := hdrOpcode p.hdr, second := false, result := result }

/-- One step of the queue: a body word, or the next header while the reply FIFO has room; a complete packet of an
unknown opcode is answered (R310 step 1), with INTERNAL where every pair is disabled (R451). -/
def State.pumpOne (s : State) (q : Nat) : State :=
  let c := s.queue q
  match c.cur with
  | some p =>
    if p.complete then
      if (catRow (hdrOpcode p.hdr)).isNone && s.pairReady q then
        s.firstReply q (if (s.pairOf q).isNone then stInternal else stBadOpcode) []
      else s
    else
      match c.fifo with
      | [] => s
      | w :: ws => s.onQueue q fun c => { c with fifo := ws, cur := some { p with words := p.words ++ [w] } }
  | none =>
    match c.fifo with
    | [] => s
    | w :: ws =>
      if s.pairReady q && !s.quiescing 3 && c.late.isEmpty && decide (c.rpl.length < 512) then
        let s := s.onQueue q fun c => { c with fifo := ws, cur := some { hdr := w } }
        if s.cmd.cdw.owned && s.cmd.cdw.q == q then s.cutCdw else s
      else s

/-- The queue takes what it can: at most a packet of 256 words beyond the words that stand in the FIFO. -/
def State.pumpN (s : State) (q : Nat) : Nat → State
  | 0 => s
  | n + 1 => (s.pumpOne q).pumpN q n

/-- The queue takes words until it stops at a command, at an empty FIFO or at a full reply FIFO. -/
def State.pump (s : State) (q : Nat) : State := s.pumpN q (2 * (s.queue q).fifo.length + 2)

/-- Every queue. -/
def State.pumpAll (s : State) : State := forEach (List.range 8) (fun q s => s.pump q) s

/-- Replies that wait for room enter the reply FIFO in their order (R308). -/
def State.flushLate (s : State) (q : Nat) : Nat → State
  | 0 => s
  | n + 1 =>
    let c := s.queue q
    match c.late with
    | [] => s
    | r :: rs =>
      if c.room r then
        ((s.onQueue q fun c => ({ c with late := rs }).give r).raiseHouse q).flushLate q n
      else s

/-! ### Running a command (R310) -/

/-- A guest queue. -/
def CmdQueue.guest (c : CmdQueue) : Bool := c.bindInst != 0

/-- The status of checks 2 to 7 of R310; none when they all pass. -/
def State.headCheck (s : State) (q : Nat) (p : Packet) (r : CatRow) : Option Nat :=
  let h := p.hdr
  let c := s.queue q
  let n := hdrLen h
  if fld h 48 16 ≠ 0 ∨ fld h 39 9 &&& (511 - r.flags) ≠ 0 then some stBadParam
  else if hdrBlock h ≠ s.strap.blockNum then some stDenied
  else if n < r.lenLo ∨ r.lenHi < n ∨ (r.even ∧ n % 2 = 1) then some stBadLength
  else if c.guest && (r.manager || hdrInst h != c.bindInst) then some stNotOwner
  else if s.mode.mode = .rebuild ∧ !r.rebuild then some stBusy
  else if s.mode.mode = .failsafe ∧ !r.failsafe then some stDenied
  else if r.sealed_ && s.cfg.sealed_ then some stSealed
  else none

/-- The complete packet of queue `q`, when its opcode is `op` and the queue runs commands: it has no orders at home banks yet. -/
def State.current (s : State) (q op : Nat) : Option Packet :=
  match (s.queue q).cur with
  | none => none
  | some p =>
    if p.complete && hdrOpcode p.hdr == op && s.pairReady q && !s.withheld q && (s.part q).isNone then some p else none

/-- A command in progress ends with a status; what it has ordered and no bank has applied is taken back. -/
def State.cutReply (s : State) (q status : Nat) : State := (s.dropPart q).firstReply q status []

/-- The row of a command: the queue takes what it can; the complete packet, if it carries this opcode, is checked and run, and
the queue goes on. A disabled fourth pair answers INTERNAL (R451). -/
def State.runCmd (s : State) (q op : Nat) (body : State → Packet → State) : State :=
  let s := s.pump q
  match s.current q op, catRow op with
  | some p, some r =>
    if (s.pairOf q).isNone then (s.firstReply q stInternal []).pump q
    else
      match s.headCheck q p r with
      | some st => (s.firstReply q st []).pump q
      | none => (body s p).pump q
  | _, _ => s

/-- OK, or OK_CLAMPED where a field was clamped (R310). -/
def okOr (cs : List Clamped) : Nat := if cs.isEmpty then stOk else stClamped

/-- A single reply after a command was applied, with its clamps recorded. -/
def State.done (s : State) (q : Nat) (p : Packet) (cs : List Clamped) (result : List (BitVec 64)) : State :=
  (s.recordClamps q (hdrOpcode p.hdr) cs).firstReply q (okOr cs) result

/-- The command defers: DEFERRED at once, its work joins the list (R313). -/
def State.deferCmd (s : State) (q : Nat) (p : Packet) (cs : List Clamped) (w : Work) (result : List (BitVec 64)) : State :=
  let s := s.recordClamps q (hdrOpcode p.hdr) cs
  (s.defer q (hdrTag p.hdr) (hdrOpcode p.hdr) (!cs.isEmpty) w).firstReply q stDeferred result

/-- Step 8 of R310: a command that would defer while 16 are deferred. -/
def State.deferFull (s : State) (q : Nat) : Bool := decide (16 ≤ s.deferCount q)

/-- A COMMIT whose LATCH_PEND was cleared by an UNSEAL or an entry to START is answered BUSY (R363). -/
def State.settleCommit (s : State) : State :=
  match s.cmd.commitReply with
  | none => s
  | some (q, _, _) =>
    if s.cfg.latchPend then s
    else ({ s with cmd := { s.cmd with commitReply := none } }).firstReply q stBusy []

/-! ### D3 (R342, R345, R415, R417, R440, R451) -/

/-- The command of queue `q` keeps its reply over a hold of D3: a COMMIT that was applied, and over a warm reset also a GATE_RULES
that was applied (R342, R363, R415). -/
def State.keepsReply (s : State) (q : Nat) (warm : Bool) : Bool :=
  (match s.cmd.commitReply with
   | none => false
   | some c => c.1 == q) || (warm && s.cmd.gates.any (·.1 == q))

/-- A hold of D3: transfers end short (R319), the firmware stops, and commands without a first reply are noted for a
BUSY reply after the release (R342, R415). -/
def State.holdD3 (s : State) (warm : Bool) : State :=
  let s := s.stopCdw
  let s := forEach (List.range 8) (fun q s =>
    match (s.queue q).cur with
    | none => s
    | some p =>
      if p.complete && !s.keepsReply q warm then
        let s := (s.dropPart q).onQueue q fun c => { c with cur := none }
        let s := { s with cmd := { s.cmd with gates := s.cmd.gates.filter (·.1 != q) } }
        { s with cmd := { s.cmd with cutReplies := s.cmd.cutReplies ++
            [(q, { tag := hdrTag p.hdr, status := stBusy, opcode := hdrOpcode p.hdr, second := false, result := [] })] } }
      else s) s
  { s with cmd := { s.cmd with fwReady := false, pairsRestarting := [] } }

/-- The firmware patch after a cold reset or a park (R345). -/
def State.loadPatch (s : State) : State :=
  if s.strap.boot = 1 then
    { s with cmd := { s.cmd with patch := s.rcd.patchChosen, patchFail := s.rcd.patchChosen.isNone } }
  else { s with cmd := { s.cmd with patch := none, patchFail := false } }

/-- The word of the command holder enters its queue (R52). -/
def State.holderIn (s : State) : State :=
  match s.bus.parkWord with
  | none => s
  | some (q, w) =>
    { (s.onQueue q fun c => { c with fifo := c.fifo ++ [w] }) with bus := { s.bus with parkWord := none } }

/-- GATE_RULES replies go out in the order of their epochs, once every access of an earlier epoch has drained (R396). -/
def State.gateReplies (s : State) : State :=
  if s.isHeld 3 then s
  else forEach s.cmd.gates (fun g s =>
    let (q, tag, epoch, clamped) := g
    if s.undrained.any (fun x => decide (x < epoch)) then s
    else
      let s := { s with cmd := { s.cmd with gates := s.cmd.gates.filter (· != g) } }
      let s := s.onQueue q fun c => { c with cur := none }
      s.reply q { tag := tag, status := clamped, opcode := 0x40, second := false, result := [w64 (epoch % 2 ^ 32)] }) s

/-- The release of D3. `warm` tells a warm reset from a reset of the domain, `fresh` a loss of the command engines. -/
def State.releaseD3 (s : State) (warm fresh : Bool) : State :=
  let s := if fresh then s.loadPatch else s
  let s : State := if warm then { s with cmd := { s.cmd with pairsDisabled := [], restarts := 0, lastRestart := [] } } else s
  let s := forEach s.cmd.cutReplies (fun c s => s.reply c.1 c.2) s
  let s := { s with cmd := { s.cmd with cutReplies := [] }, cfg := { s.cfg with walked := false } }
  s.restartWalk.holderIn.gateReplies

end Sys2Proof.Machine
end

