-- ==== Sys2Proof/Machine/Access.lean ====
section
/-! DEFINITION. Access checking (R380 to R397) and the register port (R48 to R52, R347 to R354): decoding of an address,
the verdict of the checker, violations, notices and responses. -/
namespace Sys2Proof.Machine

/-! ### Decoding (R347, R348, R353, R382) -/

/-- A decoded register address: masked-write alias, register, slot of its page. -/
structure Decoded where
  masked : Bool
  reg : RegAt
  slot : Option Nat
  deriving DecidableEq, Repr

/-- Addresses below 0x080_0000 (R347). -/
def decodeLow (a : Nat) : RegAt × Option Nat :=
  if a < 0x10000 then (.global (a / 0x1000 % 8) (a % 0x200 / 4 * 4), some (a / 0x1000 % 8))
  else if 0x20000 ≤ a ∧ a < 0x22000 then (.lineCfg ((a - 0x20000) / 4), some (8 + (a - 0x20000) / 0x1000))
  else if 0x22000 ≤ a ∧ a < 0x24000 then (.lineStat ((a - 0x22000) / 4), some (10 + (a - 0x22000) / 0x1000))
  else if 0x100000 ≤ a ∧ a < 0x700000 then
    let t := (a - 0x100000) / 0x1000
    let o := a % 0x1000 / 4 * 4
    (if o < 0x400 then .target t o else .hole, some (0x800 + t))
  else (.hole, none)

/-- A byte address of the 64 MiB aperture. -/
def decodeAddr (a : Nat) : Decoded :=
  if a < 0x800000 then { masked := false, reg := (decodeLow a).1, slot := (decodeLow a).2 }
  else if a < 0x1000000 then
    { masked := true, reg := (decodeLow (a - 0x800000)).1, slot := (decodeLow (a - 0x800000)).2 }
  else if a < 0x3000000 then
    let i := (a - 0x1000000) / 0x10000
    let o := a % 0x10000 / 4 * 4
    if o < 0x100 then { masked := false, reg := .inst i o, slot := some (0xE00 + i) }
    else if 0x8000 ≤ o ∧ o < 0x8100 then { masked := true, reg := .inst i (o - 0x8000), slot := some (0xE00 + i) }
    else { masked := false, reg := .hole, slot := some (0xE00 + i) }
  else { masked := false, reg := .hole, slot := none }

/-- The canonical address of a register (R348). -/
def RegAt.canonical : RegAt → Nat
  | .global p o => p * 0x1000 + o
  | .lineCfg k => 0x20000 + 4 * k
  | .lineStat k => 0x22000 + 4 * k
  | .target t o => 0x100000 + 0x1000 * t + o
  | .inst i o => 0x1000000 + 0x10000 * i + o
  | .hole => 0

/-- The register 4 bytes above, which the second half of an 8-byte access reaches. -/
def RegAt.upper : RegAt → RegAt
  | .global p o => .global p (o + 4)
  | .lineCfg k => .lineCfg (k + 1)
  | .lineStat k => .lineStat (k + 1)
  | .target t o => .target t (o + 4)
  | .inst i o => .inst i (o + 4)
  | .hole => .hole

/-- The byte address of a request. -/
def reqAddr (b : BusReq) : Nat := b.addr.toNat * 4

/-- Queue of a CMD_FIFO register (R304). -/
def RegAt.cmdFifo : RegAt → Option Nat
  | .global 1 o => if o < 0x80 ∧ o % 0x10 = 0 then some (o / 0x10) else none
  | _ => none

/-- Queue of an RPL_FIFO register. -/
def RegAt.rplFifo : RegAt → Option Nat
  | .global 1 o => if o < 0x80 ∧ o % 0x10 = 8 then some (o / 0x10) else none
  | _ => none

/-- The halves of a queue FIFO or of CDW: every register that takes only 8-byte accesses (R304). -/
def RegAt.wideOnly : RegAt → Bool
  | .global 1 o => decide (o < 0x80) || o == 0xC0 || o == 0xC4
  | _ => false

/-- CDW (R316). -/
def RegAt.isCdw : RegAt → Bool
  | .global 1 o => o == 0xC0
  | _ => false

/-- The registers without a masked write (R354). -/
def RegAt.noMask : RegAt → Bool
  | .global 1 o => decide (o < 0x80) || o == 0xC0 || o == 0xC4
  | .target _ o => o == 0 || o == 4
  | .inst _ o => o == 0x40
  | _ => false

/-- A hot register (R350). -/
def hotReg (masked : Bool) : RegAt → Bool
  | .target _ o => if masked then o == 8 || o == 0xC else decide (o < 0x10)
  | .inst _ o => !masked && o == 0x40
  | _ => false

/-! ### Matching and evaluation (R386 to R388) -/

/-- The verdict of the checker: admitted, kind of a refusal, deciding rule and region (R390, R400). -/
structure Verdict where
  ok : Bool
  kind : Nat := 0
  rule : Nat := 0
  region : Nat := 0
  deriving DecidableEq, Repr

/-- A region matches an access (R385, R386). -/
def regionMatches (w : BitVec 64) (master : Nat) (priv space : Bool) (addr : Nat) : Bool :=
  let size := 2 ^ fld w 42 6
  let base := fld w 12 30 * 4096
  flag w 52 && flag w 48 == space && ((master / 2 ^ 16 % 64 ^^^ fld w 0 6) &&& fld w 6 6 == 0) && (priv || !flag w 51)
    && decide (base ≤ addr) && decide (addr < base + size)

/-- A slot matches an access (R384, R386). -/
def slotMatches (w : BitVec 64) (master : Nat) (priv : Bool) : Bool :=
  flag w 47 && ((master ^^^ fld w 0 22) &&& fld w 22 22 == 0) && (priv || !flag w 46)

/-- The judgement of one access. `mapped` is the part of R388's default map that admits writes. -/
def State.judge (s : State) (master : Nat) (priv space write : Bool) (addr : Nat) (slot : Option Nat) (mapped : Bool) :
    Verdict :=
  if space && slot.isNone then { ok := false, kind := 9 }
  else
    match (List.range 16).find? (fun r => regionMatches (s.region r) master priv space addr) with
    | some r =>
      let w := s.region r
      let ok := if write then flag w 50 else flag w 49
      { ok := ok, kind := if ok then 0 else if write then 3 else 2, rule := 1, region := r }
    | none =>
      let hit := match slot with
        | none => false
        | some n => slotMatches (s.slot n) master priv
      if hit then
        let w := s.slot (slot.getD 0)
        let ok := if write then flag w 45 else flag w 44
        { ok := ok, kind := if ok then 0 else if write then 3 else 2, rule := 2 }
      else if priv then
        let ok := !space && (!write || mapped)
        { ok := ok, kind := if ok then 0 else 6, rule := 3 }
      else { ok := false, kind := 5 }

/-- The fault of an access that no entry matches (R388). -/
def State.accessFault (s : State) (master : Nat) (slot : Option Nat) (kind : Nat) : State :=
  if kind = 5 then s.report 0x11 0 (pack [(0, slot.getD 0x7FFF), (15, master / 2 ^ 16 % 64), (21, kind)]) else s

/-- Pages to which the default map admits writes (R388). -/
def defaultWritable : RegAt → Bool
  | .global p _ => p == 0 || p == 1 || p == 3
  | _ => false

/-! ### Violations and responses (R49, R391, R392) -/

/-- The access is answered with a response; a posted write has none. -/
def State.respond (s : State) (b : BusReq) (hot : Bool) (status : Nat) (data : BitVec 64) : State :=
  let r : Resp := { tag := b.tag.toNat, data := data, status := status }
  { s with bus := { s.bus with hot := if hot && !b.posted then some r else none,
                               split := if !hot && !b.posted then some r else none } }

/-- The precise record of a refused non-posted access (R392). -/
def State.violation (s : State) (b : BusReq) (write hot : Bool) (v : Verdict) (slot : Option Nat) : State :=
  let a := s.acc
  let a := { a with violSeq := seqUp a.violSeq, violCount := wrap 32 (a.violCount + 1) }
  let a := if a.violValid then { a with violMore := sat 255 (a.violMore + 1) }
    else { a with violAddr := reqAddr b, violKind := v.kind, violWrite := write, violHot := hot, violSize8 := b.size8,
                  violValid := true, violMaster := b.master.toNat, violPriv := b.priv, violTag := b.tag.toNat,
                  violMatch := v.rule, violRegion := v.region, violSlot := slot.getD 0x7FFF }
  ({ s with acc := a }).raiseHouse 13

/-- A refused access: ERROR with 0 data and a precise record, or a drop with a notice (R391). -/
def State.refuseAccess (s : State) (b : BusReq) (write hot : Bool) (v : Verdict) (slot : Option Nat) : State :=
  let s := if b.posted then s.notice b.master.toNat b.priv false 0 v.kind (slot.getD 0x7FFF) 0 0
    else s.violation b write hot v slot
  (s.accessFault b.master.toNat slot v.kind).respond b hot 1 0

/-- A drop under R51, R304 or R354: the kind of the notice reads 0, because the checker did not refuse. The record names the rule that
decided the access, where it was judged (R400). -/
def State.refuseShape (s : State) (b : BusReq) (write hot : Bool) (v : Verdict) (slot : Option Nat) : State :=
  let s := if b.posted then s.notice b.master.toNat b.priv false 0 0 (slot.getD 0x7FFF) 0 0
    else s.violation b write hot { v with ok := false, kind := 1 } slot
  s.respond b hot 1 0

/-! ### Queue bindings (R303, R316) -/

/-- A master passes the binding of a queue. -/
def CmdQueue.admits (c : CmdQueue) (master : Nat) : Bool :=
  c.bindValid && ((master ^^^ c.bindMaster) &&& c.bindMask == 0)

/-- Checks 1 and 2 of R389 for a register. -/
def State.bindingKind (s : State) (b : BusReq) (write : Bool) (r : RegAt) : Nat :=
  let m := b.master.toNat
  let fifo := match r.cmdFifo with
    | some q => some q
    | none => r.rplFifo
  match r, fifo with
  | .target _ o, _ => if write && o == 0xC && !b.priv then 4 else 0
  | _, some q =>
    if q = 0 ∧ !b.priv then 4 else if !(s.queue q).admits m then 7 else 0
  | r, none => if r.isCdw && s.cmd.cdw.owned && !(s.queue s.cmd.cdw.q).admits m then 7 else 0

/-! ### The port (R34, R49, R50, R52, R433) -/

/-- The bit of PWR_WAKE_STAT of a wake source (R446). -/
def wakeBit : WakeSrc → Option Nat
  | .latch => some 0 | .wakeLine => some 1 | .message => some 2 | .alarm => some 3
  | .command => some 4 | .register => some 5 | .nib => some 6 | .engineWork => none

/-- Wake sources of each rung (R433). -/
def wakesFrom (rung : Nat) (k : WakeSrc) : Bool :=
  match k with
  | .latch | .wakeLine | .command => true
  | .message | .alarm => decide (rung ≤ 4)
  | .register | .nib => rung == 2 || rung == 3
  | .engineWork => rung == 1

/-- A wake or an excursion is recorded (R446). -/
def Pwr.noteWake (p : Pwr) (k : WakeSrc) : Pwr :=
  { p with wakeSeq := seqUp p.wakeSeq, wakeCount := sat 255 (p.wakeCount + 1),
           wakeBits := match wakeBit k with
             | none => p.wakeBits
             | some b => p.wakeBits ||| 2 ^ b }

/-- The refills that fell due (R434). -/
def State.refillAll (s : State) : State := forEach (s.insts.map (·.1)) (fun i s => s.dueRefills i s.tick) s

/-- A wake source ends a stay in rungs 1 to 3: an excursion begins (R431, R433, R434). -/
def State.wakeRung (s : State) (k : WakeSrc) : State :=
  if 1 ≤ s.pwr.rung ∧ s.pwr.rung ≤ 3 ∧ wakesFrom s.pwr.rung k then
    let s := s.standIn 0
    ({ s with pwr := { s.pwr.noteWake k with excursion := true } }).refillAll
  else s

/-- The wake sources of the parked rung that an entry leads to (R433). -/
def wakesEntry (p : Pwr) (k : WakeSrc) : Bool := wakesFrom p.parkRung k

/-- The first wake source in PARK (R440): the core supply is asked for, and the ductus waits at D1 for the power-up
check. After rung 5 the timebase source has to qualify again (R438). -/
def State.parkWake (s : State) (k : WakeSrc) : State :=
  if s.mode.mode == .park && wakesFrom s.pwr.rung k then
    let s := { s with
      pwr := { s.pwr.noteWake k with coreEn := true }
      rst := { s.rst with running := true, next := 1, fromPark := true, needInit := true, needCheck := true,
                          checking := s.pwr.pokCore, lastRelease := s.instant }
      tb := { s.tb with lostAt := s.now } }
    s.enterMode .wake
  else s

/-- A wake source (R433): it acts in rungs 1 to 3 and in PARK; the first that comes during a park entry is kept for its end
(R435); otherwise it does nothing. -/
def State.wake (s : State) (k : WakeSrc) : State :=
  if s.mode.mode == .park then s.parkWake k
  else if s.pwr.parking then
    { s with pwr := { s.pwr with
        wakeDue := if s.pwr.wakeDue.isNone && wakesEntry s.pwr k then some k else s.pwr.wakeDue } }
  else s.wakeRung k

/-- A request while D3 is held: NOT_READY on the hot response, posted writes dropped; in PARK the first CMD_FIFO
write enters the holder (R52). -/
def State.heldPort (s : State) (b : BusReq) (write : Bool) : State :=
  let d := decodeAddr (reqAddr b)
  let inPark := s.mode.mode == .park
  match (if write && b.size8 && !d.masked then d.reg.cmdFifo else none) with
  | some q =>
    if inPark && s.bus.parkWord.isNone then
      (({ s with bus := { s.bus with parkWord := some (q, b.data) } }).respond b true 0 0).wake .command
    else
      let s : State := if inPark && b.posted then { s with pwr := { s.pwr with parkDrop := wrap 32 (s.pwr.parkDrop + 1) } } else s
      s.respond b true 2 0
  | none =>
    let s : State := if inPark && b.posted then { s with pwr := { s.pwr with parkDrop := wrap 32 (s.pwr.parkDrop + 1) } } else s
    s.respond b true 2 0

/-- A request that reuses an outstanding tag: ERROR and a bus-protocol fault; the access is not made (R50). -/
def State.tagReused (s : State) (b : BusReq) : State :=
  let s := { s with bus := { s.bus with hot := none,
                                        split := some { tag := b.tag.toNat, data := 0, status := 1 } } }
  s.report 0x12 0 (pack [(0, b.tag.toNat), (8, b.master.toNat)])

/-- The shape rules of R51, R304 and R354 that an access breaks. -/
def badShape (b : BusReq) (write : Bool) (d : Decoded) : Bool :=
  (b.size8 && b.addr.toNat % 2 == 1 && !(write && d.masked)) || (write && d.masked && (d.reg.noMask || !b.size8))

/-- A 4-byte access to a queue FIFO or to CDW (R304): ERROR with a violation, or a drop that sets PROTO. -/
def State.narrow (s : State) (b : BusReq) (write : Bool) (d : Decoded) (v : Verdict) : State :=
  if b.posted then
    let q := if d.reg.isCdw || d.reg == .global 1 0xC4 then s.cmd.cdw.q else
      match d.reg with
      | .global _ o => o / 0x10
      | _ => 0
    (s.onQueue q fun c => { c with proto := true, seq := seqUp c.seq }).respond b false 1 0
  else s.refuseShape b write false v d.slot

/-- K_MB_ACCEPT is high: fewer than 64 non-posted cold requests are outstanding and the hot write queue has room for `n` more
entries (R50, R352). -/
def State.accepts (s : State) (n : Nat) : Bool :=
  decide (s.bus.outstanding.length < 64) && decide (s.bus.hotq.length < 32) && decide (s.bus.hotq.length + n ≤ 32)

/-- Entries that an access can put into the hot write queue (R352). -/
def hotEntries (b : BusReq) (write : Bool) (d : Decoded) : Nat :=
  if !write then 0
  else if d.masked then bn (hotReg true d.reg)
  else bn (hotReg false d.reg) + bn (b.size8 && hotReg false d.reg.upper)

/-- The port answers as R52 gives: D3 is held, or a warm reset has closed the port until D3 is released again (R71). -/
def State.portShut (s : State) : Bool :=
  s.isHeld 3 || s.mode.mode == .warm || (s.rst.running && decide (s.rst.next ≤ 3))

/-- The access under way as it is judged (R396, R399). -/
def State.judged (s : State) : Judged := { epoch := s.acc.epoch, num := s.acc.writes }

/-- The access is numbered, and stands among the cold requests in flight unless it is hot or posted (R49, R399). -/
def State.enterAccess (s : State) (b : BusReq) (hot : Bool) : State :=
  let s := { s with acc := { s.acc with writes := s.acc.writes + 1 } }
  if !hot && !b.posted then
    { s with bus := { s.bus with outstanding := s.bus.outstanding ++ [(b.tag.toNat, s.judged)] } } else s

/-- The part common to every register access: `act` is what an admitted access does, with the response it gives. -/
def State.access (s : State) (b : BusReq) (write : Bool) (act : State → Decoded → Verdict → State) : State :=
  let d := decodeAddr (reqAddr b)
  let hot := hotReg d.masked d.reg
  if !s.portOn then s
  else if s.portShut then s.heldPort b write
  else if !s.accepts (hotEntries b write d) then s
  else
    let asleep := (s.pwr.rung == 2 || s.pwr.rung == 3) && !hot
    let fifo := write && !d.masked && d.reg.cmdFifo.isSome
    if asleep && !fifo && !b.posted then (s.wakeRung .register).respond b false 2 0
    else
      let s := if fifo then s.wake .command else if asleep then s.wakeRung .register else s
      if !b.posted && s.bus.outstanding.any (·.1 == b.tag.toNat) then s.tagReused b
      else
        let s := s.enterAccess b hot
        if badShape b write d then s.refuseShape b write hot { ok := false } d.slot
        else
          let v := s.judge b.master.toNat b.priv false write (reqAddr b) d.slot (defaultWritable d.reg)
          if !v.ok then s.refuseAccess b write hot v d.slot
          else if !b.size8 && !d.masked && d.reg.wideOnly then s.narrow b write d v
          else
            let k1 := if d.masked && !write then 0 else s.bindingKind b write d.reg
            let k2 := if b.size8 && !d.masked && k1 == 0 then s.bindingKind b write d.reg.upper else k1
            if k2 ≠ 0 then s.refuseAccess b write hot { v with ok := false, kind := k2 } d.slot
            else act s d v

end Sys2Proof.Machine
end

