-- ==== Sys2Proof/Machine/Nib.lean ====
section
/-! DEFINITION. The Nib-1 ports and the answers to withdrawals as commands (R53 to R56, R72, R108, R111 to R115, R187 to
R194, R204). -/
namespace Sys2Proof.Machine

/-- Nib-1 port `n` samples its inputs: D7 is released, or a warm reset holds it (R34, R39, R72). -/
def State.portLive (s : State) (n : Nat) : Bool :=
  !s.isNib2 n && s.nibClocked n && (!s.isHeld 7 || s.rst.portsKept)

/-- A port captures a take that cannot be reported yet, behind the dones that it sampled before it (R72, R105). -/
def Port.capture (p : Port) : Port := { p with req := false, takenCut := true, takeAfter := p.dones.length }

/-- A take of what stands at target `t` (R112, R188, R190, R192): the running level is set at the sample, and the take
goes to the home bank, waits while the bank or D7 is held, or answers a withdrawal. -/
def State.takeShown (s : State) (t : Nat) : State :=
  match (s.tgt t).pres with
  | none =>
    if s.isHeld 7 then s.onPort t Port.capture else s.clearShown t
  | some e =>
    let s := s.onTgt t fun c => { (c.takeLevel e c.presLevel) with port := { c.port with req := false } }
    if s.isHeld 7 then s.onPort t Port.capture
    else if s.withdrawing e then s.onPort t fun p => { p with taken := true }
    else if s.bankFull e then s.onPort t Port.capture
    else s.applyTake t

/-- NIB_TAKE (R188). -/
def execNibTake (n : Fin 1024) (s : State) : Host.Outcome State Fault Refusal :=
  .next (if !s.portLive n.val then s
    else if (s.tgt n.val).port.req then ((s.wake .nib).takeShown n.val).stageOk 6 n.val
    else (s.wake .nib).nibNotice n.val 0)

/-- NIB_DONE (R191). -/
def execNibDone (n : Fin 1024) (eid : BitVec 20) (s : State) : Host.Outcome State Fault Refusal :=
  .next (if !s.portLive n.val then s
    else if 16 ≤ (s.tgt n.val).port.dones.length then (s.wake .nib).nibNotice n.val 4
    else ((s.wake .nib).onPort n.val fun p => { p with dones := p.dones ++ [eid.toNat] }).stageOk 6 n.val)

/-- DONE_APPLY (R72, R108, R191): the oldest done of target `t`, behind a captured take that was sampled before it. While its bank opens
only restricted rounds it waits there for an open one (R102, R105). -/
def execDoneApply (t : Fin 1536) (s : State) : Host.Outcome State Fault Refusal :=
  .next (match (s.tgt t.val).port.dones with
    | [] => s
    | e :: _ =>
      let p := (s.tgt t.val).port
      if s.isHeld 7 || s.isHeld 2 || (p.takenCut && p.takeAfter == 0) then s
      else if e < 0x41000 ∧ s.bankFull e then s.onPort t.val fun p => { p with doneDue := true }
      else (s.doneAt t.val).reportTakes)

/-- A running level as reported at a port or by an agent (R55, R192, R201). It is kept while the target takes the register path, which
has its own (R204). -/
def State.levelReport (s : State) (t v : Nat) : State :=
  let bad := decide (64 < v)
  let s := if bad && !(s.tgt t).port.runBad then s.nibNotice t 2 else s
  let v := if bad then 0 else v
  let s := s.onPort t fun p => { p with runBad := bad, runIn := v }
  if (s.tgt t).path then s else s.reportRun t v

/-- An idle value as reported (R55, R193); an idle report releases the groups that watch the target (R245). -/
def State.idleReport (s : State) (t v : Nat) : State :=
  let bad := v == 3
  let s := if bad && !(s.tgt t).port.idleBad then s.nibNotice t 3 else s
  let s := s.onPort t fun p => { p with idle := if bad then 0 else v, idleBad := bad }
  s.bypassFor t

/-- NIB_RUNLVL_CHANGE (R192). -/
def execNibRunlvlChange (n : Fin 1024) (v : BitVec 7) (s : State) : Host.Outcome State Fault Refusal :=
  .next (if s.portLive n.val then (s.wake .nib).levelReport n.val v.toNat else s)

/-- NIB_IDLE_CHANGE (R193). -/
def execNibIdleChange (n : Fin 1024) (v : BitVec 2) (s : State) : Host.Outcome State Fault Refusal :=
  .next (if s.portLive n.val then (s.wake .nib).idleReport n.val v.toNat else s)

/-- Port `n` returns to reset (R34, R56, R194): a withdrawal in progress resolves, a presented event that was not taken
is queued again, the blot goes, and the effective running level returns to the reported one. The running level and the idle value
that the port last sampled stay (assumption log 70). -/
def State.portDown (s : State) (n : Nat) : State :=
  if s.isNib2 n || (s.tgt n).path then s
  else
    let cut := (s.tgt n).port.takenCut
    let s : State :=
      match (s.tgt n).pres with
      | some e =>
        if s.withdrawing e then
          (if (s.tgt n).port.taken || cut then (s.onPort n fun p => { p with takenCut := false }).resolveTaken n e
           else s.resolveWithdrawn n e false)
        else if cut then s else s.returnQueued n
      | none => if (s.tgt n).blot then (s.clearShown n).onPort n fun p => { p with takenCut := false } else s
    let s := s.onTgt n fun c =>
      { c with runEff := c.runRpt, effEid := none, port := { c.port with req := false, due := none, runBad := false, idleBad := false } }
    s.reportTakes

/-- NIB_CLK_OK_FALL (R56). -/
def execNibClkOkFall (n : Fin 1024) (s : State) : Host.Outcome State Fault Refusal :=
  .next (if !(tget (fun _ => false) s.pins.nibOk n.val : Bool) then s
    else
      let s := { s with pins := { s.pins with
        nibOk := tset (fun _ => false) s.pins.nibOk n.val false, absent := s.pins.absent.filter (· != Boundary.nib n) } }
      let s := if s.isNib2 n.val then s else s.onPort n.val fun p => p.presence false
      s.portDown n.val)

/-- WITHDRAWAL_ANSWER (R111, R112, R114, R204): the answer of a Nib-1 port, the front file or a far channel. A Nib-2
agent answers by its flits, and a TAKE that has already come answers for it (R113). A port or a link that has gone down holds nothing,
so it answers as well (R56, R202). -/
def execWithdrawalAnswer (t : Fin 1536) (neverShown : Bool) (s : State) : Host.Outcome State Fault Refusal :=
  let c := s.tgt t.val
  let agent := s.isNib2 t.val && !c.path
  let answers := !s.isHeld 2 && (decide (1024 ≤ t.val) || s.returning t.val || (!s.isHeld 7 &&
    (if c.path then s.portOn else if agent then c.port.takenCut else s.nibClocked t.val)))
  .next (match c.pres with
    | none => s
    | some e =>
      if !answers || !s.withdrawing e then s
      else
        let s := s.onPort t.val fun p => { p with takenCut := false, takeAfter := 0 }
        let s : State :=
          if agent && c.port.takenCut then s.resolveCrossed t.val e
          else if c.port.taken || c.port.takenCut then
            let s := s.resolveTaken t.val e
            if c.path then s.onTgt t.val fun x => x.takeLevel e c.presLevel else s
          else s.resolveWithdrawn t.val e (!neverShown && c.port.due.isNone && !s.returning t.val)
        s.reportTakes)

end Sys2Proof.Machine
end

