-- ==== Sys2Proof/Machine/Links.lean ====
section
/-! DEFINITION. The Nib-2 link attachments as commands (R57, R58, R113, R195 to R203). -/
namespace Sys2Proof.Machine

/-- Attachment `g` takes flits (R39, R58, R202): a Nib-2 group, D7 released, the link up, no RESET due. -/
def State.rxOn (s : State) (g : Nat) : Bool :=
  s.isNib2 (32 * g) && !s.isHeld 7 && s.linkOn g && (s.link g).open_ && !(s.link g).resetDue

/-- The link stops carrying presentations (R113, R202): withdrawals in progress resolve as withdrawn, presented events
are queued again, no blot is sent, and the agent holds nothing. A take that the block has received is honoured. -/
def State.linkDrop (s : State) (g : Nat) : State :=
  forEach (groupTargets g) (fun t s =>
    if (s.tgt t).path then s
    else
      match (s.tgt t).pres with
      | some e =>
        if s.withdrawing e then
          (if (s.tgt t).port.takenCut then (s.onPort t fun p => { p with takenCut := false }).resolveCrossed t e
           else s.resolveWithdrawn t e false)
        else if (s.tgt t).port.takenCut then s
        else s.returnQueued t
      | none => if (s.tgt t).held then s.clearShown t else s) s

/-- A link fault, or a link that stayed down (R202): the targets become FAULTED, the held flits are discarded and the
numbering starts again; RESET is due at the next rise. -/
def State.linkLost (s : State) (g cause : Nat) : State :=
  let s := s.linkDrop g
  let s := s.onLink g fun l =>
    { l with sent := [], txNext := 0, rxNext := 0, rxDiscard := false, nakRun := 0, nakIn := 0, agentCredits := 0,
             credOwed := 0, awaitReplay := false, resetDue := true }
  let s := forEach (groupTargets g) (fun t s => s.faultTarget t 4) s
  s.report 8 1 (pack [(0, g), (5, cause)])

/-- A received flit is discarded: its credit is owed again (R199). -/
def Link.discard (l : Link) : Link := { l with agentCredits := l.agentCredits - 1, credOwed := l.credOwed + 1 }

/-- A flit that breaks R198 asks for a replay by NAK; the eighth NAK without an advance is a link fault. -/
def State.sendNak (s : State) (g : Nat) : State :=
  let s := s.onLink g fun l => { l.discard with rxDiscard := true, nakRun := l.nakRun + 1 }
  if 8 ≤ (s.link g).nakRun then s.linkLost g 2 else s.sendLink g false false

/-- The flits that an ACK covers are released (R198). -/
def Link.acked (l : Link) (ack : Nat) : Link :=
  match l.sent.findIdx? (fun f => f.lseq == ack) with
  | some k => if k < 32 then { l with sent := l.sent.drop (k + 1), nakIn := 0 } else l
  | none => l

/-- A flit in order: ACK and NAK of its header, the next LSEQ expected, its credit (R198, R199). A NAK makes the block
send its held flits again. -/
def State.acceptFlit (s : State) (g : Nat) (h : FlitHead) : State :=
  let s := s.onLink g fun l =>
    let l := { l with rxNext := wrap 8 (l.rxNext + 1), rxDiscard := false, nakRun := 0, agentCredits := l.agentCredits - 1 }
    let l := l.acked h.ack.val
    if h.nak then { l with nakIn := l.nakIn + 1, lastSend := s.tick } else l
  if 8 ≤ (s.link g).nakIn then s.linkLost g 2 else s

/-- What a flit with a good CRC and a valid type does before its content (R58, R198): in order, it is accepted and
`act` runs; a repeated one is discarded; one after a gap asks for a replay, unless that replay is awaited. -/
def State.receive (s : State) (g : Nat) (h : FlitHead) (act : State → State) : State :=
  let l := s.link g
  if !s.rxOn g then s
  else
    let s := s.wake .nib
    if l.agentCredits = 0 then s.report 8 1 (pack [(0, g), (5, 1)])
    else
      let ahead := (h.lseq.val + 256 - l.rxNext) % 256
      if ahead = 0 then
        let s := s.acceptFlit g h
        if (s.link g).resetDue then s else act s
      else if 128 ≤ ahead then s.onLink g Link.discard
      else if l.rxDiscard then s.onLink g Link.discard
      else s.sendNak g

/-- The flit has been applied: its credit is owed to the agent (R199). -/
def State.creditBack (s : State) (g : Nat) : State := s.onLink g fun l => { l with credOwed := l.credOwed + 1 }

/-- A late take (R201). -/
def State.lateTake (s : State) (t e q : Nat) : State :=
  let due := fun (s : State) =>
    let r := s.source e
    r.st == .pending && r.place == .queued && r.serving == t && r.shownAt == some (t, q)
  if decide (e < 0x41000) && due s then
    s.atBank e fun s =>
      if due s then
        let p := (s.source e).prio
        (s.takeNow t e q).onTgt t fun c => c.takeLevel e p
      else s.nibNotice t 5
  else s.nibNotice t 5

/-- The presentation that a TAKE flit names stands at target `t`. None is outstanding at a target of the register path (R204), or once
the event is on its way back to its queue (R202). -/
def State.standsAt (s : State) (t q : Nat) : Bool :=
  let c := s.tgt t
  c.pseq == q && c.held && !c.path && !s.returning t

/-- A TAKE flit (R113, R201). -/
def State.flitTake (s : State) (t e q : Nat) : State :=
  let c := s.tgt t
  if s.standsAt t q && !c.port.takenCut then
    match c.pres with
    | some x =>
      if s.withdrawing x then
        (if (s.source x).wcause.unit.isNone then s.onTgt t fun c => c.takeLevel x c.presLevel else s).resolveCrossed t x
          |>.reportTakes
      else s.takeShown t
    | none => s.takeShown t
  else s.lateTake t e q

/-- The home bank of the event of a TAKE takes it now: it is not one that waits out a restricted round (R105). -/
def State.lateWaits (s : State) (t e q : Nat) : Bool :=
  !s.standsAt t q && decide (e < 0x41000) && s.bankFull e

/-- N2_TAKE (R201). -/
def execN2Take (g : Fin 32) (h : FlitHead) (eid : BitVec 20) (s : State) : Host.Outcome State Fault Refusal :=
  let t := 32 * g.val + h.tgt.val
  .next (if s.lateWaits t eid.toNat h.pseq.val then s
    else s.receive g.val h fun s => ((s.flitTake t eid.toNat h.pseq.val).creditBack g.val).stageOk 6 t)

/-- N2_DONE (R195): the done waits for its home bank (DONE_APPLY), which returns its credit. -/
def execN2Done (g : Fin 32) (h : FlitHead) (eid : BitVec 20) (s : State) : Host.Outcome State Fault Refusal :=
  .next (s.receive g.val h fun s =>
    (s.onPort (32 * g.val + h.tgt.val) fun p => { p with dones := p.dones ++ [eid.toNat] }).stageOk 6 (32 * g.val + h.tgt.val))

/-- N2_STATE_LEVEL (R197, R201, R203): running level, idle state, and whether the agent holds the presentation. -/
def execN2StateLevel (g : Fin 32) (h : FlitHead) (runlvl : BitVec 7) (idle : BitVec 2) (held : Bool) (heldPseq : Fin 256)
    (s : State) : Host.Outcome State Fault Refusal :=
  let t := 32 * g.val + h.tgt.val
  .next (s.receive g.val h fun s =>
    let s := (s.levelReport t runlvl.toNat).idleReport t idle.toNat
    let s := s.onPort t fun p => { p with confirmed := held && heldPseq.val == (s.tgt t).pseq }
    s.creditBack g.val)

/-- N2_STATE_WACK (R200): the agent has removed the presentation that PSEQ names. The front file answers for a target of the
register path (R204). -/
def execN2StateWack (g : Fin 32) (h : FlitHead) (s : State) : Host.Outcome State Fault Refusal :=
  let t := 32 * g.val + h.tgt.val
  .next (s.receive g.val h fun s =>
    let s : State :=
      match (s.tgt t).pres with
      | some e => if s.withdrawing e && (s.tgt t).pseq == h.pseq.val && !(s.tgt t).path then (s.resolveWithdrawn t e true).reportTakes else s
      | none => s
    s.creditBack g.val)

/-- N2_STATE_LINK (R202): ACK and NAK are in its header; REPLAY_END lets presentation resume. -/
def execN2StateLink (g : Fin 32) (h : FlitHead) (replayEnd : Bool) (s : State) : Host.Outcome State Fault Refusal :=
  .next (s.receive g.val h fun s =>
    (s.onLink g.val fun l => { l with awaitReplay := l.awaitReplay && !replayEnd }).creditBack g.val)

/-- N2_FLIT_BAD (R58, R198): a flit without a credit is dropped; any other bad one asks for a replay, and a CRC failure
is a fault, handled ahead of the link fault of an eighth NAK (R458). -/
def execN2FlitBad (g : Fin 32) (why : FlitFlaw) (s : State) : Host.Outcome State Fault Refusal :=
  let l := s.link g.val
  .next (if !s.rxOn g.val then s
    else if why == .noCredit || l.agentCredits == 0 then s.report 8 1 (pack [(0, g.val), (5, 1)])
    else if why == .gap && l.rxDiscard then s.onLink g.val Link.discard
    else
      (if why == .crc then s.report 7 0 (pack [(0, g.val), (5, l.rxNext)]) else s).sendNak g.val)

/-- N2_LINK_KEEPALIVE (R198): 64 ticks after the last flit, while a good timebase counts them (R20). -/
def execN2LinkKeepalive (g : Fin 32) (s : State) : Host.Outcome State Fault Refusal :=
  let l := s.link g.val
  .next (if s.rxOn g.val && !l.sent.isEmpty && decide (l.sent.length < 32) && s.tb.good && decide (l.lastSend + 64 ≤ s.tick) then
      s.sendLink g.val false false
    else s)

/-- K_N2Lg_UP has fallen, or its clock is absent: the presence of the group's targets is gone (R34, R202, R490). -/
def State.linkFell (s : State) (g : Nat) : State :=
  let s := s.onLink g fun l =>
    { l with up := false, open_ := false, downSince := s.tick, agentCredits := 0, credOwed := 0, rxDiscard := false }
  let s := forEach (groupTargets g) (fun t s => if s.isNib2 t then s.onPort t fun p => p.presence false else s) s
  if s.isNib2 (32 * g) then (s.linkDrop g).reportTakes else s

/-- N2_LINK_DOWN (R202). -/
def execN2LinkDown (g : Fin 32) (s : State) : Host.Outcome State Fault Refusal :=
  .next (if (s.link g.val).up then
      let s := { s with pins := { s.pins with absent := s.pins.absent.filter (· != Boundary.link g) } }
      s.linkFell g.val
    else s)

/-- A presence signal rises now (R34). -/
def State.rises (s : State) (b : Boundary) : State :=
  { s with pins := { s.pins with roseAt := s.pins.roseAt.filter (·.1 != b) ++ [(b, s.instant)] } }

/-- N2_LINK_UP (R202). -/
def execN2LinkUp (g : Fin 32) (s : State) : Host.Outcome State Fault Refusal :=
  .next (if (s.link g.val).up then s
    else
      let s := (s.onLink g.val fun l => { l with up := true }).rises (.link g)
      if !s.isNib2 (32 * g.val) then s
      else
        let s := forEach (groupTargets g.val) (fun t s => s.onPort t fun p => p.presence true) s
        if s.isHeld 7 then s else s.linkOpen g.val)

/-- N2_LINK_DOWN_TIMEOUT (R202): 2^20 ticks after the fall, while a good timebase counts them (R20). -/
def execN2LinkDownTimeout (g : Fin 32) (s : State) : Host.Outcome State Fault Refusal :=
  let l := s.link g.val
  .next (if s.isNib2 (32 * g.val) && !l.up && l.everUp && !l.resetDue && s.tb.good && decide (l.downSince + 2 ^ 20 ≤ s.tick) then
      s.linkLost g.val 3
    else s)

end Sys2Proof.Machine
end

