-- ==== Sys2Proof/Machine/Clocks.lean ====
section
/-! DEFINITION. The timebase and the clocked boundaries as commands (R19 to R21, R34, R66, R67, R193, R240, R420,
R421). -/
namespace Sys2Proof.Machine

/-- Domain 0 is released: the timebase source is measured (R406, R421). -/
def State.timed (s : State) : Bool := s.rst.cold.isEmpty && !s.isHeld 0

/-- PWR_RESYNC after a sleep of `n` ticks: floor(count × P / 2 ns), where the ring made between 1.6 and 4 revolutions to the tick
(R407, R438). The count is free within these bounds (assumption log 71). -/
def State.resyncTicks (s : State) (n : Nat) : Nat :=
  let lo := ceilDiv (8 * n) 5
  (lo + (Config.freeWord s.free).toNat % (4 * n - lo + 1)) * s.pwr.ringPeriod / 2000000

/-- The exit from rung 5 adds `n` ticks (R438). An alarm whose tick has passed fires, and is no wake source (R437). -/
def State.resynced (s : State) (n : Nat) : State :=
  let p := s.pwr
  let rings := p.alarmEn && decide (p.alarm ≤ s.tick)
  { (s.recCount 25 n) with
    free := s.free + 1
    pwr := { p with stopped := false, resync := sat (2 ^ 32 - 1) n, alarmEn := p.alarmEn && !rings, alarmFired := p.alarmFired || rings } }

/-- A good timebase exists from now on (R20, R240, R421): open windows start here, and so do the functions that count
from the release of their domain and an UNSEAL window (R364). After rung 5 the ticks of the sleep are added (R438). -/
def State.timeGood (s : State) : State :=
  if s.tb.good then s
  else
    let n := if s.pwr.stopped then s.resyncTicks (s.now - s.pwr.asleep) else 0
    let s := { s with tb := { s.tb with good := true, count := (s.tb.count + n) % 2 ^ 64 }, rst := { s.rst with ring := false } }
    let s := if s.pwr.stopped then s.resynced n else s
    let s := forEach (s.groups.map (·.1)) (fun g s => s.onGrp g fun c => if c.open_ then { c with start := s.tick } else c) s
    let s : State := if s.cfg.timed then { s with cfg := { s.cfg with unsealStart := s.tick } } else s
    { s with ldg := { s.ldg with periodStart := if s.ldg.periodKnown then s.ldg.periodStart else s.tick },
             rank := { s.rank with windowStart := s.tick } }

/-- The source in use is no longer good: the count stands still, and LAT_BOUND reads 100 (R20, R22) until a window is published again
(assumption log 30). The windows completed before it still count in R175. -/
def State.timeLost (s : State) : State :=
  if !s.tb.good then s
  else
    let s := { s with tb := { s.tb with good := false, lostAt := s.now }, rst := { s.rst with ring := true },
                      rank := { s.rank with boundNs := 100, exceeded := false, floor := 110, published := false } }
    s.raiseHouse 23

/-- The presence signal of the source in use is high and its clock runs (R66). -/
def State.sourcePresent (s : State) : Bool :=
  if s.tb.source = 0 then s.pins.tbRefOk && !s.pins.absent.contains .tbRef
  else if s.tb.source = 1 then s.pins.ptsGood && !s.pins.absent.contains .pts
  else s.tb.calibrated

/-- The block stands in rung 5 of a park: no timebase source is measured (R438). -/
def State.asleepNow (s : State) : Bool := s.mode.mode == .park && s.pwr.stopped && s.pwr.rung == 5

/-- TIMEBASE_GOOD (R66, R488): a measurement over 4,096 edges against the calibrated oscillator; within 2% of 500 MHz the source is
good, and outside it the source is good no longer. -/
def execTimebaseGood (devPpm : Int) (s : State) : Host.Outcome State Fault Refusal :=
  .next (if !s.timed || !s.tb.calibrated || !s.sourcePresent || s.asleepNow then s
    else if s.tb.source = 2 then s.timeGood
    else
      let d := if devPpm < -32767 then -32767 else if 32767 < devPpm then 32767 else devPpm
      let s := { s with tb := { s.tb with devPpm := d, valid := true } }
      if -20000 ≤ devPpm ∧ devPpm ≤ 20000 then s.timeGood else s.timeLost)

/-- OSC_CALIBRATION_COMPLETE (R66). -/
def execOscCalibrationComplete (s : State) : Host.Outcome State Fault Refusal :=
  .next (if !s.timed || s.tb.calibrated then s
    else
      let s := { s with tb := { s.tb with calibrated := true, valid := true } }
      if s.tb.source = 2 then s.timeGood else s)

/-- TIMEBASE_FALLBACK (R20): 2^16 ring counts without a good source, at 4 counts to the tick. TB_MEAS keeps the last measurement
(R488). -/
def execTimebaseFallback (s : State) : Host.Outcome State Fault Refusal :=
  .next (if !s.timed || s.tb.good || s.asleepNow || s.tb.source == 2 || decide (s.now < s.tb.lostAt + 2 ^ 14) then s
    else
      let s := { s with tb := { s.tb with source := 2, fallback := true, seq := seqUp s.tb.seq } }
      let s := (s.report 0x0B 1 1).raiseHouse 23
      if s.tb.calibrated then s.timeGood else s)

/-- K_PTS_LOAD (R67, R421): it loads the count while the source in use is K_PTS_CLK, which it no longer is after a fallback (assumption
log 81). -/
def execKPtsLoad (v : DWord) (s : State) : Host.Outcome State Fault Refusal :=
  .next (if !s.timed || s.tb.source != 1 || !s.tb.good then s
    else if s.tb.count ≤ v.toNat then { s with tb := { s.tb with count := v.toNat, loaded := true } }
    else
      let b := s.tb
      let s := { s with tb := { b with reject := true, rejects := sat 255 (b.rejects + 1), rej := v.toNat, seq := seqUp b.seq } }
      s.report 0x0B 1 2)

/-! ### Presence of clocks (R34, R420) -/

/-- The boundaries of K_FAB_CLK return to reset: intake channels close, ready far writes return (R45, R223). -/
def State.fabDown (s : State) : State := (if s.isHeld 8 then s else s.closeFar).closeIntake

/-- CLOCK_PRESENCE_RISE (R34). K_N2Lg_UP has a command of its own. -/
def execClockPresenceRise (b : Boundary) (s : State) : Host.Outcome State Fault Refusal :=
  let here := ({ s with pins := { s.pins with absent := s.pins.absent.filter (· != b) } }).rises b
  let p := here.pins
  .next (match b with
    | .fab =>
      if p.fabOk then s
      else
        let s := { here with pins := { p with fabOk := true } }
        let s := if s.channelOpen then s.openIntake else s
        if s.isIdle 8 then s else s.openFar
    | .mb =>
      if p.mbOk then s
      else { here with pins := { p with mbOk := true }, bus := { s.bus with frontRun := [], frontRes := [] } }
    | .nib n =>
      if (tget (fun _ => false) p.nibOk n.val : Bool) then s
      else
        let s := { here with pins := { p with nibOk := tset (fun _ => false) p.nibOk n.val true } }
        if s.isNib2 n.val then s else s.onPort n.val fun q => q.presence true
    | .link _ => s
    | .tbRef => if p.tbRefOk then s else { here with pins := { p with tbRefOk := true } }
    | .pts => if p.ptsGood then s else { here with pins := { p with ptsGood := true } })

/-- CLOCK_PRESENCE_FALL (R34). NIBn_CLK_OK and K_N2Lg_UP have commands of their own. -/
def execClockPresenceFall (b : Boundary) (s : State) : Host.Outcome State Fault Refusal :=
  let here := { s with pins := { s.pins with absent := s.pins.absent.filter (· != b) } }
  let p := here.pins
  .next (match b with
    | .fab => if p.fabOk then ({ here with pins := { p with fabOk := false } }).fabDown else s
    | .mb =>
      if p.mbOk then { here with pins := { p with mbOk := false },
                                 bus := { s.bus with hot := none, split := none, outstanding := [] } } else s
    | .nib _ => s
    | .link _ => s
    | .tbRef =>
      let s' := { here with pins := { p with tbRefOk := false } }
      if p.tbRefOk then (if s.tb.source = 0 then s'.timeLost else s') else s
    | .pts =>
      let s' := { here with pins := { p with ptsGood := false } }
      if p.ptsGood then (if s.tb.source = 1 then s'.timeLost else s') else s)

/-- The boundary is released and its presence signal is high (R34); K_FAB_CLK serves the fault port, which D0 holds (R62). After a
fallback the strapped reference is not in use and its boundary does not count as released (assumption log 81). -/
def State.released (s : State) (b : Boundary) : Bool :=
  match b with
  | .fab => s.pins.fabOk && s.timed
  | .mb => s.pins.mbOk && !s.isHeld 3
  | .nib n => (tget (fun _ => false) s.pins.nibOk n.val : Bool) && !s.isNib2 n.val && !s.isHeld 7
  | .link g => (s.link g.val).up && s.isNib2 (32 * g.val) && !s.isHeld 7
  | .tbRef => s.pins.tbRefOk && s.timed && s.tb.source == 0
  | .pts => s.pins.ptsGood && s.timed && s.tb.source == 1

/-- The instant of the release of a boundary's domain (R34). -/
def State.releasedAt (s : State) (b : Boundary) : Instant :=
  match b with
  | .mb => tget (fun _ => {}) s.rst.freedAt 3
  | .nib _ | .link _ => tget (fun _ => {}) s.rst.freedAt 7
  | .fab | .tbRef | .pts => s.tb.d0Release

/-- The instant of the last rise of a presence signal. -/
def State.roseAt (s : State) (b : Boundary) : Instant :=
  match s.pins.roseAt.find? fun p => p.1 == b with
  | none => {}
  | some p => p.2

/-- 256 ticks have passed since the boundary was released (R34). -/
def State.absentDue (s : State) (b : Boundary) : Bool := s.elapsed (s.releasedAt b) 256 && s.elapsed (s.roseAt b) 256

/-- Detail word of a clock-absent fault (R453). -/
def clockInfo : Boundary → Nat
  | .fab => 1
  | .mb => 2
  | .nib n => pack [(0, 3), (4, n.val)]
  | .link g => pack [(0, 4), (4, g.val)]
  | .tbRef => 5
  | .pts => 6

/-- CLOCK_ABSENT (R34, R193, R490): the boundary returns to reset until its presence signal falls and rises; the
targets of a nib port or of a link become FAULTED with cause 0x1. -/
def execClockAbsent (b : Boundary) (s : State) : Host.Outcome State Fault Refusal :=
  .next (if !s.released b || s.pins.absent.contains b || !s.absentDue b then s
    else
      let s := { s with pins := { s.pins with absent := s.pins.absent ++ [b] } }
      let s : State :=
        match b with
        | .fab => s.fabDown
        | .mb => { s with bus := { s.bus with hot := none, split := none, outstanding := [] } }
        | .nib n => (s.portDown n.val).faultTarget n.val 1
        | .link g => forEach (groupTargets g.val) (fun t s => s.faultTarget t 1) (s.linkDrop g.val)
        | .tbRef => s.timeLost
        | .pts => s.timeLost
      s.report 0x0A 1 (clockInfo b))

end Sys2Proof.Machine
end

