-- ==== Sys2Proof/Machine/Lines.lean ====
section
/-! DEFINITION. Wired lines, wake lines and the switch source port as commands (R40 to R43, R78 to R83, R439). -/
namespace Sys2Proof.Machine

/-- An edge of line `k` to the present input qualifies under its sense (R78, R79, R81). -/
def State.qualifies (s : State) (k : Nat) : Bool :=
  s.lineLevelOnly k || (s.lineCfg k).sense == 2 || s.lineActive k

/-- An edge finds the latch still set (R41, R77, R84). -/
def State.overrun (s : State) (k : Nat) : State :=
  let first := s.lines.all fun p => !p.2.overrun
  let s := s.onLine k fun l => { l with overrun := true, ovrCount := sat 255 (l.ovrCount + 1), seq := seqUp l.seq }
  if first then s.raiseHouse 22 else s

/-- LINE_EDGE (R40): the latch works in every mode but COLD. -/
def execLineEdge (k : Fin 2048) (high : Bool) (s : State) : Host.Outcome State Fault Refusal :=
  .next (if (s.line k.val).input = high then s
    else
      let s := s.onLine k.val fun l => { l with input := high }
      if !s.rst.cold.isEmpty || !s.qualifies k.val then s
      else if (s.line k.val).latch then (if s.lineLevelOnly k.val then s else s.overrun k.val)
      else (s.onLine k.val fun l => { l with latch := true }).wake .latch)

/-- Lines are handed off: intake is open, D2 is released, and the block is in rung 0 or 1 (R79, R428, R492). -/
def State.intakeOn (s : State) : Bool :=
  s.intakeOpen && !s.isHeld 2 && decide (s.pwr.rung < 2)

/-- Line `k` is not behind another of the lines that were latched at the release of D6, which are handed off in ascending order
(R406). -/
def State.lineTurn (s : State) (k : Nat) : Bool :=
  let l := s.rst.lateLines.filter fun j => (s.line j).latch
  !l.contains k || l.head? == some k

/-- LINE_HANDOFF (R79). The signals wait while the bank's wait slots are full (R105). -/
def execLineHandoff (k : Fin 2048) (s : State) : Host.Outcome State Fault Refusal :=
  let e := k.val
  .next (if !s.intakeOn || !(s.line e).latch || s.bankFull e then s
    else if !s.lineTurn e then s
    else
      let t := s.tick
      let s := { s with rst := { s.rst with lateLines := without e s.rst.lateLines } }
      ((s.handoff e (s.lineLevelOnly e) (fun s => s.orderPulse e 0 t {}) (fun s => s.orderAssert e t)
        (fun s => s.orderDeassert e)).onLine e fun l => { l with latch := false }).stageOk 2 e)

/-- WAKE_LINE_EDGE (R42, R447). -/
def execWakeLineEdge (w : Fin 32) (s : State) : Host.Outcome State Fault Refusal :=
  .next (if !s.rst.cold.isEmpty then s
    else ({ s with pwr := { s.pwr with wakeLines := s.pwr.wakeLines ||| 2 ^ w.val } }).wake .wakeLine)

/-- A reserved item is taken and dropped (R43, R92, R393). -/
def State.badItem (s : State) (id : Nat) : State :=
  (s.refuse 0xD 0 {} 0).report 0x13 0 id

/-- SWITCH_ITEM (R43, R83). -/
def execSwitchItem (id : Fin 512) (kind : Fin 4) (s : State) : Host.Outcome State Fault Refusal :=
  let e := 0x800 + id.val
  .next (if !s.channelOpen || s.isHeld 2 then s
    else
      let s := (s.wake .message).stageOk 3 0
      if kind.val = 3 then s.badItem id.val
      else if s.bankFull e then s
      else if kind.val = 0 then s.orderPulse e 0 s.tick {}
      else if kind.val = 1 then s.orderAssert e s.tick
      else s.orderDeassert e)

/-- SWITCH_WAKE_DETECT (R433, R439): the message wake detector works in rung 4, and in the entry to it, while K_FAB_CLK_OK is high. -/
def execSwitchWakeDetect (s : State) : Host.Outcome State Fault Refusal :=
  .next (if ((s.mode.mode == .park && s.pwr.rung == 4) || (s.pwr.parking && s.pwr.parkRung == 4)) && s.pins.fabOk then s.wake .message else s)

end Sys2Proof.Machine
end

