-- ==== Sys2Proof/WellFormed.lean ====
section
/-! DEFINITION. Which commands are well formed: K_MIc_DATA carries 16 dwords (R44), and a temperature reading
fits the 8 bits of REC_TEMP.TEMP_C (R483). Every other operand is exact by its type. -/
namespace Sys2Proof

/-- The data of a message write is 512 bits (R44). -/
def MsgWrite.wf (m : MsgWrite) : Bool := m.data.length == 16

/-- The reading fits 8 bits in two's complement (R483). -/
def tempWf (t : Int) : Bool := decide (-128 ≤ t) && decide (t ≤ 127)

/-- The well-formedness of a command. -/
def Instr.wf (i : Instr) : Bool :=
  match i with
  | .messageWriteTransfer _ m => m.wf
  | .witnessWindowEnd _ t => tempWf t
  | _ => true

end Sys2Proof
end

