-- ==== Sys2Proof/Machine/Messages.lean ====
section
/-! DEFINITION. Message writes as commands (R44 to R47, R87 to R97, R137, R226 to R228): transfer into a channel buffer,
judgement, translation, relay handling and delivery. -/
namespace Sys2Proof

/-! ### Fields of a write (R44, R87) -/

/-- Dword `n` of the data. -/
def MsgWrite.dword (m : MsgWrite) (n : Nat) : BitVec 32 := m.data.getD n 0

/-- Byte offset in the message aperture. -/
def MsgWrite.offset (m : MsgWrite) : Nat := m.addr.toNat * 4

def MsgWrite.inst (m : MsgWrite) : Nat := m.offset / 2 ^ 33 % 512
def MsgWrite.page (m : MsgWrite) : Nat := m.offset / 2 ^ 12 % 2 ^ 21
def MsgWrite.inPage (m : MsgWrite) : Nat := m.offset % 2 ^ 12
def MsgWrite.host (m : MsgWrite) : Nat := m.master.toNat / 2 ^ 16

/-- Byte enables of a one-dword write are contiguous and not 0 (R46). -/
def goodEnables (e : Nat) : Bool := [1, 2, 4, 8, 3, 6, 12, 7, 14, 15].contains e

/-- The shape rule of R46. -/
def MsgWrite.shaped (m : MsgWrite) : Bool :=
  let n := m.len.toNat
  [1, 2, 4, 8, 16].contains n && m.addr.toNat % n == 0 &&
  (if n = 1 then goodEnables m.fbe.toNat && m.lbe.toNat == 0 else m.fbe.toNat == 15 && m.lbe.toNat == 15)

/-- Dword 0 with the bytes that are not enabled read as 0 (R91). -/
def MsgWrite.data0 (m : MsgWrite) : Nat :=
  [0, 1, 2, 3].foldl (fun a k => if m.fbe.toNat.testBit k then a + Machine.nfld (m.dword 0).toNat (8 * k) 8 * 2 ^ (8 * k) else a) 0

end Sys2Proof

namespace Sys2Proof.Machine

/-- The page entry of device page `p` of instance `i` (R88). -/
def State.pageOf (s : State) (i p : Nat) : Option Nat :=
  let c := s.ctx i
  let e := c.pageBase + p
  if c.created && decide (p < c.pageCount) && !(i == 0 && s.guestOwns e) then some e else none

/-! ### Transfer (R45, R137) -/

/-- MESSAGE_WRITE_TRANSFER (R45). Nothing transfers while the channels are closed. A write on a channel for which the block counts no
credit is refused without being buffered (R137). -/
def execMessageWriteTransfer (c : Fin 16) (m : MsgWrite) (s : State) : Host.Outcome State Fault Refusal :=
  if !m.wf then .fault .illFormed
  else .next (if !s.channelOpen then s
    else
      let s := s.wake .message
      if (s.chan c.val).switchCredits = 0 then
        (s.refuse 0xE 0 { master := m.master.toNat, priv := m.priv, chan := c.val } m.inst).report 0x10 1 c.val
      else s.onChan c.val fun x => { x with buf := x.buf ++ [m], switchCredits := x.switchCredits - 1 })

/-! ### Judgement (R91) -/

/-- What a judged write gives: refusals by reason (with the violation kind), and pulses by EID and payload, in their
order. -/
inductive Verdict1
  | refuse (reason kind : Nat)
  | pulse (eid : Nat) (payload : BitVec 32)
  deriving DecidableEq, Repr

/-- The judgement of a write: what it gives, whether R226 judged it, whether it takes a relay cell, and whether it passed the access
check, so that its translation is a work item of its instance (R267). -/
structure Ruling where
  out : List Verdict1
  relay : Bool := false
  cell : Bool := false
  work : Bool := true
  unmatched : Bool := false
  deriving DecidableEq, Repr

/-- The function of the writer in a page entry (R91, R226); none when the identity does not fit. -/
def PageEntry.function (p : PageEntry) (m : MsgWrite) : Option Nat :=
  let f := (m.master.toNat % 65536 + 65536 - p.reqBase) % 65536
  if m.host = p.host ∧ f ≤ p.fnM1 then some f else none

/-- The translation of vector `v` of function `f` (R91, R226). -/
def State.translate (s : State) (p : PageEntry) (f v : Nat) (payload : BitVec 32) : Verdict1 :=
  let t := s.transEntry (p.tbase + f * p.tstride + v)
  if t.valid then .pulse (0x1000 + t.mid) payload else .refuse 9 0

/-- One record of an extended write (R94). -/
def extRecord (w0 w1 : BitVec 32) : Verdict1 :=
  let e := fld w0 0 20
  if fld w0 20 12 ≠ 0 then .refuse 0xC 0
  else if e < 0x1000 ∨ 0x41000 ≤ e then .refuse 0xB 0
  else .pulse e w1

/-- The relay region (R226). -/
def State.judgeRelay (s : State) (p : PageEntry) (m : MsgWrite) : Ruling :=
  if 0x3FF < m.inPage ∨ m.len.toNat ≠ 2 then { out := [.refuse 4 0], relay := true }
  else
    let d := m.dword 0
    let v := fld d 0 16
    let out := match p.function m with
      | none => Verdict1.refuse 6 0
      | some f =>
        if fld d 16 8 ≠ 0 ∨ fld d 30 2 ≠ 0 then .refuse 0xC 0
        else if p.tstride ≤ v then .refuse 8 0
        else s.translate p f v (m.dword 1)
    { out := [out], relay := true, cell := true }

/-- The regions of a device page that take messages (R89, R91, R93). -/
def State.judgePage (s : State) (p : PageEntry) (m : MsgWrite) : List Verdict1 :=
  let o := m.inPage
  let msi := decide (o < 0x100)
  let ext := decide (0x200 ≤ o)
  let n := m.len.toNat
  if 0x400 ≤ o ∨ (ext && n == 1) ∨ (!ext && n != 1) then [.refuse 4 0]
  else if !(if msi then p.fmtMsi else if ext then p.fmtExt else p.fmtKx2) then [.refuse 5 0]
  else
    match p.function m with
    | none => [.refuse 6 0]
    | some f =>
      if ext then (List.range (n / 2)).map fun k => extRecord (m.dword (2 * k)) (m.dword (2 * k + 1))
      else
        let data := m.data0
        let v := data % 65536
        if msi && p.dtagEn && data / 65536 != p.dtag then [.refuse 7 0]
        else if p.tstride ≤ v then [.refuse 8 0]
        else [s.translate p f v (w32 (if msi then data else data / 65536))]

/-- The judgement of a write, in the order of R91; `slot` is the slot of its device page. -/
def State.judgeWrite (s : State) (m : MsgWrite) (slot : Option Nat) : Ruling :=
  if !m.shaped then { out := [.refuse 1 0], work := false }
  else if m.poison then { out := [.refuse 2 0], work := false }
  else
    let v := s.judge m.master.toNat m.priv true true m.offset slot false
    if !v.ok then { out := [.refuse 3 v.kind], unmatched := v.kind == 5, work := false }
    else
      match s.pageOf m.inst m.page with
      | none => { out := [.refuse 9 0] }
      | some e =>
        let p := s.page e
        if !p.valid then { out := [.refuse 9 0] }
        else if p.relay then s.judgeRelay p m
        else { out := s.judgePage p m }

/-! ### Delivery (R91, R92, R226 to R228) -/

/-- One result of a judged write. A pulse of a relay record waits for its home bank in the relay cell (R227). -/
def State.deliver (s : State) (m : MsgWrite) (f : PulseFrom) (stamp cell : Nat) (v : Verdict1) : State :=
  match v with
  | .refuse r k =>
    let s := s.refuse r k f m.inst
    if f.relay then { s with ldg := { s.ldg with relayRefused := wrap 32 (s.ldg.relayRefused + 1) } } else s
  | .pulse e p =>
    let s := if f.relay then
        { s with relays := s.relays ++ [{ cell := cell, mid := e - 0x1000, gen := (s.ctx m.inst).parity, payload := p,
                                          origin := fld (m.dword 0) 24 6, epoch := f.epoch }] } else s
    s.sendOrder e (.pulse p stamp f)

/-- The bank of the pulse takes orders of intake (R105). -/
def State.pulseFits (s : State) (v : Verdict1) : Bool :=
  match v with
  | .refuse _ _ => true
  | .pulse e _ => !s.bankFull e

/-- The oldest write of a channel leaves the buffer and returns its credit, unless the switch has set its credits to 0 since the
write transferred (R45). -/
def InChan.pop (x : InChan) (open_ : Bool) : InChan :=
  { buf := x.buf.drop 1, switchCredits := x.switchCredits + bn (open_ && x.old == 0), old := x.old - 1 }

/-- The oldest write of channel `c` leaves the buffer, is stamped and judged; `cell` is the relay cell that it has taken (R91, R97,
R226). -/
def State.judgeOut (s : State) (c : Nat) (m : MsgWrite) (slot : Option Nat) (j : Ruling) (cell : Nat) : State :=
  let open_ := s.channelOpen
  let s := (s.stageOk 1 c).onChan c fun x => x.pop open_
  let s := { s with acc := { s.acc with writes := s.acc.writes + 1 } }
  let f : PulseFrom := { owner := some m.inst, master := m.master.toNat, priv := m.priv, slot := slot.getD 0x7FFF,
                         chan := c, relay := j.relay, gen := (s.ctx m.inst).parity, epoch := s.acc.epoch, write := s.acc.writes }
  let t := s.tick
  let s := forEach j.out (fun v s => s.deliver m f t cell v) s
  if j.unmatched then s.accessFault m.master.toNat slot 5 else s

/-- The judgement of the oldest write of a channel; its translation is a work item of the aperture instance (R267). A relay write waits
for a relay cell, which is counted once (R126, R227, R379); any other waits in the buffer while the bank of a pulse opens only
restricted rounds (R105). -/
def State.judgeNext (s : State) (w : ByCluster (Fin 16)) (m : MsgWrite) : State :=
  let c := w.item.val
  let slot := (s.pageOf m.inst m.page).map (0x1000 + ·)
  let j := s.judgeWrite m slot
  if j.cell then
    match s.freeRelayCell with
    | some n => s.byCluster w.cluster.val w.waiting m.inst fun s => (s.useCell n).judgeOut c m slot j n
    | none => if (s.chan c).cellWait then s else s.poolWaits.onChan c fun x => { x with cellWait := true }
  else if !j.out.all s.pulseFits then s
  else if j.work then s.byCluster w.cluster.val w.waiting m.inst fun s => s.judgeOut c m slot j 0
  else s.judgeOut c m slot j 0

/-- MESSAGE_WRITE_JUDGE (R91, R380). Nothing is judged while D3 is held, and intake waits within its credits while the event engines,
which translate, go idle or are held (R417). -/
def execMessageWriteJudge (w : ByCluster (Fin 16)) (s : State) : Host.Outcome State Fault Refusal :=
  .next (if s.isHeld 6 || s.isHeld 3 || !s.engineOn then s
    else match (s.chan w.item.val).buf with
      | [] => s
      | m :: _ => s.judgeNext w m)

end Sys2Proof.Machine
end

