-- ==== Sys2Proof/Machine/Engine.lean ====
section
/-! DEFINITION. The event engines as commands (R104, R237 to R248, R262 to R268, R298): results applied at home banks,
window ends, batches, refills, releases of the held lists and switch work. -/
namespace Sys2Proof.Machine

/-- The event engines finish a work item of source `e`: while D5 goes idle they finish what they had in hand (R417). -/
def State.worksOn (s : State) (e : Nat) : Bool :=
  !s.isHeld 5 && !s.isHeld 2 && decide (s.pwr.rung < 2) && (!s.quiescing 5 || s.rst.dom.hand.contains e)

/-! ### Results (R104, R237 to R239) -/

/-- An engine result at source `e`: a stale discard goes ahead of it and leaves it nothing to act on (R102, R274). -/
def State.engineAt (s : State) (e : Nat) (f : State → State) : State :=
  if s.isStale e then s.atBank e fun s => s else f s

/-- The release of source `e` from a held list: the refills due at its stamp come before the token check (R264). -/
def State.releaseItem (s : State) (e : Nat) (f : Held → Held) (left : Left) : State :=
  (s.wake .engineWork).engineAt e fun s =>
    (s.dueRefills (s.source e).inst (s.source e).stamp).releaseHeld e f left

/-- The event of source `e` is due to be queued, and no result has been applied to it. -/
def State.due (s : State) (e : Nat) : Bool :=
  let r := s.source e
  r.st == .pending && !r.placed && !r.held.any && !(s.mode.mode == .failsafe && !presentable e)

/-- A placing (R101, R104, R147, R264): the refills due at the event's stamp come first. -/
def State.placeResult (s : State) (e changes : Nat) : State :=
  let r := s.source e
  if r.changes != changes || !s.due e || s.awaitsScan e then s
  else (s.wake .engineWork).engineAt e fun s => (s.dueRefills r.inst r.stamp).placeNow e {}

/-- The join of an event of group `g` is due; the join comes before the count of the same event (R238). -/
def State.joinDue (s : State) (e : Nat) : Bool :=
  s.due e && s.isMember e && !(s.ctx (s.source e).inst).frozen && s.mode.mode != .quiesce

/-- The count of an event waits: its join is due, or the window that it follows awaits its timer release (R238, R239). One stamped before
CLOSED stops at the first line of R239. -/
def State.countWaits (s : State) (x : LigCount) : Bool :=
  s.listHeld x.group || s.joinDue x.eid || (s.pastEnd x.group x.stamp && !s.beforeClosed x && s.mode.mode != .quiesce)

/-- The oldest count on its way to group `g` that need not wait, and its place (R239, R246). -/
def State.nextCount (s : State) (g : Nat) : Option (Nat × LigCount) :=
  match s.counts.findIdx? (fun x => x.group == g && !s.countWaits x) with
  | none => none
  | some k => s.counts[k]?.map fun x => (k, x)

/-- ENGINE_RESULT_APPLY (R104). -/
def execEngineResultApply (w : ByCluster EngineWork) (s : State) : Host.Outcome State Fault Refusal :=
  .next (match w.item with
    | .place e changes =>
      if s.worksOn e.val then
        s.byCluster w.cluster.val w.waiting (s.source e.val).inst fun s => s.placeResult e.val changes.val
      else s
    | .count g =>
      match s.nextCount g.val with
      | none => s
      | some (k, x) =>
        if s.worksOn x.eid then
          s.byCluster w.cluster.val w.waiting (s.grp g.val).inst fun s =>
            (({ s with counts := s.counts.eraseIdx k }).wake .engineWork).groupCount x
        else s)

/-! ### Ligature groups (R239 to R248) -/

/-- A count or a join of group `g` stamped before its END has not been applied (R239). -/
def State.earlierWork (s : State) (g : Nat) : Bool :=
  (s.counts.any fun x => x.group == g && !s.pastEnd g x.stamp) ||
  (s.src.any fun p => p.2.group == g && !s.pastEnd g p.2.stamp && s.joinDue p.1)

/-- LIG_WINDOW_END (R239, R246). During a REBUILD scan the END is held. -/
def execLigWindowEnd (g : Fin 65536) (s : State) : Host.Outcome State Fault Refusal :=
  .next (if !s.engineOn || s.pwr.rung != 0 || !s.endReached g.val || s.sweeping .rebuild || s.listHeld g.val ||
      s.earlierWork g.val then s
    else s.release g.val 2 (s.grp g.val).endTick)

/-- A group whose last batch has ended completes its drain (R248). -/
def State.groupDrained (s : State) (g : Nat) : State :=
  let c := s.grp g
  if c.drain && c.batches.isEmpty && c.owed == 0 then
    (s.putGrp g { c with drain := false }).objectReplies (.groupEnable g) (.groupDisable g) 1 g
  else s

/-- The oldest batch of group `g` ends (R241, R248). -/
def State.batchEnds (s : State) (g : Nat) : State :=
  (s.onGrp g fun c => { c with batches := c.batches.drop 1 }).groupDrained g

/-- The oldest batch of group `g` goes on with pool cell `n` (R126, R241). -/
def State.batchCell (s : State) (g n : Nat) : State :=
  (s.useCell n).onGrp g fun c =>
    { c with batches := match c.batches with
        | [] => []
        | b :: bs => { b with cell := some n } :: bs }

/-- One work item of batch `b`, the oldest of group `g`: the release of its first member (R242), or its end. A batch of a retired
generation is freed without acting (R249), and one that waited for a pool cell takes it. -/
def State.batchStep (s : State) (w : ByCluster (Fin 65536)) (b : Batch) : State :=
  let g := w.item.val
  let i := (s.grp g).inst
  if b.gen != (s.ctx i).parity then s.batchEnds g
  else
    match b.members with
    | [] => s.batchEnds g
    | e :: rest =>
      if s.awaitsScan e || !s.worksOn e then s
      else
        match b.cell with
        | none =>
          match s.freePool with
          | none => s
          | some n => s.batchCell g n
        | some _ =>
          s.byCluster w.cluster.val w.waiting i fun s =>
            let s := s.releaseItem e (fun h => { h with moderated := false }) { moderated := true }
            if rest.isEmpty then s.batchEnds g else s

/-- LIG_BATCH_MEMBER_RELEASE (R242, R249). -/
def execLigBatchMemberRelease (g : ByCluster (Fin 65536)) (s : State) : Host.Outcome State Fault Refusal :=
  .next (if s.isHeld 5 || s.isHeld 2 || decide (2 ≤ s.pwr.rung) then s
    else match (s.grp g.item.val).batches with
      | [] => s
      | b :: _ => s.batchStep g b)

/-! ### Refills and held lists (R264, R266, R268, R298) -/

/-- RATE_REFILL (R264). -/
def execRateRefill (i : Fin 512) (s : State) : Host.Outcome State Fault Refusal :=
  .next (if s.isHeld 5 || s.isHeld 2 || s.pwr.rung != 0 || !s.tb.good || decide (s.tick < (s.ctx i.val).nextRefill) then s
    else s.refill i.val)

/-- QUOTA_LIST_RELEASE (R268). -/
def execQuotaListRelease (i : ByCluster (Fin 512)) (s : State) : Host.Outcome State Fault Refusal :=
  let x := s.ctx i.item.val
  .next (if s.repairing (.quota i.item) || x.frozen || decide (x.quota ≤ x.cellsPlaced) then s
    else match x.quotaList with
      | [] => s
      | e :: _ =>
        if s.worksOn e then
          s.byCluster i.cluster.val i.waiting i.item.val fun s =>
            s.releaseItem e (fun h => { h with quota := false }) { quota := true }
        else s)

/-- FROZEN_LIST_RELEASE (R298): the check starts again for each source. While the drain of a thaw with DISCARD runs nothing is released
(R299). -/
def execFrozenListRelease (i : ByCluster (Fin 512)) (s : State) : Host.Outcome State Fault Refusal :=
  let x := s.ctx i.item.val
  .next (if s.repairing (.frozen i.item) || x.frozen || x.drain then s
    else match x.frozenList with
      | [] => s
      | e :: _ =>
        if s.worksOn e then
          s.byCluster i.cluster.val i.waiting i.item.val fun s => s.releaseItem e (fun _ => {}) {}
        else s)

/-! ### Switch work (R262, R263) -/

/-- Switch work of `t` goes on at a step. -/
def State.switchTo (s : State) (t k : Nat) : State :=
  s.onTgt t fun c => { c with switching := c.switching.map fun w => { w with step := k } }

/-- DORMANT is added to an event that a step moves. -/
def State.makeDormant (s : State) (e : Nat) : State :=
  s.engineAt e fun s => s.addReason e fun h => { h with dormant := true }

/-- One event of the switch work of target `t`, or its passage to the next step. Step 1 ends when the withdrawal that it
started has resolved: until SWITCHING reads 0 the core may take the event (R263). -/
def State.switchStep (s : State) (t : Nat) (w : SwitchWork) : State :=
  let c := s.tgt t
  if w.gen != (s.ctx w.inst).parity then s.onTgt t fun c => { c with switching := none }
  else if w.step = 1 then
    match c.pres with
    | some e => if (s.source e).held.dormant then s else if s.foreign t e then s.makeDormant e else s.switchTo t 2
    | none => s.switchTo t 2
  else if w.step = 2 then
    match s.walkNext t with
    | some e => s.makeDormant e
    | none => s.switchTo t 3
  else
    match c.dormList c.resInst with
    | e :: _ => s.releaseItem e (fun h => { h with dormant := false }) { dormant := true }
    | [] => s.onTgt t fun c => { c with switching := none }

/-- The source at which the switch work acts next. -/
def State.switchSource (s : State) (t : Nat) (w : SwitchWork) : Option Nat :=
  let c := s.tgt t
  if w.step = 1 then c.pres else if w.step = 2 then s.walkNext t else (c.dormList c.resInst).head?

/-- A list that a step of the switch work of `t` goes through is under repair (R148). -/
def State.switchBlocked (s : State) (t : Nat) (w : SwitchWork) : Bool :=
  s.repairs.any fun l => match l with
    | .level u _ => decide (w.step = 2) && u.val == t
    | .dormant u i => decide (w.step = 3) && u.val == t && i.val == (s.tgt t).resInst
    | _ => false

/-- Switch work goes on when it holds its pool cell, which it takes first (R126). It waits for the scan of R146, which makes the
queues and lists again that it goes through (R147). -/
def State.switchRun (s : State) (x : ByCluster (Fin 1024)) (w : SwitchWork) : State :=
  let t := x.item.val
  if s.scanning || s.switchBlocked t w || !((s.switchSource t w).all s.worksOn) then s
  else
    match w.cell with
    | none =>
      match s.freePool with
      | none => s
      | some n => (s.useCell n).onTgt t fun x => { x with switching := some { w with cell := some n } }
    | some _ => s.byCluster x.cluster.val x.waiting w.inst fun s => (s.wake .engineWork).switchStep t w

/-- SWITCH_WORK_STEP (R262). -/
def execSwitchWorkStep (t : ByCluster (Fin 1024)) (s : State) : Host.Outcome State Fault Refusal :=
  .next (if s.isHeld 5 || s.isHeld 2 || decide (2 ≤ s.pwr.rung) then s
    else match (s.tgt t.item.val).switching with
      | none => s
      | some w => s.switchRun t w)

/-! ### Work items (R417) -/

/-- The sources with a work item that an engine may have in hand: those whose placing or count is due, and those at which a
release or switch work acts next. -/
def State.workItems (s : State) : List Nat :=
  (s.src.filter fun p => s.due p.1).map (·.1) ++ s.counts.map (·.eid) ++
  s.groups.flatMap (fun p => p.2.batches.filterMap (·.members.head?)) ++
  s.insts.flatMap (fun p => p.2.quotaList.take 1 ++ p.2.frozenList.take 1) ++
  s.tgts.filterMap (fun p => p.2.switching.bind (s.switchSource p.1))

end Sys2Proof.Machine
end

