-- ==== Sys2Proof/Machine/Ranking.lean ====
section
/-! DEFINITION. The ranker and the repairs as commands (R148, R154 to R160, R186 to R190, R214). -/
namespace Sys2Proof.Machine

/-! ### Ranked levels (R148, R154) -/

/-- Level `p` of the set of `t` is ranked: no list repair withholds it. -/
def State.ranked (s : State) (t p : Nat) : Bool := !s.repairing (.level (Fin.ofNat 1536 t) (Fin.ofNat 64 p))

/-- In FAILSAFE only presentable events are shown (R491). -/
def State.mayShow (s : State) (e : Nat) : Bool := s.mode.mode != .failsafe || presentable e

/-- The head of the best level of the set of `t` that the bitmap shows occupied and that `ok` admits, with the level (R154). -/
def State.headOfBest (s : State) (t : Nat) (ok : Nat → Bool) : Option (Nat × Nat) :=
  let c := s.tgt t
  match (List.range 64).find? fun p => c.bits.testBit p && s.ranked t p && ok p with
  | none => none
  | some p => ((c.level p).head?.filter s.mayShow).map fun e => (p, e)

/-- The winner of the set of `t` with its level (R154). -/
def State.winnerOf (s : State) (t : Nat) : Option (Nat × Nat) := s.headOfBest t fun _ => true

/-- The offerable winner of a far set with its level (R214). -/
def State.offerable (s : State) (t : Nat) : Option (Nat × Nat) :=
  s.headOfBest t fun p => (s.tgt t).far.auto || !(s.tgt t).far.inserv.testBit p

/-- What upsets the ranker's copies takes effect (R159). -/
def Tgt.upset (c : Tgt) (u : RankUpset) : Tgt :=
  match u with
  | .none => c
  | .bit p => { c with bits := putBit c.bits p.val (!c.bits.testBit p.val) }
  | .counter p v => { c with counts := tset (fun _ => 0) c.counts p.val v.val }

/-! ### A disagreement (R160, R182) -/

/-- The two ranking paths disagree: recorded and reported, and a queue repair starts; the target becomes FAULTED when it is the
second in the walk or at the first decision after it. -/
def State.disagree (s : State) (t : Nat) : State :=
  let k := s.rank
  let second := (s.tgt t).repair || (s.tgt t).repairFresh
  let s := { s with rank := { k with
    cmpTarget := if k.cmpMismatch then k.cmpTarget else t, cmpMismatch := true, cmpCount := sat 255 (k.cmpCount + 1),
    cmpSeq := seqUp k.cmpSeq } }
  let s := s.onTgt t fun c => { c with repairFresh := false }
  let s := s.startRepair t
  let s := if second then s.faultTarget t 3 else s
  (s.report 5 1 (pack [(0, t), (11, bn second)])).settleMode

/-! ### A decision (R154 to R158, R190, R214) -/

/-- The offer of the winner at a nib target; one of a retired generation ends instead (R102, R274). -/
def State.offerNib (s : State) (t e : Nat) : State :=
  if s.isStale e then s.atBank e id else (s.present t e).commit e (s.source e)

/-- The preemption of the event `x` that stands at a target (R106, R157): the stale discard comes first. -/
def State.preempt (s : State) (x : Nat) : State :=
  let r0 := s.source x
  let s := s.staleFirst x
  (if (s.source x).place == .presented then s.startWithdrawal x .preemption else s).commit x r0

/-- The winner at a nib target (R155 to R157, R190): an offer where nothing but the blot stands, a preemption of a
worse event. -/
def State.decideNib (s : State) (t : Nat) : State :=
  let c := s.tgt t
  match s.winnerOf t with
  | none => s
  | some (q, e) =>
    if !decide (q < c.runEff) || c.wdrBusy || c.port.takenCut then s
    else
      match c.pres with
      | none => if s.canOffer t && !s.isIdle 7 then s.offerNib t e else s
      | some x =>
        if x != e && decide (q < c.presLevel) && s.canOffer t && !s.isIdle 7 then s.preempt x else s

/-- A better level with its INSERV bit 0 at a far set whose write stands ready, whatever AUTO (R214). -/
def State.decideFar (s : State) (t : Nat) : State :=
  match (s.tgt t).pres, s.headOfBest t (fun p => !(s.tgt t).far.inserv.testBit p) with
  | some x, some (q, _) =>
    if !(s.tgt t).wdrBusy && decide (q < (s.source x).prio) then s.preempt x else s
  | _, _ => s

/-- The comparison of a decision agrees: the first decision after a repair is past, and the run of the stage ends (R160, R450). -/
def State.agreed (s : State) (t : Nat) : State := (s.onTgt t fun c => { c with repairFresh := false }).stageOk 5 t

/-- A decision whose comparison agrees is used (R155 to R159). -/
def State.useDecision (s : State) (t : Nat) : State :=
  let s := s.agreed t
  if t < 1024 then s.decideNib t else s.decideFar t

/-- RANK_DECISION (R154, R159, R160): the comparison after what upsets the ranker's copies. A set under repair is not ranked, and
the walk can only find it upset again. -/
def execRankDecision (t : Fin 1536) (upset : RankUpset) (s : State) : Host.Outcome State Fault Refusal :=
  .next (if s.isIdle 4 || s.isHeld 2 || decide (2 ≤ s.pwr.rung) || (s.tgt t.val).svc != .online || !s.presents ||
      ((s.tgt t.val).repair && upset == .none) then s
    else
      let s := s.onTgt t.val fun c => c.upset upset
      if !(s.tgt t.val).agrees then s.disagree t.val
      else if (s.tgt t.val).repair then s
      else s.useDecision t.val)

/-! ### Queue repair (R160) -/

/-- QUEUE_REPAIR_COMPLETE (R160): the walk makes the bitmap and the counters again from the queues; each level in which it found a
broken link gets the list repair of R148. -/
def execQueueRepairComplete (t : WalkedQueues) (s : State) : Host.Outcome State Fault Refusal :=
  .next (if s.isHeld 4 || s.isHeld 2 || !(s.tgt t.target.val).repair then s
    else
      let s := s.onTgt t.target.val fun c => { c.recount with repair := false, repairFresh := true }
      forEach t.broken (fun p s => s.startListRepair (.level t.target p)) s)

end Sys2Proof.Machine
end

