-- ==== Sys2Proof/Machine/Far.lean ====
section
/-! DEFINITION. Far delivery as commands (R60, R213 to R224, R228): offers, credits, transfers and stall timers. -/
namespace Sys2Proof.Machine

/-! ### The write (R213) -/

/-- The write that the event of record `r` forms at far settings `f`, at channel time `now`. It keeps the settings of its stall timer
(R212, R218). -/
def Far.form_ (f : Far) (r : SrcRec) (e block now : Nat) : FarWrite :=
  let sum := (f.msgData.toNat + r.vector) % 2 ^ 32
  let dw0 := if f.form = 0 then sum
    else if f.form = 1 then pack [(0, e), (20, r.prio)]
    else pack [(0, sum % 2 ^ 16), (24, block)]
  { eid := e, level := r.prio, inst := r.inst, addr := f.msgAddr, len := if f.form = 0 then 1 else 2, dw0 := w32 dw0,
    dw1 := if f.form = 0 then 0 else r.payload, tc := f.tc, relay := f.form == 2, auto := f.auto, altMask := f.altMask,
    retryMax := f.retryMax, stallLimit := f.stallLimit, offered := now }

/-! ### Offers (R214, R218, R222) -/

/-- An offer counts as a wake candidate after an idle gap (R222). -/
def Far.idleGap (f : Far) (tick : Nat) : Bool :=
  f.linkIdle != 0 && (f.never || decide (f.linkIdle * 256 ≤ (tick + 2 ^ 32 - f.lastXfer % 2 ^ 32) % 2 ^ 32))

/-- A stall timer runs after an offer: both settings are non-zero and the limit is not reached (R218). -/
def Far.timed (f : Far) : Bool := f.stallLimit != 0 && f.retryMax != 0 && decide (f.tries < f.retryMax)

/-- The offer of event `e` at far target `t` with a pool cell for its stall timer (R214, R219). A moved event goes to its next channel and stays the wake candidate
that it was (R218, R222). -/
def State.offer (s : State) (t e cell : Nat) : State :=
  let c := s.tgt t
  let r := s.source e
  let q := wrap 8 (c.pseq + 1)
  let moved := c.far.moveTo.filter fun m => m.1 == e
  let s := s.onSource e fun r => { r with place := .presented, shownAt := some (t, q) }
  let s := s.onTgt t fun c => { c with pseq := q, pres := some e }
  let s := s.onFar t fun f => { f with
    ready := some (f.form_ r e s.strap.blockNum s.now), atChan := (moved.map (·.2)).getD f.chan, moveTo := none,
    wakeCand := if moved.isSome then f.wakeCand else f.idleGap s.tick,
    wakeSince := if moved.isSome then f.wakeSince else s.tick,
    retryPseq := q, retryGen := (s.ctx r.inst).parity, retryCell := cell, cellWait := none }
  let s := if c.far.timed then (s.useCell cell).onFar t fun f => f.startTimer s.tick else s
  s.commit e r

/-- The offer of event `e`; one of a retired generation ends instead (R102, R274). An offer whose stall timer finds no free pool cell
waits, which is counted once for the event (R126, R379). -/
def State.offerFar (s : State) (t e : Nat) : State :=
  let f := (s.tgt t).far
  let key := some (e, (s.source e).stamp)
  if s.isStale e then s.atBank e id
  else if !f.timed then s.offer t e 0
  else match s.freePool with
    | some n => s.offer t e n
    | none => if f.cellWait = key then s else s.poolWaits.onFar t fun f => { f with cellWait := key }

/-- FAR_OFFER (R159, R214): the decision is compared as any other. -/
def execFarOffer (j : Fin 512) (s : State) : Host.Outcome State Fault Refusal :=
  let t := 1024 + j.val
  let c := s.tgt t
  .next (if s.isIdle 4 || s.isHeld 2 || s.isIdle 8 || !s.farOpen || decide (2 ≤ s.pwr.rung) || c.svc != .online || c.repair ||
      c.wdrBusy || c.pres.isSome || !s.presents then s
    else match s.offerable t with
      | none => s
      | some (_, e) =>
        if !c.agrees then s.disagree t
        else (s.agreed t).offerFar t e)

/-! ### Channels (R60, R215, R216) -/

/-- FAR_CREDIT (R60, R137). -/
def execFarCredit (f : Fin 4) (s : State) : Host.Outcome State Fault Refusal :=
  .next (if !s.farOpen then s
    else if 32 ≤ (s.farChan f.val).credits then s.report 0x10 1 (pack [(0, f.val), (4, 1)])
    else s.onFarChan f.val fun c => { c with credits := c.credits + 1, granted := c.granted + 1 })

/-- The writes that stand ready at channel `f`, by target. -/
def State.readyList (s : State) (f : Nat) : List (Nat × FarWrite) :=
  s.tgts.filterMap fun p =>
    match p.2.far.ready with
    | some w => if p.2.far.atChan = f then some (p.1, w) else none
    | none => none

/-- The round robin of R215: the deficit counters and the instance that sends. Instances `all` have ready writes at the
channel, `here` at the level; the counters of the others are set to 0 as the channel chooses (assumption log 85). -/
def FarChan.turn (c : FarChan) (weight : Nat → Nat) (all here : List Nat) : FarChan :=
  let r := robin c.deficit c.visit weight all here
  { c with deficit := r.1, visit := r.2 }

/-- The write that channel `f` sends next, with the deficit counters after it (R215). -/
def State.nextWrite (s : State) (f : Nat) : Option (Nat × FarWrite × FarChan) :=
  let ws := s.readyList f
  match leastOf (fun _ => true) (ws.map (·.2.level)) with
  | none => none
  | some p =>
    let here := ws.filter fun w => w.2.level == p
    let c := (s.farChan f).turn (fun i => (s.ctx i).weight) (ws.map (·.2.inst)) (here.map (·.2.inst))
    let mine := here.filter fun w => w.2.inst == c.visit
    match leastOf (fun _ => true) (mine.map (·.2.offered)) with
    | none => none
    | some o => (mine.find? fun w => w.2.offered == o).map fun w => (w.1, w.2, c)

/-- Bin of the far-link wake histogram (R470). -/
def wakeBin (w : Nat) : Nat := if w < 256 then 0 else min 23 (Nat.log2 w - 7)

/-- The wait of a wake candidate enters the histogram at its take (R222, R470). -/
def State.wakeWait (s : State) (f : Far) : State :=
  if f.wakeCand then
    { s with rcd := { s.rcd with work := { s.rcd.work with
        wake := binUp s.rcd.work.wake (wakeBin (s.tick - f.wakeSince)) } } }
  else s

/-- The transfer of the ready write of far target `t` (R216, R228): the take of its event, or the answer to its
withdrawal (R114). -/
def State.transfer (s : State) (t : Nat) (w : FarWrite) : State :=
  let f := (s.tgt t).far
  let q := (s.tgt t).pseq
  let s := s.wakeWait f
  let s := s.onFar t fun f => { f with ready := none, tries := 0, lastXfer := s.tick, never := false, retryDue := none,
                                       wakeCand := false, moveTo := none, taking := w.auto }
  let s : State := if w.relay then { s with ldg := { s.ldg with relaySent := wrap 32 (s.ldg.relaySent + 1) } } else s
  s.atBank w.eid fun s =>
    if (s.source w.eid).place == .presented then (s.clearTarget t false).takeNow t w.eid q
    else s.onPort t fun p => { p with taken := true }

/-- FAR_WRITE_TRANSFER (R215, R216). A take whose bank opens only restricted rounds waits (R105). -/
def execFarWriteTransfer (f : Fin 4) (s : State) : Host.Outcome State Fault Refusal :=
  .next (if !s.farOpen || !s.fabOn || s.isHeld 2 || (s.farChan f.val).credits == 0 then s
    else match s.nextWrite f.val with
      | none => s
      | some (t, w, c) =>
        if s.bankFull w.eid && !s.withdrawing w.eid then s
        else
          let s := s.onFarChan f.val fun _ => { c with credits := c.credits - 1, sentCount := c.sentCount + 1 }
          (s.transfer t w).stageOk 7 f.val)

/-! ### Stall timers (R218, R219) -/

/-- The next channel of ALT_MASK above `c`, wrapping from 3 to 0 (R218). -/
def nextChan (mask c : Nat) : Option Nat := ([1, 2, 3].map fun k => (c + k) % 4).find? fun k => mask.testBit k

/-- An expiry with the write `w` still ready, under the settings with which it was formed (R212, R218). Where its ALT_MASK names no other
channel the timer starts again; a write that is being withdrawn already does not move. -/
def State.stallExpire (s : State) (t e due : Nat) (w : FarWrite) : State :=
  let f := (s.tgt t).far
  let tries := sat 15 (f.tries + 1)
  let s := s.onFar t fun f => { f with tries := tries, moves := sat 255 (f.moves + 1), seq := seqUp f.seq, retryDue := none }
  let s := if tries = w.retryMax then (s.onFar t fun f => { f with limit := true }).raiseHouse 21 else s
  if s.withdrawing e then s
  else match nextChan w.altMask f.atChan with
    | some k => (s.onFar t fun f => { f with moveTo := some (e, k) }).preempt e
    | none => if tries < w.retryMax then s.onFar t fun f => f.startTimer due else s

/-- STALL_TIMER_EXPIRY (R218, R219): a work item of the event's instance (R267). A retry cell of a retired generation is freed without
acting (R273). -/
def execStallTimerExpiry (j : ByCluster (Fin 512)) (s : State) : Host.Outcome State Fault Refusal :=
  let t := 1024 + j.item.val
  let f := (s.tgt t).far
  .next (if s.isHeld 8 || !s.engineOn || s.pwr.rung != 0 || !s.tb.good then s
    else match f.retryDue, (s.tgt t).pres with
      | some due, some e =>
        if s.tick < due then s
        else match f.ready with
          | none => s.onFar t fun f => { f with retryDue := none }
          | some w =>
            if f.retryPseq != (s.tgt t).pseq || f.retryGen != (s.ctx (s.source e).inst).parity then
              s.onFar t fun f => { f with retryDue := none }
            else s.byCluster j.cluster.val j.waiting (s.source e).inst fun s => s.stallExpire t e due w
      | some due, none => if s.tick < due then s else s.onFar t fun f => { f with retryDue := none }
      | none, _ => s)

end Sys2Proof.Machine
end

