-- ==== Sys2Proof/Machine/Sweeps.lean ====
section
/-! DEFINITION. Sweeps and scans as commands (R146 to R149, R166, R257, R271, R273, R282, R285, R435, R489, R491): one
step at one record of a bank, and the completions. -/
namespace Sys2Proof.Machine

/-! ### Which sweeps advance -/

/-- Mode in which sweeps other than the scans advance: they resume when REBUILD completes (R415). -/
def Mode.sweeps : Mode → Bool
  | .start | .service | .test | .recovery | .quiesce | .failsafe => true
  | _ => false

/-- The sweep advances now. -/
def State.sweepRuns (s : State) (n : SweepName) : Bool :=
  !s.isHeld 2 && decide (s.pwr.rung < 2) &&
  (match n with
   | .rebuild => s.mode.mode == .rebuild || s.mode.mode == .failsafe
   | .rescan => s.mode.mode.sweeps && !s.isHeld 5
   | .park => s.pwr.parking && s.rst.drainStart.isNone
   | _ => s.mode.mode.sweeps)

/-- A change of the sweep of one name. -/
def State.onSweep (s : State) (n : SweepName) (f : Sweep → Sweep) : State :=
  { s with sweeps := s.sweeps.map fun w => if w.name == n then f w else w }

/-! ### The REBUILD scan at one record (R146) -/

/-- A held source is linked on its list; a member of a running batch stays in it. DORM_COUNT stands (R121). A group whose bypass
target reports idle releases (R245). -/
def State.relinkHeld (s : State) (e : Nat) : State :=
  let r := s.source e
  match r.held.first with
  | some .dormant => s.onTgt r.target fun c => c.onDorm r.inst (· ++ [e])
  | some .moderated => if (s.grp r.group).batches.any fun b => b.members.contains e then s
    else (s.linkHeld e).bypass r.group
  | _ => s.linkHeld e

/-- The target still holds the vector of a presented event (R146). The scan that follows a reset of D5 finds what D7 and
D8 hold in place. -/
def State.holdsVector (s : State) (t e : Nat) (warm : Bool) : Bool :=
  let c := s.tgt t
  c.pres == some e &&
  (if 1024 ≤ t then !warm && c.far.ready.isSome
   else if c.path then c.held
   else if s.isNib2 t then (if warm then c.port.confirmed else c.held)
   else (c.port.req && c.port.eid == e) || (c.port.due.any fun x => x.eid == e) || c.port.takenCut)

/-- The cell of source `e` is placed and counted (R127, R149). -/
def State.countCell (s : State) (e : Nat) : State :=
  s.onCtx (s.source e).inst fun i => { i with cellsPlaced := i.cellsPlaced + 1 }

/-- The cell of a presented event, the first of its level. -/
def State.linkHead (s : State) (t p e : Nat) : State := s.onTgt t fun c => c.putLevel p (e :: c.level p)

/-- An event whose PLACE is queued is linked where the target's state requires; FAILSAFE leaves what is not presentable
unplaced (R146, R491). -/
def State.requeue (s : State) (e : Nat) : State :=
  if s.mayShow e then (s.onSource e fun r => { r with place := .unplaced }).enqueue e
  else s.onSource e fun r => { r with place := .unplaced }

/-- The scan at the record of source `e` (R146). -/
def State.scanRecord (s : State) (e : Nat) (warm : Bool) : State :=
  let r0 := s.source e
  let t := r0.serving
  let s : State :=
    match r0.st, r0.place with
    | .pending, .unplaced =>
      if r0.held.any then s.relinkHeld e else (s.dueRefills r0.inst r0.stamp).queueOrHold e {}
    | .pending, .queued => s.requeue e
    | .pending, .presented =>
      if s.holdsVector t e warm then
        let s := (s.linkHead t r0.prio e).countCell e
        if s.mayShow e then s else s.startWithdrawal e .hold
      else (s.clearTarget t false).requeue e
    | .pending, .withdrawing => ((s.linkHead t r0.prio e).countCell e).startWithdrawal e r0.wcause
    | _, _ => s
  (s.commit e r0).restoreCell e

/-! ### List repair at one record (R148) -/

/-- The list that the record of `e` places it on (R130, R148). -/
def State.listOf (s : State) (e : Nat) : Option ListName :=
  let r := s.source e
  if r.placed then some (.level (Fin.ofNat 1536 r.serving) (Fin.ofNat 64 r.prio))
  else if r.st != .pending then none
  else
    match r.held.first with
    | none => none
    | some .frozen => some (.frozen (Fin.ofNat 512 r.inst))
    | some .dormant => some (.dormant (Fin.ofNat 1024 r.target) (Fin.ofNat 512 r.inst))
    | some .moderated => some (.moderated (Fin.ofNat 65536 r.group))
    | some .rate => some (.rate (Fin.ofNat 512 r.inst))
    | some .quota => some (.quota (Fin.ofNat 512 r.inst))

/-- The source stands on the list already. -/
def State.listed (s : State) (l : ListName) (e : Nat) : Bool :=
  (match l with
   | .level t k => (s.tgt t.val).level k.val
   | .frozen i => (s.ctx i.val).frozenList
   | .dormant t i => (s.tgt t.val).dormList i.val
   | .moderated g => (s.grp g.val).held ++ (s.grp g.val).batches.flatMap fun b : Batch => b.members
   | .rate i => (s.ctx i.val).rateList
   | .quota i => (s.ctx i.val).quotaList).contains e

/-- A list repair at the record of source `e`: an event that the record places on the list is linked at its tail, and one that
stands at the target at its head. -/
def State.repairRecord (s : State) (l : ListName) (e : Nat) : State :=
  let r := s.source e
  if s.listOf e != some l || s.listed l e then s
  else match l with
    | .level t k => if r.place == .queued then s.linkTail t.val k.val e else s.linkHead t.val k.val e
    | _ => s.relinkHeld e

/-! ### The other sweeps at one record -/

/-- The destroy sweep (R257): a source of `i` becomes DISABLED in VI 0; what a reverted restore left in it is ended
(R296). -/
def State.destroyRecord (s : State) (i e : Nat) : State :=
  let r0 := s.source e
  if r0.inst != i then s
  else
    let s := if r0.pend then s.endPending e .disabled (if r0.inService then .active else .inactive) else s
    let s := if (s.source e).inService then s.endActive e else s
    let s := (s.guestOut r0.target i).onSource e fun r =>
      { r with en := false, drain := false, groupEn := false, inst := 0 }
    let s := s.commit e r0
    if r0.drain then s.sourceReplies e else s

/-- The instance drain (R271): as a disable, with EN and DRAIN of the source left alone. -/
def State.drainRecord (s : State) (i e : Nat) : State :=
  let r0 := s.source e
  if r0.inst != i then s
  else
    let s : State :=
      match r0.st, r0.place with
      | .pending, .presented => s.startWithdrawal e .disable
      | .pending, .withdrawing => if r0.wcause.unit.isSome then s else s.putSource e { r0 with wcause := .disable }
      | .pending, _ => s.endPending e .disabled .inactive
      | .activePending, _ => s.endPending e .disabled .active
      | _, _ => s
    (s.drainCheck e).commit e r0

/-- The stale sweep (R273). -/
def State.staleRecord (s : State) (i e : Nat) : State :=
  let r0 := s.source e
  if r0.inst == i && s.isStale e then (s.discardStale e).commit e r0 else s

/-- The sweep of a park entry (R435): every event ends as by a reset. -/
def State.parkRecord (s : State) (e : Nat) : State :=
  let r0 := s.source e
  let s := if r0.pend then s.endPending e .reset (if r0.inService then .active else .inactive) else s
  let s := if (s.source e).inService then s.endActive e else s
  s.commit e r0

/-- The FAILSAFE sweep (R491). -/
def State.failsafeRecord (s : State) (e : Nat) : State :=
  let r0 := s.source e
  if presentable e then s
  else
    let s : State :=
      match r0.place with
      | .unplaced => s
      | .queued => s.freeCell e
      | .presented => s.startWithdrawal e .hold
      | .withdrawing => if r0.wcause == .preemption then s.putSource e { r0 with wcause := .hold } else s
    s.commit e r0

/-- What a sweep changes at the record of source `e`. -/
def State.sweepRecord (s : State) (n : SweepName) (e : Nat) : State :=
  match n with
  | .audit => s
  | .rebuild => s.scanRecord e true
  | .rescan => s.scanRecord e false
  | .park => s.parkRecord e
  | .failsafe => s.failsafeRecord e
  | .taker t => s.takerLost e t.val
  | .destroy i => s.destroyRecord i.val e
  | .drain i => s.drainRecord i.val e
  | .stale i => s.staleRecord i.val e
  | .freeze i => if (s.source e).inst == i.val then s.addReason e (fun h => { h with frozen := true }) else s
  | .prepare _ => s
  | .repair l => s.repairRecord l e

/-- What a sweep notes of a record: pending sources by owner (R135), the sources of a husk (R285), what a park loses. -/
def State.sweepNote (s : State) (e : Nat) (w : Sweep) : Sweep :=
  let r := s.source e
  let up := fun (w : Sweep) (k : Nat) => { w with tally := tset (fun _ => 0) w.tally k (tget (fun _ => 0) w.tally k + 1) }
  match w.name with
  | .audit | .rebuild | .rescan => if r.pend then up w r.inst else w
  | .prepare i =>
    let delta := match s.cmd.cdw.xfer with
      | some (.huskOut h) => h.delta
      | _ => false
    if s.carries i.val e delta then { w with found := addOnce e w.found } else w
  | .park =>
    let w := if r.pend then up w 0 else w
    if r.inService then up w 1 else w
  | _ => w

/-- One step of a sweep in one bank (R489): the next record of the bank, in ascending EID order. A park notes the record
before it ends its events; a counting sweep counts the record as it leaves it. -/
def State.sweepStep (s : State) (n : SweepName) (bank : Nat) : State :=
  match s.sweeps.find? (·.name == n) with
  | none => s
  | some w =>
    let pos := tget (fun _ => 0) w.pos bank
    if bankRecords ≤ pos then s
    else
      let e := 64 * pos + bank
      let s := if n == .park then s.onSweep n (fun w => s.sweepNote e w) else s
      let s := s.sweepRecord n e
      let s := if n == .park then s else s.onSweep n (fun w => s.sweepNote e w)
      s.onSweep n fun w => { w with pos := tset (fun _ => 0) w.pos bank (pos + 1) }

/-- SWEEP_STEP (R489). -/
def execSweepStep (k : SweepName) (bank : Fin 64) (s : State) : Host.Outcome State Fault Refusal :=
  .next (if s.sweepRuns k then s.sweepStep k bank.val else s)

/-! ### Completions -/

/-- Result word of TGT_STATE (R333). -/
def State.targetWord (s : State) (t : Nat) : List (BitVec 64) :=
  let c := s.tgt t
  [w64 (pack [(0, c.svc.code), (2, c.fcause), (6, bn c.onlineDefer), (7, bn c.sweep)])]

/-- TAKER_SWEEP_COMPLETE (R165, R166). -/
def execTakerSweepComplete (t : Fin 1536) (s : State) : Host.Outcome State Fault Refusal :=
  let c := s.tgt t.val
  .next (if !s.sweepDone (.taker t) || c.wdrBusy then s
    else
      let s := (s.endSweep (.taker t)).onTgt t.val fun c => { c with sweep := false }
      let s : State := if c.onlineDefer then s.goOnline t.val
        else if c.svc == .draining then s.onTgt t.val fun c => { c with svc := .offline } else s
      s.objectReplies (.targetOnline t.val) (.targetOffline t.val) 2 t.val fun s => s.targetWord t.val)

/-- DESTROY_SWEEP_COMPLETE (R257, R296): a revert clears VALID of the translation entries that the restore wrote. -/
def execDestroySweepComplete (i : Fin 512) (s : State) : Host.Outcome State Fault Refusal :=
  let c := s.ctx i.val
  .next (if !s.sweepDone (.destroy i) then s
    else
      let s := s.endSweep (.destroy i)
      let s := forEach ((s.pages.map (·.1)).filter fun p => decide (c.pageBase ≤ p) && decide (p < c.pageBase + c.pageCount))
        (fun p s => s.putPage p { s.page p with valid := false }) s
      let s := forEach ((s.groups.filter fun g => g.2.inst == i.val).map (·.1))
        (fun g s => s.onGrp g fun x => { x with en := false, drain := false, inst := 0, open_ := false, count := 0 }) s
      let s := forEach ((s.tgts.filter fun t => t.2.resInst == i.val).map (·.1))
        (fun t s => s.onTgt t fun x => { x with resInst := 0 }) s
      let s := s.putCtx i.val { c with created := false, en := false, drain := false, frozen := false, phase := .thawed,
                                       restored := false, corrupt := false, saving := false }
      let s := s.finishWork (.instDestroy i.val) 0 []
      match s.cmd.reverts.find? (fun h => h.inst == i.val) with
      | none => s
      | some h =>
        let s := { s with cmd := { s.cmd with reverts := s.cmd.reverts.filter fun h => h.inst != i.val } }
        let d := huskHead h.words
        let n := min h.words.length d.groupAt - d.transAt
        let s := forEach ((s.trans.map (·.1)).filter fun k => decide (h.transBase ≤ k) && decide (k < h.transBase + n))
          (fun k s => s.putTrans k { s.transEntry k with valid := false }) s
        match h.failed with
        | none => s
        | some (st, idx) => s.finishWork (.restore i.val) st [w64 idx])

/-! ### Drains and generations of instances (R270 to R273) -/

/-- A pool cell of instance `i` is in use: a batch, a splice, a retry or a relay record (R126, R271, R282). -/
def State.poolWork (s : State) (i : Nat) : Bool :=
  (s.groups.any fun g => g.2.inst == i && !g.2.batches.isEmpty) ||
  (s.tgts.any fun t => (match t.2.switching with
      | some w => w.inst == i
      | none => false) ||
    (t.2.far.retryDue.isSome && (match t.2.pres with
      | some e => (s.source e).inst == i
      | none => false))) ||
  ((s.parked ++ s.waiting).any fun p => match p.2 with
    | .pulse _ _ f => f.relay && f.owner == some i
    | _ => false)

/-- Some source of `i` is not Inactive, or its withdrawal is in progress. -/
def State.busySources (s : State) (i : Nat) : Bool := s.src.any fun p => p.2.inst == i && (p.2.st != .inactive || p.2.placed)

/-- The generation advances (R272): OLD_GEN is set while items of the old one remain, which a stale sweep then ends. -/
def State.newGeneration (s : State) (i : Nat) : State :=
  let old := s.busySources i || s.poolWork i
  let s := s.onCtx i fun c => { c with gen := wrap 8 (c.gen + 1), oldGen := old }
  if old then s.startSweep (.stale (Fin.ofNat 512 i)) else s

/-- The drain of instance `i` is complete: ENABLED with a new generation, or DISABLED (R270, R299). -/
def State.instDrained (s : State) (i : Nat) : State :=
  let on := (s.ctx i).en
  let s := s.onCtx i fun c => { c with drain := false }
  let s := if on then s.newGeneration i else s
  (s.objectReplies (.instEnable i) (.instDisable i) 3 i).finishWork (.thawDiscard i) 0 []

/-- INSTANCE_DRAIN_COMPLETE (R271). An enable that waits needs OLD_GEN 0 (R272). -/
def execInstanceDrainComplete (i : Fin 512) (s : State) : Host.Outcome State Fault Refusal :=
  .next (if !s.sweepDone (.drain i) || s.busySources i.val || s.poolWork i.val || ((s.ctx i.val).en && (s.ctx i.val).oldGen) then s
    else (s.endSweep (.drain i)).instDrained i.val)

/-- The pool cells of the retired generation of `i` are freed without acting (R249, R273); the banks that lose parked orders by it go on
(R105). -/
def State.freeStalePool (s : State) (i : Nat) : State :=
  let g := (s.ctx i).parity
  let s := forEach ((s.groups.filter fun p => p.2.inst == i).map (·.1))
    (fun k s => (s.onGrp k fun c => { c with batches := c.batches.filter fun b => b.gen == g }).groupDrained k) s
  let s := forEach (s.tgts.map (·.1)) (fun t s => s.onTgt t fun c =>
    { c with switching := c.switching.filter fun w => w.inst != i || w.gen == g }) s
  let stale := fun (o : Order) => match o with
    | .pulse _ _ f => f.relay && f.owner == some i && f.gen != g
    | _ => false
  let es := (s.parked.filter fun p => stale p.2).map (·.1)
  forEach es (fun e s => s.unpark e) { s with
    parked := s.parked.filter fun p => !stale p.2
    waiting := s.waiting.filter fun p => !stale p.2
    relays := s.relays.filter fun c => c.gen == g || !((s.parked ++ s.waiting).any fun p => p.1 == 0x1000 + c.mid && stale p.2) }

/-- STALE_SWEEP_COMPLETE (R270, R273): OLD_GEN clears; an enable that waited for it takes effect. -/
def execStaleSweepComplete (i : Fin 512) (s : State) : Host.Outcome State Fault Refusal :=
  let g := (s.ctx i.val).parity
  .next (if !s.sweepDone (.stale i) ||
      (s.src.any fun p => p.2.inst == i.val && p.2.place == .withdrawing && p.2.gen != g) then s
    else
      let s := (s.endSweep (.stale i)).freeStalePool i.val
      let s := s.onCtx i.val fun c => { c with oldGen := false }
      let s := s.finishWork (.instReset i.val) 0 []
      if (s.ctx i.val).drain && !s.sweeping (.drain i) then s.instDrained i.val else s)

/-- FREEZE_COMPLETE (R282). -/
def execFreezeComplete (i : Fin 512) (s : State) : Host.Outcome State Fault Refusal :=
  .next (if !s.sweepDone (.freeze i) || s.poolWork i.val || (s.src.any fun p => p.2.inst == i.val && p.2.placed) then s
    else ((s.endSweep (.freeze i)).onCtx i.val fun c => { c with phase := .frozen }).finishWork (.freeze i.val) 0 [])

/-- LIST_REPAIR_COMPLETE (R148). A release that waited for the repair is made, and a group whose bypass target reports idle releases
(R245). -/
def execListRepairComplete (l : ListName) (s : State) : Host.Outcome State Fault Refusal :=
  .next (if s.isHeld 2 || !s.sweepDone (.repair l) then s
    else
      let s := s.endSweep (.repair l)
      match l with
      | .moderated g =>
        let k := (s.grp g.val).owed
        (if k = 0 then s.bypass g.val else s.releaseNow g.val k).groupDrained g.val
      | _ => s)

/-- PREPARE_SWEEP_COMPLETE (R285, R293, R335): the husk's sections are fixed, HSEQ moves on, and the window opens. -/
def execPrepareSweepComplete (i : Fin 512) (s : State) : Host.Outcome State Fault Refusal :=
  .next (match s.sweeps.find? (fun w => w.name == .prepare i), s.cmd.cdw.xfer with
    | some w, some (.huskOut h) =>
      if !w.complete || h.inst != i.val then s
      else
        let s := (s.endSweep (.prepare i)).onCtx i.val fun c => { c with hseq := seqUp c.hseq }
        let front := s.huskFront i.val h.version h.move h.delta w.found
        let owner := s.cmd.cdw.owner
        let ch := if h.version = 1 then s.huskChange w.found else none
        let s := match ch with
          | none => s
          | some (lsb, width, wr, ap) => s.clamp (clampResult 0x39 s.cmd.cdw.q lsb) wr ap false false width
        let s := s.openCdw s.cmd.cdw.q (owner.getD 0) owner true front.2 (.huskOut { h with pre := front.1, srcs := w.found })
        s.answerOwner owner (bn ch.isSome) [w64 (pack [(0, front.2), (32, w.found.length), (51, (s.ctx i.val).hseq)])]
    | _, _ => s)

end Sys2Proof.Machine
end

