-- ==== Sys2Proof/Machine/Audit.lean ====
section
/-! DEFINITION. Audits (R134 to R138, R149, R340, R462): when they start, the checks, what a failure records, rebases, and
the end of a scan. -/
namespace Sys2Proof.Machine

/-! ### Starting (R136) -/

/-- A periodic audit is due (R136). -/
def State.periodDue (s : State) : Bool :=
  s.cfg.auditPeriodic && s.tb.good && decide (s.ldg.periodStart + 2 ^ s.cfg.auditPeriod ≤ s.tick)

/-- The next periodic audit falls due one period after this instant. -/
def State.periodFrom (s : State) (t : Nat) : State :=
  { s with ldg := { s.ldg with periodStart := t, periodKnown := true } }

/-- An audit may start now (R136). -/
def State.auditMay (s : State) : Bool :=
  !s.sweeping .audit && !s.scanning && s.repairs.isEmpty && s.mode.mode.sweeps && !s.isHeld 5 && !s.isHeld 2 &&
  decide (s.pwr.rung < 2)

/-- The sweep of an audit starts; what asked for one before now is served by it. -/
def State.startAudit (s : State) : State :=
  ({ s with ldg := { s.ldg with riding := s.ldg.riding ++ s.ldg.wanted, wanted := [], auditDue := false } }).startSweep .audit

/-- AUDIT_START (R136): a periodic audit from rung 0, or one that was asked for. -/
def execAuditStart (s : State) : Host.Outcome State Fault Refusal :=
  let due := s.periodDue && s.pwr.rung == 0
  .next (if !s.auditMay || !(due || s.ldg.auditDue || !s.ldg.wanted.isEmpty) then s
    else
      let s := if due then s.periodFrom s.tick else s
      s.startAudit)

/-! ### Checks (R132, R134, R137) -/

/-- Sum of two ledgers, counter by counter, modulo 2^64. -/
def Ledger.add (a b : Ledger) : Ledger :=
  { accepted := (a.accepted + b.accepted) % 2 ^ 64, merged := (a.merged + b.merged) % 2 ^ 64,
    delivered := (a.delivered + b.delivered) % 2 ^ 64, withdrawn := (a.withdrawn + b.withdrawn) % 2 ^ 64,
    dStale := (a.dStale + b.dStale) % 2 ^ 64, dDisabled := (a.dDisabled + b.dDisabled) % 2 ^ 64,
    dReset := (a.dReset + b.dReset) % 2 ^ 64, outstanding := (a.outstanding + b.outstanding) % 2 ^ 64,
    refused := (a.refused + b.refused) % 2 ^ 64 }

/-- The sum of the instance ledgers. -/
def State.ledgerSum (s : State) : Ledger := s.ldg.inst.foldl (fun a p => a.add p.2) {}

/-- The tally of one instance. -/
def Sweep.count (w : Sweep) (i : Nat) : Nat := tget (fun _ => 0) w.tally i

/-- The tally of the block. -/
def Sweep.total (w : Sweep) : Nat := w.tally.foldl (fun a p => a + p.2) 0

/-- A failure: instance, block, check code, channel (R144). -/
structure AuditFail where
  inst : Nat
  block : Bool
  check : Nat
  chan : Nat
  deriving DecidableEq, Repr

/-- The first failed check of an instance ledger. -/
def Ledger.check (l : Ledger) (count : Nat) : Option Nat :=
  if !l.balanced then some 1 else if l.outstanding ≠ count then some 2 else none

/-- The first failed check of the block ledger. -/
def State.checkBlock (s : State) (w : Sweep) : Option Nat :=
  match s.ldg.block.check w.total with
  | some k => some k
  | none => if s.ldg.block = s.ledgerSum then none else some 3

/-- The instances whose ledger or tally is not at its reset value. -/
def State.audited (s : State) (w : Sweep) : List Nat :=
  w.tally.foldl (fun l p => addOnce p.1 l) (s.ldg.inst.map (·.1))

/-- Failures of the ledgers, the instances in ascending order and then the block (R134). -/
def State.ledgerFails (s : State) (w : Sweep) : List AuditFail :=
  (s.audited w).filterMap (fun i => ((s.ledger i).check (w.count i)).map fun k => ⟨i, false, k, 0⟩) ++
  (match s.checkBlock w with
   | none => []
   | some k => [⟨0, true, k, 0⟩])

/-- Failures of the credit accounts (R137). A credit that the block returns is at the switch at once, so none awaits return; a write
whose credit a fall of K_MIc_OPEN voided is in no account. -/
def State.creditFails (s : State) : List AuditFail :=
  (if s.channelOpen then
     (channels.filter fun c => (s.chan c).buf.length - (s.chan c).old + (s.chan c).switchCredits ≠ 64).map fun c => ⟨0, false, 4, c⟩ else []) ++
  ((List.range 4).filter fun f =>
     let c := s.farChan f
     s.farOpen && (c.credits + c.sentCount != c.granted || decide (32 < c.credits))).map fun f => ⟨0, false, 5, f⟩

/-- The word of LDG_AUDIT_FIRST for a list of failures (R144). -/
def auditWord (l : List AuditFail) : Nat :=
  match l with
  | [] => 0
  | f :: _ => pack [(0, f.inst), (9, bn f.block), (10, f.check), (14, f.chan), (18, l.length)]

/-! ### Rebase (R138) -/

/-- Difference of two counters modulo 2^64. -/
def diff64 (a b : Nat) : Nat := (a + (2 ^ 64 - b % 2 ^ 64)) % 2 ^ 64

/-- The magnitude of a change of a 64-bit counter. -/
def mag64 (d : Nat) : Nat := if d < 2 ^ 63 then d else 2 ^ 64 - d

/-- A record counter follows a change of the block ledger by `d` modulo 2^64. -/
def State.recMove (s : State) (k d : Nat) : State :=
  if d < 2 ^ 63 then s.recCount k d
  else { s with rcd := { s.rcd with work := { s.rcd.work with
      ctr := tset (fun _ => 0) s.rcd.work.ctr k (tget (fun _ => 0) s.rcd.work.ctr k - (2 ^ 64 - d)) } } }

/-- A rebase counts in the record, with the amount by which ACCEPTED changed. -/
def State.countRebase (s : State) (d : Nat) : State :=
  let s := { s with ldg := { s.ldg with rebased := true } }
  (s.recCount 33 1).recCount 34 (mag64 d)

/-- A ledger with OUTSTANDING at a count and ACCEPTED at the right-hand side of the equation. -/
def Ledger.rebase (l : Ledger) (count : Nat) : Ledger :=
  let l := { l with outstanding := count % 2 ^ 64 }
  { l with accepted := l.rhs }

/-- A rebase of an instance ledger; the block ledger moves by the same amounts in the same unit. -/
def State.rebaseInst (s : State) (i count : Nat) : State :=
  let l := s.ledger i
  let l' := l.rebase count
  let dA := diff64 l'.accepted l.accepted
  let b := s.ldg.block
  let b := { b with accepted := (b.accepted + dA) % 2 ^ 64,
                    outstanding := (b.outstanding + diff64 l'.outstanding l.outstanding) % 2 ^ 64 }
  let s := { s with ldg := { s.ldg with inst := tset (fun _ => {}) s.ldg.inst i l', block := b } }
  (s.recMove 0 dA).countRebase dA

/-- A rebase of the block ledger: each counter becomes the sum over the instance ledgers. -/
def State.rebaseBlock (s : State) : State :=
  let b := s.ldg.block
  let n := s.ledgerSum
  let s := { s with ldg := { s.ldg with block := n } }
  let s := forEach [(0, n.accepted, b.accepted), (1, n.merged, b.merged), (2, n.delivered, b.delivered),
    (3, n.withdrawn, b.withdrawn), (4, n.dStale, b.dStale), (5, n.dDisabled, b.dDisabled), (6, n.dReset, b.dReset),
    (7, n.refused, b.refused)] (fun x s => s.recMove x.1 (diff64 x.2.1 x.2.2)) s
  s.countRebase (diff64 n.accepted b.accepted)

/-! ### Completion (R136, R138, R143, R144, R149) -/

/-- A failure of these checks is one of the ledgers. -/
def AuditFail.ofLedger (f : AuditFail) : Bool := decide (f.check ≤ 3)

/-- The results of an audit or scan: status, count, first failure, one fault with the word of LDG_AUDIT_FIRST (assumption log 73), and
house sources 16 and 15. The rebases of
`insts` and of the block come before the status, whose SEQ moves once. -/
def State.concludeAudit (s : State) (w : Sweep) (fails : List AuditFail) (insts : List Nat) (blk : State → Bool) : State :=
  let bad := fails.any (·.ofLedger)
  let badCredit := fails.any fun f => !f.ofLedger
  let before := s.ldg.rebased
  let s := { s with ldg := { s.ldg with rebased := false } }
  let s := forEach insts (fun i s => s.rebaseInst i (w.count i)) s
  let s := if blk s then s.rebaseBlock else s
  let did := s.ldg.rebased
  let l := s.ldg
  let word := auditWord fails
  let s := { s with ldg := { l with
    mismatch := l.mismatch || bad, creditMismatch := l.creditMismatch || badCredit, rebased := before || did,
    statSeq := if bad || badCredit || did then seqUp l.statSeq else l.statSeq,
    first := if fails.isEmpty then l.first else word, count := wrap 32 (l.count + 1), badWords := [] } }
  let s := if fails.isEmpty then s else s.report 0xF 1 word
  let ids := s.ldg.riding
  let s := { s with ldg := { s.ldg with riding := [] } }
  let flags := pack [(0, bn bad), (1, bn badCredit), (2, bn did), (32, s.ldg.count)]
  let s := forEach ids (fun x s => s.answerOwner (some x.1) 0 [w64 word, w64 flags]) s
  let s := s.raiseHouse 16
  if fails.isEmpty then s else s.raiseHouse 15

/-- Some LEDGER_AUDIT that rides on the audit carries its rebase flag (R138). -/
def State.rideRebase (s : State) : Bool := s.ldg.riding.any (·.2)

/-- Instance ledgers to rebase: those with an uncorrectable word, and under the rebase flag those that failed (R130,
R138). -/
def State.toRebase (s : State) (fails : List AuditFail) : List Nat :=
  let a := s.ldg.badWords.filter (decide <| · < 512)
  if s.rideRebase then fails.foldl (fun l f => if f.ofLedger && !f.block then addOnce f.inst l else l) a else a

/-- AUDIT_COMPLETE (R135, R137, R138). -/
def execAuditComplete (s : State) : Host.Outcome State Fault Refusal :=
  .next (match s.sweeps.find? (fun w => w.name == .audit) with
    | none => s
    | some w =>
      if !w.complete then s
      else
        let lf := s.ledgerFails w
        let fails := lf ++ (if s.cfg.auditCredit then s.creditFails else [])
        let blk := s.ldg.badWords.contains 512 || (s.rideRebase && lf.any (·.block))
        (s.endSweep .audit).concludeAudit w fails (s.toRebase fails) fun _ => blk)

/-- The checks at the end of a scan (R149): a ledger whose OUTSTANDING differs from the count is rebased at once. -/
def State.concludeScan (s : State) (w : Sweep) : State :=
  let fails := s.ledgerFails w
  let off := (s.audited w).filter fun i => (s.ledger i).outstanding != w.count i
  let blk := s.ldg.badWords.contains 512 || (s.rideRebase && fails.any (·.block))
  (s.endSweep w.name).concludeAudit w fails (off.foldl (fun l i => addOnce i l) (s.toRebase fails))
    fun s => blk || s.ldg.block.outstanding != w.total

/-- The mode after REBUILD (R25). -/
def State.afterRebuild (s : State) : State :=
  if s.mode.mode != .rebuild then s
  else if !s.cfg.sealed_ then s.goTo .start
  else if s.cfg.crc = s.cfg.ref then s.goTo .service
  else s.goTo .recovery

/-- Commands that a reset cut short and that nothing else answers: the RECORD_FLUSH commands that a warm reset cut, DOMAIN_RESET without its
release (R415). -/
def State.answerCut (s : State) : State :=
  let ids := s.rcd.flushCut
  let s := { s with rcd := { s.rcd with flushCut := [] } }
  let s := forEach ids (fun k s => s.answerOwner (some k) 0 []) s
  let d := s.rst.dom
  match d.owner with
  | none => s
  | some k =>
    ({ s with rst := { s.rst with dom := { d with owner := none } } }).answerOwner (some k) 0
      [w64 (pack [(0, (s.ldg.block.dReset + 2 ^ 64 - d.base) % 2 ^ 32), (32, bn d.expired)])]

/-- REBUILD ends once the scan has finished and the walker has completed one pass (R414): the mode follows, and what a reset cut short is
answered (R415). -/
def State.rebuilt (s : State) : State :=
  if s.sweeping .rebuild || (s.mode.mode == .rebuild && !s.cfg.walked) then s else s.afterRebuild.answerCut.settleCommit

/-- Every group with LEN not 0 releases at the end of the REBUILD scan (R246). -/
def State.releaseKept (s : State) : State := s.releaseAll 7 fun g => !g.held.isEmpty

/-- REBUILD_SCAN_COMPLETE (R149, R246, R414, R417, R491): the checks, and but for a reset of D5 by itself the releases and the mode that
follows. -/
def execRebuildScanComplete (s : State) : Host.Outcome State Fault Refusal :=
  .next (match s.sweeps.find? (fun w => w.name == .rebuild || w.name == .rescan) with
    | none => s
    | some w =>
      if !w.complete then s
      else if w.name == .rescan then
        let due := s.periodDue
        let s := s.concludeScan w
        if due then s.periodFrom s.tick else s
      else
        let due := s.periodDue
        let s := s.concludeScan w
        let s := if due then s.periodFrom s.tick else s
        s.releaseKept.rebuilt)

end Sys2Proof.Machine
end

