-- ==== Sys2Proof/Machine/CmdSources.lean ====
section
/-! DEFINITION. The commands that name sources, with ECHO and QUERY_CAPS (R103, R116 to R119, R321 to R326, R443). -/
namespace Sys2Proof.Machine

/-! ### ECHO and QUERY_CAPS -/

/-- ECHO (R321). -/
def execEcho (q : Fin 8) (s : State) : Host.Outcome State Fault Refusal :=
  .next (s.runCmd q.val 0x01 fun s p =>
    if !hdrFlag p.hdr 0 then s.firstReply q.val stOk p.words
    else if s.deferFull q.val then s.firstReply q.val stBusy []
    else (s.deferCmd q.val p [] (.fence p.words) []).settleFences)

/-- The words of QUERY_CAPS (R322). -/
def State.caps (s : State) : List (BitVec 64) :=
  [ w64 (pack [(0, 1024), (16, 512), (32, 2048), (48, 32)]),
    w64 (pack [(0, 512), (16, 1024), (32, 512), (48, 64)]),
    w64 (pack [(0, 262144), (32, 266240)]),
    w64 (pack [(0, 524288), (32, 65536)]),
    w64 (pack [(0, 512), (16, 256), (32, 4), (40, 16), (48, 4), (56, 8)]),
    w64 (pack [(0, 16384), (32, 64), (40, s.strap.blockNum), (46, 20)]),
    w64 (pack [(0, 16384), (32, 4096)]),
    w64 (pack [(0, 0xB0), (16, 3), (24, s.strap.boot), (26, bn s.cmd.patch.isSome), (32, (s.cmd.patch.map (·.ver)).getD 0)]) ]

/-- QUERY_CAPS (R322). -/
def execQueryCaps (q : Fin 8) (s : State) : Host.Outcome State Fault Refusal :=
  .next (s.runCmd q.val 0x02 fun s _ => s.firstReply q.val stOk s.caps)

/-! ### What commands that name sources share -/

/-- The stale discards that go ahead of an order at each source named (R274). -/
def State.settleStale (s : State) (es : List Nat) : State :=
  forEach es (fun e s => if s.isStale e then s.atBank e id else s) s

/-- A command goes out as one order to the home bank of each source that it names (R119). -/
def State.issue (s : State) (q : Nat) (p : Packet) (cs : List Clamped) (cmd : SrcCmd) (es : List Nat) : State :=
  forEach es (fun e s => s.sendCommand q e)
    (s.issued.putPart q (some { cmd := cmd, id := s.cmd.nextId, stamp := s.tick, tag := hdrTag p.hdr, opcode := hdrOpcode p.hdr,
                                clamped := !cs.isEmpty, left := es.length }))

/-! ### SRC_CONFIG (R323) -/

/-- A field that a flag selects. -/
def sel {α : Type} (b : Bool) (v : α) : Option α := if b then some v else none

/-- EID of a house source (R73, R74). -/
def isHouse (e : Nat) : Bool := decide (0xE00 ≤ e) && decide (e < 0x1000)

/-- The settings of a SRC_CONFIG packet, and its clamps. -/
def srcSet (p : Packet) : SrcSet × List Clamped :=
  let e := fld (p.word 1) 0 20
  let w := p.word 2
  let f := hdrFlag p.hdr
  let t := fld w 0 11
  let t' := min t 1535
  let i := fld w 42 9
  let i' := if isHouse e then 0 else i
  ({ target := sel (f 0) t', vector := sel (f 1) (fld w 11 8), prio := sel (f 2) (fld w 19 6),
     group := sel (f 3) (fld w 25 16, flag w 41), inst := sel (f 4) i' },
   (if f 0 then clampIf 2 0 11 t t' else []) ++ (if f 4 then clampIf 2 42 9 i i' else []))

/-- A flag selects word 2. -/
def srcWord2 (h : BitVec 64) : Bool := fld h 39 5 != 0

/-- Step 9 of R310 for SRC_CONFIG. -/
def State.srcSetOk (s : State) (p : Packet) (c : SrcSet) : Bool :=
  zeroFrom (p.word 1) 20 && decide ((p.word 1).toNat < 0x41000) &&
  (!srcWord2 p.hdr || zeroFrom (p.word 2) 51) &&
  (match c.inst with
   | none => true
   | some i => (s.ctx i).created)

/-- SRC_CONFIG (R119, R323). -/
def execSrcConfig (q : Fin 8) (s : State) : Host.Outcome State Fault Refusal :=
  .next (s.runCmd q.val 0x10 fun s p =>
    let c := srcSet p
    let e := fld (p.word 1) 0 20
    if !s.srcSetOk p c.1 then s.firstReply q.val stBadParam []
    else s.issue q.val p c.2 (.config c.1 (c.2.map fun x => (clampParam 0x10 x.word q.val x.lsb, x.wr, x.ap, x.width))) [e])

/-! ### SRC_READ (R324) -/

/-- The sources that a SRC_READ names. -/
def readRun (w : BitVec 64) : List Nat :=
  let first := fld w 0 20
  (List.range (min (near 1 64 (fld w 20 7)) (0x41000 - first))).map (first + ·)

/-- SRC_READ (R103, R324). -/
def execSrcRead (q : Fin 8) (s : State) : Host.Outcome State Fault Refusal :=
  .next (s.runCmd q.val 0x11 fun s p =>
    let w := p.word 1
    let n := fld w 20 7
    if !zeroFrom w 27 || decide (0x41000 ≤ fld w 0 20) then s.firstReply q.val stBadParam []
    else if !(readRun w).all (s.owns q.val) then s.firstReply q.val stNotOwner []
    else
      let cs := clampIf 1 20 7 n (near 1 64 n)
      (s.recordClamps q.val 0x11 cs).issue q.val p cs .read (readRun w))

/-! ### SRC_ENABLE and SRC_DISABLE (R116 to R119, R325) -/

/-- COUNT of a run after its clamp (R325). -/
def runCount (w : BitVec 64) : Nat := near 1 4096 (fld w 20 13)

/-- The sources of one run. -/
def runEids (w : BitVec 64) : List Nat := (List.range (runCount w)).map (fld w 0 20 + ·)

/-- Step 9 of R310 for one run. -/
def runOk (w : BitVec 64) : Bool :=
  zeroFrom w 33 && decide (fld w 0 20 < 0x41000) && decide (fld w 0 20 + runCount w ≤ 0x41000)

/-- The clamps of the runs of a packet. -/
def runClamps (p : Packet) : List Clamped :=
  (List.range p.words.length).flatMap fun k =>
    let w := p.word (k + 1)
    clampIf (k + 1) 20 13 (fld w 20 13) (runCount w)

/-- A source defers under the orders `f` applied one after another now (R310 step 8). Where a withdrawal is in progress the source
defers if it is DRAINING already (assumption log 80). -/
def State.runDefers (s : State) (es : List Nat) (f : State → Nat → State × Bool) : Bool :=
  (es.foldl (fun (a : State × Bool) e =>
    if a.1.withdrawing e then (a.1, a.2 || (a.1.source e).drain) else ((f a.1 e).1, a.2 || (f a.1 e).2)) (s.settleStale es, false)).2

/-- What SRC_ENABLE and SRC_DISABLE share (R310, R325): the checks over every run, then the orders. -/
def State.runSources (s : State) (q : Nat) (p : Packet) (cmd : SrcCmd) (f : State → Nat → State × Bool) : State :=
  let es := p.words.flatMap runEids
  let cs := runClamps p
  if s.deferFull q && s.runDefers (es.filter (decide <| · < 0x41000)) f then s.firstReply q stBusy []
  else if !p.words.all runOk then s.firstReply q stBadParam []
  else if !es.all (s.owns q) then s.firstReply q stNotOwner []
  else if es.any s.frozenAt then s.firstReply q stBusy []
  else (s.recordClamps q (hdrOpcode p.hdr) cs).issue q p cs cmd es

/-- SRC_ENABLE (R118, R325). -/
def execSrcEnable (q : Fin 8) (s : State) : Host.Outcome State Fault Refusal :=
  .next (s.runCmd q.val 0x12 fun s p =>
    s.runSources q.val p .enable State.enableOne)

/-- SRC_DISABLE (R116, R325). -/
def execSrcDisable (q : Fin 8) (s : State) : Host.Outcome State Fault Refusal :=
  .next (s.runCmd q.val 0x13 fun s p =>
    s.runSources q.val p .disable State.disableSource)

/-! ### SRC_INJECT (R86, R326) -/

/-- EID of a software event (R73). -/
def isSoftware (e : Nat) : Bool := decide (0xA00 ≤ e) && decide (e < 0xE00)

/-- SRC_INJECT (R326). -/
def execSrcInject (q : Fin 8) (s : State) : Host.Outcome State Fault Refusal :=
  .next (s.runCmd q.val 0x14 fun s p =>
    let e := fld (p.word 1) 0 20
    if !zeroFrom (p.word 1) 20 || decide (0x41000 ≤ e) then s.firstReply q.val stBadParam []
    else if s.mode.mode != .test && !isSoftware e then s.firstReply q.val stDenied []
    else if !s.owns q.val e then s.firstReply q.val stNotOwner []
    else if s.intakeShut || s.frozenAt e then s.firstReply q.val stBusy []
    else s.issue q.val p [] .inject [e])

end Sys2Proof.Machine
end

