-- ==== Sys2Proof/Machine/CmdTables.lean ====
section
/-! DEFINITION. The commands over pages, ligature groups and targets (R88, R165, R235, R247, R248, R283, R287, R327 to
R333). -/
namespace Sys2Proof.Machine

/-! ### Pages (R327 to R329) -/

/-- A transfer into instance `i` or its revert runs (R294 to R297). -/
def State.restoring (s : State) (i : Nat) : Bool :=
  (s.ctx i).phase == .restoring || s.cmd.reverts.any (·.inst == i) ||
  (match s.cmd.cdw.xfer with
   | some (.huskIn h) => h.inst == i
   | _ => false)

/-- A save or restore of `i` is in progress (R283, R287, R296). -/
def State.husking (s : State) (i : Nat) : Bool := (s.ctx i).saving || s.restoring i

/-- Device page `p` of instance `i` is one that the commands on pages take (R327). -/
def State.pageParam (s : State) (i p : Nat) : Bool := (s.ctx i).created && decide (p < (s.ctx i).pageCount)

/-- Page entry of device page `p` of instance `i`, whoever holds it. -/
def State.pageEntry (s : State) (i p : Nat) : Nat := (s.ctx i).pageBase + p

/-- The page of VI 0 has no entry while a guest holds the run (R88). -/
def State.pageAway (s : State) (i p : Nat) : Bool := (s.pageOf i p).isNone

/-- TSTRIDE after its clamp (R327). -/
def mapStride (w : BitVec 64) : Nat := near 1 2048 (fld w 18 12)

/-- Words of the translation run of a MAP_DEVICE. -/
def mapWords (w : BitVec 64) : Nat := (fld w 30 8 + 1) * mapStride w

/-- The page entry that MAP_DEVICE writes; RELAY keeps its value (R327). -/
def mapEntry (old : PageEntry) (w2 w3 : BitVec 64) (valid : Bool) : PageEntry :=
  { ((old.load0 w2).load1 w3) with tstride := mapStride w2, valid := valid, relay := old.relay }

/-- MAP_DEVICE (R327). -/
def execMapDevice (q : Fin 8) (s : State) : Host.Outcome State Fault Refusal :=
  .next (s.runCmd q.val 0x18 fun s p =>
    let i := hdrInst p.hdr
    let n := fld (p.word 1) 0 21
    let w := p.word 2
    let load := hdrFlag p.hdr 0
    let cs := clampIf 2 18 12 (fld w 18 12) (mapStride w)
    let e := s.pageEntry i n
    if load && s.deferFull q.val then s.firstReply q.val stBusy []
    else if !zeroFrom (p.word 1) 21 || !zeroFrom (p.word 3) 18 || !s.pageParam i n then s.firstReply q.val stBadParam []
    else if 262144 < fld w 0 18 + mapWords w then s.firstReply q.val stNoSpace []
    else if s.husking i || s.pageAway i n || (load && s.cmd.cdw.owned) then s.firstReply q.val stBusy []
    else
      let id := s.cmd.nextId
      let s := s.putPage e (mapEntry (s.page e) w (p.word 3) (!load))
      if load then
        (s.deferCmd q.val p cs .load []).openCdw q.val id (some id) false (mapWords w) (.map i e (fld w 0 18))
      else s.done q.val p cs [])

/-- VALID of every translation entry of a page's run is cleared (R328). -/
def State.clearRun (s : State) (p : PageEntry) : State :=
  forEach ((s.trans.map (·.1)).filter fun k => decide (p.tbase ≤ k) && decide (k < p.tbase + (p.fnM1 + 1) * p.tstride))
    (fun k s => s.putTrans k { s.transEntry k with valid := false }) s

/-- UNMAP_DEVICE (R328). -/
def execUnmapDevice (q : Fin 8) (s : State) : Host.Outcome State Fault Refusal :=
  .next (s.runCmd q.val 0x19 fun s p =>
    let i := hdrInst p.hdr
    let n := fld (p.word 1) 0 21
    let e := s.pageEntry i n
    if !zeroFrom (p.word 1) 21 || !s.pageParam i n then s.firstReply q.val stBadParam []
    else if s.husking i || s.pageAway i n then s.firstReply q.val stBusy []
    else if (s.page e).relay && s.cfg.sealed_ then s.firstReply q.val stSealed []
    else
      let s := if hdrFlag p.hdr 0 then s.clearRun (s.page e) else s
      (s.putPage e { s.page e with valid := false, relay := false }).done q.val p [] [])

/-- RELAY_CONFIG (R329). -/
def execRelayConfig (q : Fin 8) (s : State) : Host.Outcome State Fault Refusal :=
  .next (s.runCmd q.val 0x70 fun s p =>
    let i := hdrInst p.hdr
    let n := fld (p.word 1) 0 21
    let e := s.pageEntry i n
    if !zeroFrom (p.word 1) 22 || !s.pageParam i n then s.firstReply q.val stBadParam []
    else if s.pageAway i n then s.firstReply q.val stBusy []
    else if !(s.page e).valid then s.firstReply q.val stBadParam []
    else (s.putPage e { s.page e with relay := flag (p.word 1) 21 }).done q.val p [] [])

/-! ### Ligature groups (R235, R247, R248, R330, R331) -/

/-- A two-bit enable field: 0b11 is clamped to 0b00 (R330, R334). -/
def enField (h : BitVec 64) (lsb : Nat) : Nat × List Clamped :=
  let v := fld h lsb 2
  let a := if v = 3 then 0 else v
  (a, clampIf 0 lsb 2 v a true)

/-- Settings of a group as LIG_CONFIG gives them, after their clamps. -/
structure LigSet where
  timing : Option (Nat × Nat)
  binding : Option (Nat × Nat)
  enable : Nat
  deriving DecidableEq, Repr

/-- The settings of a LIG_CONFIG packet, and its clamps. -/
def ligSet (p : Packet) : LigSet × List Clamped :=
  let w := p.word 2
  let en := enField p.hdr 41
  let th := fld w 0 13
  let tm := fld w 13 16
  let bt := fld w 29 11
  ({ timing := sel (hdrFlag p.hdr 0) (near 1 4096 th, max 1 tm), binding := sel (hdrFlag p.hdr 1) (min bt 1535, fld w 40 9),
     enable := en.1 },
   en.2 ++ (if hdrFlag p.hdr 0 then clampIf 2 0 13 th (near 1 4096 th) ++ clampIf 2 13 16 tm (max 1 tm) else []) ++
   (if hdrFlag p.hdr 1 then clampIf 2 29 11 bt (min bt 1535) else []))

/-- New THRESH and TIMER act at once on an open window (R235). -/
def State.ligTiming (s : State) (g : Nat) (v : Nat × Nat) : State :=
  let s := s.onGrp g fun c => { c with thresh := v.1, timer := v.2 }
  let c := s.grp g
  if !c.open_ then s
  else if c.thresh ≤ c.count then s.releaseNow g 1
  else if s.endReached g then s.releaseNow g 2
  else s

/-- The enable state of a group (R248); the answer is whether the command defers. -/
def State.ligEnable (s : State) (g a : Nat) : State × Bool :=
  let c := s.grp g
  if a = 0 then (s, false)
  else if c.drain then
    if a = 1 then (s.onGrp g fun c => { c with en := true }, true)
    else ((s.cancelWork (.groupEnable g) 1 g).onGrp g fun c => { c with en := false }, true)
  else if a = 1 then (s.onGrp g fun c => { c with en := true }, false)
  else if !c.en then (s, false)
  else
    let s := s.releaseNow g 5
    let run := !(s.grp g).batches.isEmpty
    (s.onGrp g fun c => { c with en := false, drain := run }, run)

/-- The settings applied at the group bank: THRESH and TIMER, the binding, the enable field. -/
def State.ligApply (s : State) (g : Nat) (c : LigSet) : State × Bool :=
  let s := match c.timing with
    | none => s
    | some v => s.ligTiming g v
  let s := match c.binding with
    | none => s
    | some v => s.onGrp g fun x => { x with bypTgt := v.1, inst := v.2 }
  s.ligEnable g c.enable

/-- A LIG_CONFIG that would change INST or BYP_TGT (R235). -/
def LigSet.rebinds (c : LigSet) (g : Group) : Bool :=
  match c.binding with
  | none => false
  | some v => v != (g.bypTgt, g.inst)

/-- The condition of LIG_CONFIG that fails first (R235, R287, R330). -/
def State.ligRefused (s : State) (q g : Nat) (c : LigSet) : Option Nat :=
  let x := s.grp g
  let dest := (c.binding.map (·.2)).getD x.inst
  if (s.queue q).guest && (x.inst != (s.queue q).bindInst || dest != x.inst) then some stNotOwner
  else if c.rebinds x && (x.en || x.drain || !x.held.isEmpty) then some stBusy
  else if s.husking x.inst || s.husking dest then some stBusy
  else none

/-- LIG_CONFIG (R235, R248, R330). While the group's list is under repair its releases wait, and the command with them
(R148). -/
def execLigConfig (q : Fin 8) (s : State) : Host.Outcome State Fault Refusal :=
  .next (s.runCmd q.val 0x20 fun s p =>
    let c := ligSet p
    let g := fld (p.word 1) 0 16
    let word2 := hdrFlag p.hdr 0 || hdrFlag p.hdr 1
    let free := match c.1.binding with
      | none => false
      | some v => !(s.ctx v.2).created
    if s.deferFull q.val && (s.ligApply g c.1).2 then s.firstReply q.val stBusy []
    else if !zeroFrom (p.word 1) 16 || (word2 && !zeroFrom (p.word 2) 49) || free then s.firstReply q.val stBadParam []
    else match s.ligRefused q.val g c.1 with
      | some st => s.firstReply q.val st []
      | none =>
        if s.repairing (.moderated (Fin.ofNat 65536 g)) then s
        else
          let r := s.ligApply g c.1
          if r.2 then r.1.deferCmd q.val p c.2 (if c.1.enable = 1 then .groupEnable g else .groupDisable g) []
          else r.1.done q.val p c.2 [])

/-- A flush of one group that is not DISABLED (R247). -/
def State.flush (s : State) (g : Nat) : State :=
  let c := s.grp g
  if (c.en || c.drain) && !c.held.isEmpty then s.releaseNow g 4 else s

/-- The groups that a LIG_FLUSH names, of those that can hold a list (R331). -/
def State.flushes (s : State) (q : Nat) (p : Packet) : List Nat :=
  if hdrFlag p.hdr 0 then
    (s.groups.filter fun x => !(s.queue q).guest || x.2.inst == (s.queue q).bindInst).map (·.1)
  else [fld (p.word 1) 0 16]

/-- LIG_FLUSH (R247, R331); the reply waits for the repair of a list that it releases (R148). -/
def execLigFlush (q : Fin 8) (s : State) : Host.Outcome State Fault Refusal :=
  .next (s.runCmd q.val 0x21 fun s p =>
    let all := hdrFlag p.hdr 0
    let g := fld (p.word 1) 0 16
    if !zeroFrom (p.word 1) 16 then s.firstReply q.val stBadParam []
    else if !all && (s.queue q.val).guest && (s.grp g).inst != (s.queue q.val).bindInst then
      s.firstReply q.val stNotOwner []
    else if (s.flushes q.val p).any fun g => s.repairing (.moderated (Fin.ofNat 65536 g)) then s
    else (forEach (s.flushes q.val p) (fun g s => s.flush g) s).done q.val p [] [])

/-! ### Target settings (R162, R185, R200, R212, R259, R332) -/

/-- The reserved bits of the selected words are 0, and the flags fit the kind of the target (R332). -/
def tgtSetOk (p : Packet) : Bool :=
  let f := hdrFlag p.hdr
  let t := (p.word 1).toNat
  decide (t < 1536) && !((f 0 || f 1) && decide (1024 ≤ t)) && !(f 3 && decide (t < 1024)) &&
  (!f 0 || zeroFrom (p.word 2) 45) && (!f 1 || zeroFrom (p.word 3) 50) && (!(f 2 || f 4) || zeroFrom (p.word 4) 13) &&
  (!f 3 || (zeroFrom (p.word 6) 62 && zeroFrom (p.word 7) 16))

/-- The settings of a TGT_CONFIG packet applied to the context of target `t`, and the clamps. -/
def State.tgtSet (s : State) (t : Nat) (p : Packet) : Tgt × List Clamped :=
  let f := hdrFlag p.hdr
  let c := s.tgt t
  let w4 := p.word 4
  let a := if f 0 then c.setPres (p.word 2) 2 else (c, [])
  let c := if f 1 then { a.1 with blotVa := BitVec.ofNat 50 (fld (p.word 3) 0 50) } else a.1
  let v0 := flag w4 12
  let v := v0 && decide (t < 1024)
  let virt := if f 4 then v else c.virt
  let d := s.depClamp t virt (flag w4 0) (fld w4 1 11) 4 0 1
  let c := if f 2 then { c with depEn := d.1, deputy := d.2.1 } else c
  let c := if f 4 then { c with virt := v, depEn := c.depEn && !v } else c
  let b := if f 3 then c.far.setAll (p.word 5) (p.word 6) (p.word 7) 5 else (c.far, [])
  ({ c with far := b.1 },
   a.2 ++ (if f 2 then d.2.2 else []) ++ (if f 4 then clampIf 4 12 1 (bn v0) (bn v) else []) ++ b.2)

/-- TGT_CONFIG (R332). PATH and VIRT change only while the target is OFFLINE (R185, R259); a deputy that is set may take the
target's events (R167), and a target that leaves the register path may report idle again (R245). -/
def execTgtConfig (q : Fin 8) (s : State) : Host.Outcome State Fault Refusal :=
  .next (s.runCmd q.val 0x28 fun s p =>
    let t := fld (p.word 1) 0 11
    let old := s.tgt t
    if !tgtSetOk p then s.firstReply q.val stBadParam []
    else
      let n := s.tgtSet t p
      if (n.1.path != old.path || n.1.virt != old.virt) && old.svc != .offline then s.firstReply q.val stBusy []
      else
        let s := ((s.putTgt t n.1).tellAgent t old).pathChange t old
        let s := if hdrFlag p.hdr 2 && (old.svc == .offline || old.svc == .faulted) then s.trySplice t else s
        s.done q.val p n.2 [])

/-! ### Service state (R165, R333, R490) -/

/-- What an order of TGT_STATE gives: the state, the status, and whether it defers. -/
structure Ordered where
  s : State
  status : Nat := stOk
  defers : Bool := false

/-- TGT_STATE online (R165). -/
def State.orderOnline (s : State) (t : Nat) : Ordered :=
  let wait := { s := s.onTgt t fun c => { c with onlineDefer := true }, defers := true }
  match (s.tgt t).svc with
  | .online => { s := s }
  | .draining => wait
  | .offline => { s := s.goOnline t }
  | .faulted =>
    if s.causeStands t then { s := s, status := stBusy }
    else if (s.tgt t).leaving then wait
    else { s := s.goOnline t }

/-- TGT_STATE offline (R165). -/
def State.orderOffline (s : State) (t : Nat) : Ordered :=
  let cancel := fun (s : State) => (s.cancelWork (.targetOnline t) 2 t).onTgt t fun c => { c with onlineDefer := false }
  match (s.tgt t).svc with
  | .online => { s := (s.onTgt t fun c => { c with svc := .draining }).leave t, defers := true }
  | .draining => { s := cancel s, defers := true }
  | .offline => { s := s }
  | .faulted =>
    if (s.tgt t).leaving then { s := (cancel s).onTgt t fun c => { c with svc := .draining, fcause := 0 }, defers := true }
    else { s := s.onTgt t fun c => { c with svc := .offline, fcause := 0 } }

/-- An order of TGT_STATE; a query changes nothing. -/
def State.orderTarget (s : State) (t a : Nat) : Ordered :=
  if a = 1 then s.orderOnline t else if a = 2 then s.orderOffline t else { s := s }

/-- TGT_STATE (R165, R333). -/
def execTgtState (q : Fin 8) (s : State) : Host.Outcome State Fault Refusal :=
  .next (s.runCmd q.val 0x29 fun s p =>
    let w := p.word 1
    let t := fld w 0 11
    let a0 := fld w 11 2
    let a := if a0 = 3 then 0 else a0
    let cs := clampIf 1 11 2 a0 a true
    let r := s.orderTarget t a
    if s.deferFull q.val && r.defers then s.firstReply q.val stBusy (if t < 1536 then s.targetWord t else [])
    else if !zeroFrom w 13 || decide (1536 ≤ t) then s.firstReply q.val stBadParam []
    else if r.defers then
      r.s.deferCmd q.val p cs (if a = 1 then .targetOnline t else .targetOffline t) (r.s.targetWord t)
    else if r.status = stBusy then s.firstReply q.val stBusy (s.targetWord t)
    else r.s.done q.val p cs (r.s.targetWord t))

end Sys2Proof.Machine
end

