-- ==== Sys2Proof/Machine/CmdInst.lean ====
section
/-! DEFINITION. The commands over instances and husks (R254 to R257, R269 to R273, R280 to R299, R334 to R336). -/
namespace Sys2Proof.Machine

/-! ### Settings (R256, R334) -/

/-- RATE, BURST and REFILL after their clamps. -/
structure RateSet where
  rate : Nat
  burst : Nat
  refill : Nat
  deriving DecidableEq, Repr

/-- The rate word of INST_CREATE and INST_SHARE, at parameter word `k`. -/
def rateSet (w : BitVec 64) (k : Nat) : RateSet × List Clamped :=
  let rate := fld w 0 16
  let b0 := fld w 16 16
  let f0 := fld w 32 16
  let b := max (max b0 rate) 1
  let f := near 128 32768 f0
  ({ rate := rate, burst := b, refill := f }, clampIf k 16 16 b0 b ++ clampIf k 32 16 f0 f)

/-- WEIGHT after its clamp. -/
def weightSet (w : BitVec 64) (k : Nat) : Nat × List Clamped :=
  (max 1 (fld w 0 8), clampIf k 0 8 (fld w 0 8) (max 1 (fld w 0 8)))

/-- QUOTA after its clamp. -/
def quotaSet (w : BitVec 64) (k : Nat) : Nat × List Clamped :=
  (near 1 266240 (fld w 8 19), clampIf k 8 19 (fld w 8 19) (near 1 266240 (fld w 8 19)))

/-! ### INST_CREATE (R255) -/

/-- The context of an instance that INST_CREATE makes: the settings, everything else at its reset value but for INST_STAT
and the NEW_ settings (assumption log 33). -/
def Inst.fresh (old : Inst) (now base count : Nat) (r : RateSet) (weight quota : Nat) : Inst :=
  { created := true, weight := weight, pageBase := base, pageCount := count, rate := r.rate, burst := r.burst,
    refill := r.refill, tokens := r.burst, newRate := r.rate, newBurst := r.burst, newRefill := r.refill,
    nextRefill := now + r.refill, quota := quota, statRate := old.statRate, statQuota := old.statQuota,
    statStale := old.statStale, statShare := old.statShare, statSeq := old.statSeq }

/-- INST_CREATE (R255, R334). -/
def execInstCreate (q : Fin 8) (s : State) : Host.Outcome State Fault Refusal :=
  .next (s.runCmd q.val 0x30 fun s p =>
    let i := hdrInst p.hdr
    let base := fld (p.word 1) 0 14
    let n0 := fld (p.word 1) 14 15
    let n := min n0 16384
    let r := rateSet (p.word 2) 2
    let w := weightSet (p.word 3) 3
    let qt := quotaSet (p.word 3) 3
    if i = 0 ∨ !zeroFrom (p.word 1) 29 ∨ !zeroFrom (p.word 2) 48 ∨ !zeroFrom (p.word 3) 27 then s.firstReply q.val stBadParam []
    else if (s.ctx i).created then s.firstReply q.val stBusy []
    else if !s.runFits i base n then s.firstReply q.val stNoSpace []
    else (s.putCtx i ((s.ctx i).fresh s.tick base n r.1 w.1 qt.1)).done q.val p
      (clampIf 1 14 15 n0 n ++ r.2 ++ w.2 ++ qt.2) [])

/-! ### INST_SHARE (R269, R270) -/

/-- The enable state of an instance (R270); the answer is whether the command defers. -/
def State.instEnable (s : State) (i a : Nat) : State × Bool :=
  let c := s.ctx i
  if a = 0 then (s, false)
  else if c.drain then
    if a = 1 then (s.onCtx i fun c => { c with en := true }, true)
    else ((s.cancelWork (.instEnable i) 3 i).onCtx i fun c => { c with en := false }, true)
  else if a = 1 then
    if c.en then (s, false)
    else if c.oldGen then (s.onCtx i fun c => { c with en := true, drain := true }, true)
    else ((s.onCtx i fun c => { c with en := true }).newGeneration i, false)
  else if !c.en then (s, false)
  else ((s.onCtx i fun c => { c with en := false, drain := true }).startSweep (.drain (Fin.ofNat 512 i)), true)

/-- The settings of an INST_SHARE, after the refills that are due, and its clamps (R264, R269). -/
def State.instShare (s : State) (i : Nat) (p : Packet) : State × List Clamped :=
  let r := rateSet (p.word 1) 1
  let w := weightSet (p.word 2) 2
  let qt := quotaSet (p.word 2) 2
  let f := hdrFlag p.hdr
  let s := s.dueRefills i s.tick
  let s := if f 0 then s.onCtx i fun c =>
    { c with newRate := r.1.rate, newBurst := r.1.burst, newRefill := r.1.refill, sharePend := true } else s
  let s := if f 1 then s.onCtx i fun c => { c with weight := w.1 } else s
  let s := if f 2 then s.onCtx i fun c => { c with quota := qt.1 } else s
  (s, (if f 0 then r.2 else []) ++ (if f 1 then w.2 else []) ++ (if f 2 then qt.2 else []))

/-- INST_SHARE (R269, R270, R283, R334). -/
def execInstShare (q : Fin 8) (s : State) : Host.Outcome State Fault Refusal :=
  .next (s.runCmd q.val 0x31 fun s p =>
    let i := hdrInst p.hdr
    let a := enField p.hdr 42
    let f := hdrFlag p.hdr
    if s.deferFull q.val && (s.instEnable i a.1).2 then s.firstReply q.val stBusy []
    else if (f 0 && !zeroFrom (p.word 1) 48) || ((f 1 || f 2) && !zeroFrom (p.word 2) 27) || (i == 0 && a.1 != 0) ||
        !(s.ctx i).created then s.firstReply q.val stBadParam []
    else if s.husking i || ((s.ctx i).frozen && a.1 != 0) then s.firstReply q.val stBusy []
    else
      let c := s.instShare i p
      let r := c.1.instEnable i a.1
      if r.2 then r.1.deferCmd q.val p (a.2 ++ c.2) (if a.1 = 1 then .instEnable i else .instDisable i) []
      else r.1.done q.val p (a.2 ++ c.2) [])

/-! ### INST_RESET and INST_DESTROY (R257, R273) -/

/-- The groups of instance `i` close their windows without a release, and counts on their way to them are of the retired
generation (R249, R273). -/
def State.closeWindows (s : State) (i : Nat) : State :=
  let s := { s with counts := s.counts.filter fun x => (s.grp x.group).inst != i }
  forEach ((s.groups.filter fun g => g.2.inst == i).map (·.1))
    (fun g s => s.onGrp g fun c => { c with open_ := false, count := 0 }) s

/-- INST_RESET (R273). -/
def execInstReset (q : Fin 8) (s : State) : Host.Outcome State Fault Refusal :=
  .next (s.runCmd q.val 0x32 fun s p =>
    let i := hdrInst p.hdr
    let c := s.ctx i
    if s.deferFull q.val then s.firstReply q.val stBusy []
    else if i = 0 ∨ !c.created then s.firstReply q.val stBadParam []
    else if c.oldGen || c.frozen then s.firstReply q.val stBusy []
    else
      let s := s.onCtx i fun c => { c with gen := wrap 8 (c.gen + 1), oldGen := true }
      ((s.closeWindows i).startSweep (.stale (Fin.ofNat 512 i))).deferCmd q.val p [] (.instReset i) [])

/-- INST_DESTROY (R257). -/
def execInstDestroy (q : Fin 8) (s : State) : Host.Outcome State Fault Refusal :=
  .next (s.runCmd q.val 0x33 fun s p =>
    let i := hdrInst p.hdr
    let c := s.ctx i
    if s.deferFull q.val then s.firstReply q.val stBusy []
    else if i = 0 ∨ !c.created then s.firstReply q.val stBadParam []
    else if c.en || c.drain || c.frozen || c.oldGen then s.firstReply q.val stBusy []
    else (s.startSweep (.destroy (Fin.ofNat 512 i))).deferCmd q.val p [] (.instDestroy i) [])

/-! ### Freeze and thaw (R281, R298, R299) -/

/-- HUSK_FREEZE (R281, R282). -/
def execHuskFreeze (q : Fin 8) (s : State) : Host.Outcome State Fault Refusal :=
  .next (s.runCmd q.val 0x38 fun s p =>
    let i := hdrInst p.hdr
    let c := s.ctx i
    if s.deferFull q.val && !c.frozen then s.firstReply q.val stBusy []
    else if i = 0 ∨ !c.created then s.firstReply q.val stBadParam []
    else if c.frozen then s.firstReply q.val stOk []
    else if c.drain || c.oldGen then s.firstReply q.val stBusy []
    else
      let s := s.onCtx i fun c => { c with frozen := true, phase := .freezing }
      (s.startSweep (.freeze (Fin.ofNat 512 i))).deferCmd q.val p [] (.freeze i) [])

/-- A freeze that a thaw with DISCARD overtakes ends without completing (assumption log 46). -/
def State.endFreeze (s : State) (i : Nat) : State :=
  (s.endSweep (.freeze (Fin.ofNat 512 i))).finishWork (.freeze i) stBusy []

/-- At a thaw FROZEN is cleared at the events of `i` that wait behind one in service: these stand on no list (R101, R125). -/
def State.thawWaiting (s : State) (i : Nat) : State :=
  forEach ((s.src.filter fun p => p.2.inst == i && p.2.st == .activePending && p.2.held.frozen).map (·.1)) (fun e s =>
    let r := s.source e
    (s.putSource e { r with held := { r.held with frozen := false } }).commit e r) s

/-- HUSK_THAW (R298, R299, R335). -/
def execHuskThaw (q : Fin 8) (s : State) : Host.Outcome State Fault Refusal :=
  .next (s.runCmd q.val 0x3B fun s p =>
    let i := hdrInst p.hdr
    let c := s.ctx i
    let discard := hdrFlag p.hdr 0
    if s.deferFull q.val && discard && c.frozen then s.firstReply q.val stBusy []
    else if !c.frozen then s.firstReply q.val stOk []
    else if s.husking i || (!discard && c.phase == .freezing) then s.firstReply q.val stBusy []
    else if discard then
      let s := ((s.endFreeze i).thawWaiting i).onCtx i fun c =>
        { c with frozen := false, phase := .thawed, corrupt := false, restored := false, en := false, drain := true }
      (s.startSweep (.drain (Fin.ofNat 512 i))).deferCmd q.val p [] (.thawDiscard i) []
    else if c.corrupt then s.firstReply q.val stIntegrity []
    else ((s.thawWaiting i).onCtx i fun c => { c with frozen := false, phase := .thawed, restored := false }).firstReply q.val stOk [])

/-! ### Save and restore (R285, R293, R294, R335, R336) -/

/-- A version 1 save of `i` does not fit (R293). -/
def State.noV1 (s : State) (i : Nat) : Bool :=
  s.src.any fun r => r.2.inst == i && s.unfitV1 r.1 (s.carries i r.1 false)

/-- HUSK_SAVE (R285, R293, R335). The window belongs to the save from now on; it opens with the second reply. -/
def execHuskSave (q : Fin 8) (s : State) : Host.Outcome State Fault Refusal :=
  .next (s.runCmd q.val 0x39 fun s p =>
    let i := hdrInst p.hdr
    let c := s.ctx i
    let v := fld (p.word 1) 0 8
    let move := hdrFlag p.hdr 0
    let delta := hdrFlag p.hdr 1
    if s.deferFull q.val then s.firstReply q.val stBusy []
    else if !zeroFrom (p.word 1) 8 || !(v == 2 || (v == 1 && !delta)) || i == 0 || !c.created then
      s.firstReply q.val stBadParam []
    else if c.phase != .frozen || c.saving || s.husking i || s.cmd.cdw.owned then s.firstReply q.val stBusy []
    else if c.corrupt then s.firstReply q.val stIntegrity []
    else if v == 1 && s.noV1 i then s.firstReply q.val stNoSpace []
    else
      let id := s.cmd.nextId
      let h : HuskOut := { inst := i, version := v, move := move, delta := delta, pre := [], srcs := [], half := none,
                           crc := 0xFFFFFFFF, carried := 0, active := 0, tail := 0 }
      let s := (s.onCtx i fun c => { c with saving := true }).deferCmd q.val p [] (.save i) []
      let s := s.claimCdw q.val id
      let s := { s with cmd := { s.cmd with cdw := { s.cmd.cdw with xfer := some (.huskOut h) } } }
      s.startSweep (.prepare (Fin.ofNat 512 i)))

/-- HUSK_RESTORE (R294, R297, R336): the checks of the instance index, and the inward window. -/
def execHuskRestore (q : Fin 8) (s : State) : Host.Outcome State Fault Refusal :=
  .next (s.runCmd q.val 0x3A fun s p =>
    let i := hdrInst p.hdr
    let c := s.ctx i
    let delta := c.created && c.phase == .frozen && c.restored
    if s.deferFull q.val then s.firstReply q.val stBusy []
    else if !zeroFrom (p.word 1) 14 || !zeroFrom (p.word 2) 18 || !zeroFrom (p.word 3) 18 || !zeroFrom (p.word 4) 16 ||
        i == 0 then s.firstReply q.val stBadParam []
    else if (c.created && !delta) || s.husking i || s.cmd.cdw.owned then s.firstReply q.val stBusy []
    else
      let id := s.cmd.nextId
      let h : HuskIn := { inst := i, delta := delta, pageBase := fld (p.word 1) 0 14, transBase := fld (p.word 2) 0 18,
                          midDelta := fld (p.word 3) 0 18, groupDelta := fld (p.word 4) 0 16, words := [], undo := [],
                          failed := none }
      (s.deferCmd q.val p [] (.restore i) []).openCdw q.val id (some id) false 0 (.huskIn h))

end Sys2Proof.Machine
end

