-- ==== Sys2Proof/Machine/Registers.lean ====
section
/-! DEFINITION. Register writes and reads (R8, R9, R24, R80, R140, R172, R205 to R207, R275, R304 to R306, R316, R353 to
R358, R362, R364, R486): what each register does with an admitted access. -/
namespace Sys2Proof.Machine

/-! ### Configuration registers (R360) -/

/-- The configuration bits of a register. -/
def RegAt.configMask : RegAt → Nat
  | .global 0 o => if o = 0x2C then 0xFFFFF else 0
  | .global 4 o => if o = 0x8 then 0x1FFF else if o = 0xC then 0x3FF else 0
  | .global 5 o => if o = 0x60 then 0xFF else if o = 0x80 then 0x7F else 0
  | .global 6 o =>
    if o = 0x14 then 0x3FF else if 0x180 ≤ o ∧ promoting.contains ((o - 0x180) / 4) then 0xFFFFFF else 0
  | .lineCfg _ => 0x7
  | _ => 0

/-! ### Operating mode requests (R24, R25) -/

/-- A request for a mode; `none` where the table of R25 does not permit it now. -/
def State.modeFor (s : State) (code : Nat) : Option Mode :=
  let park := decide (4 ≤ s.pwr.apply)
  let calm := decide (s.pins.esc < 2)
  match s.mode.mode with
  | .start => if code = 5 then some .test else if code = 7 then some .quiesce else none
  | .test => if code = 3 then some .start else if code = 7 then some .quiesce else none
  | .service => if code = 3 then some .start else if code = 7 then some .quiesce else none
  | .quiesce => if code = s.mode.prior.code ∧ !park ∧ !s.pwr.parking then some s.mode.prior else none
  | .recovery =>
    if code = 3 ∧ calm then some .start
    else if code = 4 ∧ calm ∧ s.cfg.sealed_ ∧ s.cfg.crc = s.cfg.ref then some .service else none
  | _ => none

/-- A write of GLB_MODE.REQ (R24). -/
def State.modeRequest (s : State) (code : Nat) : State :=
  if code = 15 then s
  else
    match (if code = 3 ∨ code = 4 ∨ code = 5 ∨ code = 7 then s.modeFor code else none) with
    | some m => (s.goTo m).settleCommit
    | none => s.clamp (clampReg 4 4) code 15 false true 4

/-! ### UNSEAL window (R364) -/

/-- The end of the window is reached with TIMED 1 (R364). -/
def State.unsealExpire (s : State) : State :=
  let s := { s with cfg := { s.cfg with timed := false, expired := true } }
  (s.report 0x0D 2 (pack [(0, 2), (16, s.cfg.crc.toNat % 2 ^ 16)])).settleMode

/-- The window has ended; without a good timebase it does not run. -/
def State.unsealOver (s : State) : Bool :=
  s.cfg.timed && s.tb.good && decide (s.cfg.unsealStart + 500 * s.cfg.unsealLimit ≤ s.tick)

/-! ### One register write -/

/-- A write as a register sees it: the data, the mask of selected bits, and the value it merges to. -/
structure RegWrite where
  data : Nat
  mask : Nat
  val : Nat
  deriving DecidableEq, Repr

/-- The merged write (R353). -/
def regWrite (old data mask : Nat) : RegWrite :=
  { data := data, mask := mask, val := (old &&& (0xFFFFFFFF - mask)) ||| (data &&& mask) }

/-- A field is written: at least one of its bits is selected. -/
def RegWrite.sel (w : RegWrite) (lo len : Nat) : Bool := nfld w.mask lo len != 0
/-- The merged value of a field. -/
def RegWrite.fld (w : RegWrite) (lo len : Nat) : Nat := nfld w.val lo len
/-- A sequence write that matches (R353, R355). -/
def RegWrite.hits (w : RegWrite) (seq : Nat) : Bool := nfld w.mask 24 8 == 255 && nfld w.data 24 8 == seq

/-- A register field whose value is clamped is recorded (R357, R358). -/
def State.clampFld (s : State) (r : RegAt) (lsb width wr ap : Nat) : State :=
  if wr = ap then s else s.clamp (clampReg r.canonical lsb) wr ap false false width

/-- Writes in the GLB page. -/
def State.writeGlb (s : State) (o : Nat) (w : RegWrite) : State :=
  if o = 0x004 ∧ w.sel 4 4 then s.modeRequest (w.fld 4 4)
  else if o = 0x02C ∧ w.sel 0 20 then
    let v := near 1 1000000 (w.fld 0 20)
    let s := s.clampFld (.global 0 o) 0 20 (w.fld 0 20) v
    let s := { s with cfg := { s.cfg with unsealLimit := v } }
    if s.unsealOver then s.unsealExpire else s
  else if o = 0x034 ∧ w.hits s.cfg.violSeq then { s with cfg := { s.cfg with violCount := 0 } }
  else if o = 0x0D0 ∧ w.hits s.rank.cmpSeq then
    { s with rank := { s.rank with cmpMismatch := false, cmpTarget := 0, cmpCount := 0 } }
  else s

/-- RESYNC of queue `q` (R306). -/
def State.resync (s : State) (q : Nat) : State :=
  let cut := match (s.queue q).cur with
    | some p => !p.complete
    | none => false
  let s := s.onQueue q fun c => { c with discarding := false, fifo := [] }
  let s := if cut then s.firstReply q stBadLength [] else s
  s.pump q

/-- Writes in the CMD page, other than the FIFOs and CDW. -/
def State.writeCmd (s : State) (o : Nat) (w : RegWrite) : State :=
  if 0x080 ≤ o ∧ o < 0x0A0 then
    s.onQueue ((o - 0x80) / 4) fun c => if w.hits c.seq then { c with ovf := false, proto := false } else c
  else if 0x0A0 ≤ o ∧ o < 0x0C0 then
    (if w.sel 0 1 && w.data % 2 == 1 then s.resync ((o - 0xA0) / 4) else s)
  else s

/-- Writes in the ACC page. -/
def State.writeAcc (s : State) (o : Nat) (w : RegWrite) : State :=
  if o = 0x014 ∧ w.hits s.acc.violSeq then { s with acc := { s.acc with violValid := false, violMore := 0 } }
  else if o = 0x030 ∧ w.hits s.acc.noteSeq then { s with acc := { s.acc with notePending := false, noteNew := 0 } }
  else if o = 0x050 ∧ w.sel 0 15 then { s with acc := { s.acc with slotSel := w.fld 0 15 } }
  else s

/-- Writes in the INT page. -/
def State.writeInt (s : State) (o : Nat) (w : RegWrite) : State :=
  if o = 0x004 ∧ w.hits s.cfg.clampSeq then { s with cfg := { s.cfg with clampLogged := false, clampNew := 0 } } else s

/-- Writes in the PWR page. -/
def State.writePwr (s : State) (o : Nat) (w : RegWrite) : State :=
  if o = 0x000 ∧ w.hits s.rst.causeSeq then { s with rst := { s.rst with cause := 0 } }
  else if o = 0x008 ∧ w.sel 0 13 then
    let v := near 16 4096 (w.fld 0 13)
    let s := s.clampFld (.global 4 o) 0 13 (w.fld 0 13) v
    { s with cfg := { s.cfg with gap := v } }
  else if o = 0x00C ∧ w.sel 0 10 then
    let v := near 1 1000 (w.fld 0 10)
    let s := s.clampFld (.global 4 o) 0 10 (w.fld 0 10) v
    { s with cfg := { s.cfg with quiesceLimit := v } }
  else if o = 0x010 ∧ w.hits s.rst.dom.seq then { s with rst := { s.rst with dom := { s.rst.dom with timedOut := false } } }
  else if o = 0x084 ∧ w.hits s.pwr.wakeSeq then { s with pwr := { s.pwr with wakeBits := 0, wakeCount := 0, wakeLines := 0 } }
  else if o = 0x090 then { s with pwr := { s.pwr with alarm := s.pwr.alarm / 2 ^ 32 * 2 ^ 32 + w.val } }
  else if o = 0x094 then { s with pwr := { s.pwr with alarm := s.pwr.alarm % 2 ^ 32 + w.val * 2 ^ 32 } }
  else if o = 0x098 ∧ w.sel 0 1 then
    let on := w.fld 0 1 == 1
    { s with pwr := { s.pwr with alarmEn := on, alarmFired := s.pwr.alarmFired && !on } }
  else s

/-- Writes in the LDG page. -/
def State.writeLdg (s : State) (o : Nat) (w : RegWrite) : State :=
  if o = 0x000 then
    { s with ldg := { s.ldg with selInst := w.fld 0 9, selBlock := w.fld 9 1 == 1 } }
  else if o = 0x004 ∧ w.sel 0 1 ∧ w.data % 2 = 1 then
    { s with ldg := { s.ldg with snap := if s.ldg.selBlock then s.ldg.block else s.ledger s.ldg.selInst } }
  else if o = 0x060 then
    let v := if w.sel 0 6 then near 16 40 (w.fld 0 6) else s.cfg.auditPeriod
    let s := if w.sel 0 6 then s.clampFld (.global 5 o) 0 6 (w.fld 0 6) v else s
    let on := w.fld 6 1 == 1
    let s : State := if on && !s.cfg.auditPeriodic then
        { s with ldg := { s.ldg with periodKnown := s.tb.good, periodStart := s.tick } } else s
    { s with cfg := { s.cfg with auditPeriod := v, auditPeriodic := on, auditCredit := w.fld 7 1 == 1 } }
  else if o = 0x064 ∧ w.hits s.ldg.statSeq then
    { s with ldg := { s.ldg with mismatch := false, creditMismatch := false, rebased := false } }
  else if o = 0x080 then
    let v := if w.sel 0 6 then near 36 46 (w.fld 0 6) else s.cfg.recPeriod
    let s := if w.sel 0 6 then s.clampFld (.global 5 o) 0 6 (w.fld 0 6) v else s
    { s with cfg := { s.cfg with recPeriod := v, recPeriodic := w.fld 6 1 == 1 } }
  else if o = 0x084 ∧ w.hits s.rcd.statSeq then { s with rcd := { s.rcd with skipped := false, cut := false } }
  else s

/-- Writes in the FLT page. -/
def State.writeFlt (s : State) (o : Nat) (w : RegWrite) : State :=
  if o = 0x000 ∧ w.hits s.flt.seq then
    { s with flt := { s.flt with corr := false, cont := false, cwr := false, uncont := false, new_ := 0 } }
  else if o = 0x014 ∧ w.sel 0 10 then
    let v := near 1 1000 (w.fld 0 10)
    let s := s.clampFld (.global 6 o) 0 10 (w.fld 0 10) v
    { s with cfg := { s.cfg with hold := v } }
  else if 0x180 ≤ o ∧ promoting.contains ((o - 0x180) / 4) then
    let c := (o - 0x180) / 4
    let p : Pre := tget (fun _ => {}) s.flt.pre c
    let n := if w.sel 0 8 then max 1 (w.fld 0 8) else p.n
    let win := if w.sel 8 16 then max 1 (w.fld 8 16) else p.win
    let s := if w.sel 0 8 then s.clampFld (.global 6 o) 0 8 (w.fld 0 8) n else s
    let s := if w.sel 8 16 then s.clampFld (.global 6 o) 8 16 (w.fld 8 16) win else s
    { s with flt := { s.flt with pre := tset (fun _ => {}) s.flt.pre c { p with n := n, win := win } } }
  else s

/-- Writes in the TBS page. -/
def State.writeTbs (s : State) (o : Nat) (w : RegWrite) : State :=
  if o = 0x008 ∧ w.hits s.tb.seq then { s with tb := { s.tb with fallback := false, reject := false, rejects := 0 } } else s

/-- LINE_CFG[k] (R76, R80): an order at the home bank of the line. -/
def State.writeLineCfg (s : State) (k : Nat) (w : RegWrite) : State :=
  s.sendOrder k (.lineCfg { data := w.data, mask := w.mask, by_ := s.judged })

/-- LINE_STAT[k] (R77). -/
def State.writeLineStat (s : State) (k : Nat) (w : RegWrite) : State :=
  s.onLine k fun l => if w.hits l.seq then { l with overrun := false, ovrCount := 0 } else l

/-- A hot write that the front file accepts enters the hot write queue (R352). -/
def State.hotPush (s : State) (h : HotWrite) : State := { s with bus := { s.bus with hotq := s.bus.hotq ++ [h] } }

/-- Writes in a target page (R205 to R207, R209, R230, R275). -/
def State.writeTarget (s : State) (t o : Nat) (w : RegWrite) : State :=
  let c := s.tgt t
  let j := s.judged
  if o = 0x000 then
    if (s.shownReg t).2 && nfld w.data 24 8 == c.pseq then
      (s.onPort t fun p => { p with taken := true }).hotPush (.take t c.pseq j)
    else s
  else if o = 0x004 then s.hotPush (.done t (nfld w.data 0 20) j)
  else if o = 0x008 then
    if c.path && decide (t < 1024) && w.sel 0 7 then
      let v := min 64 (w.fld 0 7)
      let s := s.clampFld (.target t o) 0 7 (w.fld 0 7) v
      let s := { s with bus := { s.bus with frontRun := tset (fun _ => none) s.bus.frontRun t (some v) } }
      s.hotPush (.runlvl t v j)
    else s
  else if o = 0x00C then
    if c.virt && w.sel 0 9 then
      let v := w.fld 0 9
      let s := { s with bus := { s.bus with frontRes := tset (fun _ => none) s.bus.frontRes t (some v) } }
      s.hotPush (.resInst t v j)
    else s
  else if o = 0x110 ∧ w.hits c.port.statSeq then s.onPort t fun p => { p with stat := 0, statCount := 0 }
  else if o = 0x118 ∧ t ≥ 1024 ∧ w.hits c.far.seq then s.onFar t fun f => { f with limit := false, moves := 0 }
  else s

/-- Writes in an instance page (R85, R278). -/
def State.writeInst (s : State) (b : BusReq) (i o : Nat) (w : RegWrite) : State :=
  if o = 0x20 ∧ w.hits (s.ctx i).statSeq then
    s.onCtx i fun c => { c with statRate := false, statQuota := false, statStale := false, statShare := false }
  else if o = 0x40 then s.hotPush (.doorbell i (nfld w.data 0 10) b.master.toNat b.priv s.judged)
  else s

/-- An admitted write of one register. -/
def State.writeReg (s : State) (b : BusReq) (r : RegAt) (data mask : Nat) : State :=
  let w := regWrite (s.readReg r) data mask
  match r with
  | .global 0 o => s.writeGlb o w
  | .global 1 o => s.writeCmd o w
  | .global 2 o => s.writeAcc o w
  | .global 3 o => s.writeInt o w
  | .global 4 o => s.writePwr o w
  | .global 5 o => s.writeLdg o w
  | .global 6 o => s.writeFlt o w
  | .global _ o => s.writeTbs o w
  | .lineCfg k => s.writeLineCfg k w
  | .lineStat k => s.writeLineStat k w
  | .target t o => s.writeTarget t o w
  | .inst i o => s.writeInst b i o w
  | .hole => s

/-! ### The windows of 8-byte registers (R304, R308, R316, R318) -/

/-- A word written to CQn_CMD_FIFO (R308). -/
def State.pushWord (s : State) (q : Nat) (w : BitVec 64) : State :=
  let c := s.queue q
  if c.discarding then s
  else if c.fifo.length < 512 then (s.onQueue q fun c => { c with fifo := c.fifo ++ [w] }).pump q
  else
    let cut := match c.cur with
      | some p => !p.complete
      | none => false
    let s := s.onQueue q fun c => { c with ovf := true, discarding := true, seq := seqUp c.seq }
    if cut then s.firstReply q stBadLength [] else s

/-- A word written to CDW (R316, R318, R319). -/
def State.cdwWriteNow (s : State) (b : BusReq) : State :=
  let c := s.cmd.cdw
  if !s.cdwOpen || c.outward then s.respond b false 1 0
  else if c.space = 0 then
    ((s.onQueue c.q fun x => { x with proto := true, seq := seqUp x.seq }).endShort 0x11).respond b false 1 0
  else (s.cdwIn b.data).respond b false 0 0

/-- A word read from CDW (R316, R318). -/
def State.cdwReadNow (s : State) (b : BusReq) : State :=
  let c := s.cmd.cdw
  if !s.cdwOpen || !c.outward then s.respond b false 1 0
  else if !s.cdwReady then ({ s with cmd := { s.cmd with cdw := { c with last := s.tick } } }).respond b false 2 0
  else
    let r := s.cdwOut
    r.1.respond b false 0 r.2

/-- A word read from CQn_RPL_FIFO; the space admits waiting replies, and the queue goes on (R304, R308). -/
def State.popReply (s : State) (b : BusReq) (q : Nat) : State :=
  match (s.queue q).rpl with
  | [] => s.respond b false 0 0
  | w :: ws =>
    let s := (s.onQueue q fun c => { c with rpl := ws }).respond b false 0 w
    (s.flushLate q (s.queue q).late.length).pump q

/-! ### Whole accesses -/

/-- The writes of an access that is not masked: the register, and the one above for 8 bytes. -/
def writeHalves (b : BusReq) (r : RegAt) : List (RegAt × Nat) :=
  if b.size8 then [(r, fld b.data 0 32), (r.upper, fld b.data 32 32)] else [(r, fld b.data 0 32)]

/-- A seal refusal is counted (R362, R375). -/
def State.sealRefused (s : State) : State :=
  { s with cfg := { s.cfg with violCount := sat 65535 (s.cfg.violCount + 1), violSeq := seqUp s.cfg.violSeq } }

/-- A register write (R357, R362): every register of the access is judged on its own against the seal. -/
def State.busWrite (s : State) (b : BusReq) : State :=
  s.access b true fun s d v =>
    let hot := hotReg d.masked d.reg
    match d.masked, d.reg.cmdFifo with
    | false, some q => (s.pushWord q b.data).respond b false 0 0
    | _, _ =>
      if !d.masked && d.reg.isCdw then s.cdwWriteNow b
      else
        let ws := if d.masked then [(d.reg, fld b.data 0 32, fld b.data 32 32)]
          else (writeHalves b d.reg).map fun p => (p.1, p.2, 0xFFFFFFFF)
        let refused := fun (s : State) (p : RegAt × Nat × Nat) => s.cfg.sealed_ && (p.1.configMask &&& p.2.2 != 0)
        let s' := ws.foldl (fun (a : State × Bool) p =>
          if refused s p then (a.1.sealRefused, true) else (a.1.writeReg b p.1 p.2.1 p.2.2, a.2)) (s, false)
        if s'.2 then s'.1.refuseAccess b true hot { v with ok := false, kind := 8 } d.slot
        else s'.1.respond b hot 0 0

/-- What a read captures before it returns (R172, R402, R486). -/
def State.capture (s : State) (r : RegAt) : State :=
  match r with
  | .target t o => if o = 0x104 then s.onTgt t fun c => { c with occ := c.bitmap } else s
  | .global 7 o => if o = 0 then { s with tb := { s.tb with cap := if s.tb.good then s.tb.count else 0 } } else s
  | .global 2 o => if o = 0x54 then { s with acc := { s.acc with slotCap := s.slot s.acc.slotSel } } else s
  | _ => s

/-- A register read (R349, R354, R391). -/
def State.busRead (s : State) (b : BusReq) : State :=
  s.access { b with posted := false } false fun s d _ =>
    let b := { b with posted := false }
    let hot := hotReg d.masked d.reg
    if d.masked then s.respond b hot 0 0
    else
      match d.reg.rplFifo with
      | some q => s.popReply b q
      | none =>
        if d.reg.isCdw then s.cdwReadNow b
        else
          let s := s.capture d.reg
          let s := if b.size8 then s.capture d.reg.upper else s
          let hi := if b.size8 then s.readReg d.reg.upper else 0
          s.respond b hot 0 (w64 (s.readReg d.reg + hi * 2 ^ 32))

/-! ### The rows -/

/-- The row of the table to which a register write belongs. -/
inductive WriteRow
  | plain | sequence | modeReq | lineCfg | unsealLimit | ldgSnap | take | done | runlvl | resInst | doorbell | cmdFifo | resync | cdw
  deriving DecidableEq, Repr

/-- The row of a register. -/
def RegAt.row : RegAt → WriteRow
  | .global 0 o => if o = 0x4 then .modeReq else if o = 0x2C then .unsealLimit else if o = 0x34 ∨ o = 0xD0 then .sequence else .plain
  | .global 1 o =>
    if o < 0x80 then .cmdFifo else if o < 0xA0 then .sequence else if o < 0xC0 then .resync
    else if o = 0xC0 ∨ o = 0xC4 then .cdw else .plain
  | .global 2 o => if o = 0x14 ∨ o = 0x30 then .sequence else .plain
  | .global 3 o => if o = 0x4 then .sequence else .plain
  | .global 4 o => if o = 0 ∨ o = 0x10 ∨ o = 0x84 then .sequence else .plain
  | .global 5 o => if o = 0x4 then .ldgSnap else if o = 0x64 ∨ o = 0x84 then .sequence else .plain
  | .global 6 o => if o = 0 then .sequence else .plain
  | .global _ o => if o = 0x8 then .sequence else .plain
  | .lineCfg _ => .lineCfg
  | .lineStat _ => .sequence
  | .target _ o =>
    if o = 0 then .take else if o = 4 then .done else if o = 8 then .runlvl else if o = 0xC then .resInst
    else if o = 0x110 ∨ o = 0x118 then .sequence else .plain
  | .inst _ o => if o = 0x40 then .doorbell else if o = 0x20 then .sequence else .plain
  | .hole => .plain

/-- A write that is not masked belongs to the rows of the registers that it reaches. -/
def writeIs (b : BusReq) (k : WriteRow) : Bool :=
  let d := decodeAddr (reqAddr b)
  !d.masked && (d.reg.row == k || (b.size8 && d.reg.upper.row == k))

/-- REGISTER_WRITE (R357). -/
def execRegisterWrite (b : BusReq) (s : State) : Host.Outcome State Fault Refusal :=
  .next (if writeIs b .plain then s.busWrite b else s)

/-- MASKED_WRITE (R353): every write at a masked-write alias. -/
def execMaskedWrite (b : BusReq) (s : State) : Host.Outcome State Fault Refusal :=
  .next (if (decodeAddr (reqAddr b)).masked then s.busWrite b else s)

/-- SEQUENCE_WRITE (R355). -/
def execSequenceWrite (b : BusReq) (s : State) : Host.Outcome State Fault Refusal :=
  .next (if writeIs b .sequence then s.busWrite b else s)

/-- GLB_MODE_REQ_WRITE (R24). -/
def execGlbModeReqWrite (b : BusReq) (s : State) : Host.Outcome State Fault Refusal :=
  .next (if writeIs b .modeReq then s.busWrite b else s)

/-- LINE_CFG_WRITE (R80). -/
def execLineCfgWrite (b : BusReq) (s : State) : Host.Outcome State Fault Refusal :=
  .next (if writeIs b .lineCfg then s.busWrite b else s)

/-- UNSEAL_LIMIT_WRITE (R364). -/
def execUnsealLimitWrite (b : BusReq) (s : State) : Host.Outcome State Fault Refusal :=
  .next (if writeIs b .unsealLimit then s.busWrite b else s)

/-- LDG_SNAP_TAKE (R140). -/
def execLdgSnapTake (b : BusReq) (s : State) : Host.Outcome State Fault Refusal :=
  .next (if writeIs b .ldgSnap then s.busWrite b else s)

/-- TGT_TAKE_WRITE (R205). -/
def execTgtTakeWrite (b : BusReq) (s : State) : Host.Outcome State Fault Refusal :=
  .next (if writeIs b .take then s.busWrite b else s)

/-- TGT_DONE_WRITE (R206). -/
def execTgtDoneWrite (b : BusReq) (s : State) : Host.Outcome State Fault Refusal :=
  .next (if writeIs b .done then s.busWrite b else s)

/-- TGT_RUNLVL_WRITE (R207). -/
def execTgtRunlvlWrite (b : BusReq) (s : State) : Host.Outcome State Fault Refusal :=
  .next (if writeIs b .runlvl then s.busWrite b else s)

/-- TGT_RES_INST_WRITE (R275). -/
def execTgtResInstWrite (b : BusReq) (s : State) : Host.Outcome State Fault Refusal :=
  .next (if writeIs b .resInst then s.busWrite b else s)

/-- INST_DOORBELL_WRITE (R85). -/
def execInstDoorbellWrite (b : BusReq) (s : State) : Host.Outcome State Fault Refusal :=
  .next (if writeIs b .doorbell then s.busWrite b else s)

/-- CQ_CMD_FIFO_WRITE (R308). -/
def execCqCmdFifoWrite (b : BusReq) (s : State) : Host.Outcome State Fault Refusal :=
  .next (if writeIs b .cmdFifo then s.busWrite b else s)

/-- CQ_RESYNC (R306). -/
def execCqResync (b : BusReq) (s : State) : Host.Outcome State Fault Refusal :=
  .next (if writeIs b .resync then s.busWrite b else s)

/-- CDW_WRITE (R316). -/
def execCdwWrite (b : BusReq) (s : State) : Host.Outcome State Fault Refusal :=
  .next (if writeIs b .cdw then s.busWrite b else s)

/-- The registers whose reads have a row of their own. -/
def ownRead (r : RegAt) : Bool :=
  match r with
  | .target _ o => o == 0x104
  | .global 7 o => o == 0
  | .global 2 o => o == 0x54
  | r => r.rplFifo.isSome || r.isCdw

/-- A read reaches a register, as its lower or its upper half. -/
def readIs (b : BusReq) (f : RegAt → Bool) : Bool :=
  let d := decodeAddr (reqAddr b)
  !d.masked && (f d.reg || (b.size8 && f d.reg.upper))

/-- REGISTER_READ (R391). -/
def execRegisterRead (b : BusReq) (s : State) : Host.Outcome State Fault Refusal :=
  .next (if readIs b ownRead then s else s.busRead b)

/-- TGT_OCC_LO_READ (R172). -/
def execTgtOccLoRead (b : BusReq) (s : State) : Host.Outcome State Fault Refusal :=
  .next (if readIs b (fun r => match r with | .target _ o => o == 0x104 | _ => false) then s.busRead b else s)

/-- TB_COUNT_LO_READ (R486). -/
def execTbCountLoRead (b : BusReq) (s : State) : Host.Outcome State Fault Refusal :=
  .next (if readIs b (fun r => r == .global 7 0) then s.busRead b else s)

/-- ACC_SLOT_LO_READ (R402). -/
def execAccSlotLoRead (b : BusReq) (s : State) : Host.Outcome State Fault Refusal :=
  .next (if readIs b (fun r => r == .global 2 0x54) then s.busRead b else s)

/-- CQ_RPL_FIFO_READ (R304). -/
def execCqRplFifoRead (b : BusReq) (s : State) : Host.Outcome State Fault Refusal :=
  .next (if readIs b (fun r => r.rplFifo.isSome) then s.busRead b else s)

/-- CDW_READ (R318). -/
def execCdwRead (b : BusReq) (s : State) : Host.Outcome State Fault Refusal :=
  .next (if readIs b (fun r => r.isCdw) then s.busRead b else s)

/-- CDW_ABANDON_TIMEOUT (R319): 2^24 ticks without an access. -/
def execCdwAbandonTimeout (s : State) : Host.Outcome State Fault Refusal :=
  .next (if s.cdwOpen && s.tb.good && decide (s.cmd.cdw.last + 2 ^ 24 ≤ s.tick) then s.endShort 0x19 else s)

/-- HOT_WRITE_APPLY (R352): the oldest hot write reaches the bank or context that applies it. A take that meets a withdrawal waits as
a captured one for the answer of the front file (R112, R204); a running level that meets PATH 0 is ignored (R207). -/
def State.hotApply (s : State) : State :=
  match s.bus.hotq with
  | [] => s
  | h :: hs =>
    let pop := fun (s : State) => { s with bus := { s.bus with hotq := hs } }
    match h with
    | .take t seq _ =>
      let s := (pop s).stageOk 6 t
      if (s.tgt t).pseq = seq ∧ (s.tgt t).held then
        (match (s.tgt t).pres with
         | some e =>
           if s.withdrawing e then s.onPort t fun p => { p with takenCut := true, takeAfter := 0 }
           else
             let s := s.onTgt t fun c => c.takeLevel e c.presLevel
             if s.bankFull e then s.onPort t fun p => { p with takenCut := true, takeAfter := 0 } else s.applyTake t
         | none => s.applyTake t)
      else s
    | .done t e _ =>
      if e < 0x41000 ∧ s.bankFull e then s else (pop s).orderDone t e true
    | .runlvl t v _ =>
      let s := pop s
      let s := if hs.any (fun x => match x with | .runlvl u _ _ => u == t | _ => false) then s else
        { s with bus := { s.bus with frontRun := terase s.bus.frontRun t } }
      if (s.tgt t).path then s.reportRun t v else s
    | .resInst t i _ =>
      let s := pop s
      let s := if hs.any (fun x => match x with | .resInst u _ _ => u == t | _ => false) then s else
        { s with bus := { s.bus with frontRes := terase s.bus.frontRes t } }
      if (s.tgt t).virt then
        let r := match (s.tgt t).switching with
          | some w => (s, w.cell)
          | none => s.takePool
        r.1.onTgt t fun c => { c with resInst := i, switching := some { step := 1, inst := i, gen := (s.ctx i).parity, cell := r.2 } }
      else s
    | .doorbell i n m p j =>
      let bell : Bell := { inst := i, swev := n, master := m, priv := p }
      if s.intakeShut then
        (if s.bus.bells.length < 32 then { pop s with bus := { (pop s).bus with bells := s.bus.bells ++ [bell] } } else s)
      else
        let e := 0xA00 + n
        if s.bankFull e then s
        else (pop s).orderPulse e 0 s.tick
          { owner := some i, master := m, priv := p, slot := 0x0E00 + i, chan := 0, epoch := j.epoch }

def execHotWriteApply (s : State) : Host.Outcome State Fault Refusal :=
  .next (if s.isHeld 3 || s.bus.hotq.isEmpty then s
    else ((if 2 ≤ s.pwr.rung then s.wakeRung .nib else s).hotApply).gateReplies)

end Sys2Proof.Machine
end

