-- ==== Sys2Proof/Machine/Watch.lean ====
section
/-! DEFINITION. What the block watches by itself: the scrub (R124, R128 to R130), the delay witness (R175 to R181, R471), the
walker (R361 to R365, R414) and the window of an UNSEAL (R364). -/
namespace Sys2Proof.Machine

/-! ### Scrub (R121, R122, R129) -/

/-- The regions of R121: first address and words to an entry. -/
def inkRegions : List (Nat × Nat) :=
  [(0x000000, 2), (0x410000, 1), (0x610000, 1), (0xA10000, 4), (0xC10000, 256), (0xD10000, 128), (0xE90000, 2), (0xED0000, 1),
   (0xF50000, 1), (0xF90000, 1)]

/-- The inkwell address of word `w` of a bank (R122): each region takes 1/64 of its words from each bank, entry by entry; the
word numbers are the model's (assumption log 74). -/
def bankAddr (bank w : Nat) : Nat :=
  let r := (inkRegions.filter fun r => decide (r.1 / 512 ≤ w)).getLastD (0, 2)
  let i := w - r.1 / 512
  r.1 + (i / r.2 * 64 + bank) * r.2 * 8 + i % r.2 * 8

/-- K_FLT_INFO of a fault in an inkwell word (R453). -/
def inkInfo (bank w a : Nat) : Nat := pack [(0, bank), (6, w), (21, inkRegion a)]

/-- The record of a lost source (R130): reset values but for INSTANCE; a pending event is discarded and its cell unlinked;
what stands at a target of it goes away. The answer is whether the cell was unrestored. -/
def State.loseRecord (s : State) (e : Nat) : State × Bool :=
  let r0 := s.source e
  let bare := s.cellLost e
  let i := if bare then 0 else r0.inst
  let shown := r0.place == .presented || r0.place == .withdrawing
  let s := if r0.pend then s.endPending e .disabled .inactive else s
  let s := if r0.inService then s.endService e else s
  let s := if shown then (s.clearTarget r0.serving false).settleSplice r0.serving else s
  let s := s.guestOut r0.target r0.inst
  let s := if s.guestFits 0 i then s.guestIn 0 i else s
  let s := ((s.putSource e { inst := i }).commit e r0).restoreCell e
  let s := s.onSource e fun r => { r with changes := 0 }
  let s := if r0.drain then s.sourceReplies e else s
  (s.unpark e, bare)

/-- The source cell of `e` is lost (R130): its list is repaired, and the stamp becomes the present tick. -/
def State.loseCell (s : State) (e : Nat) : State :=
  let s := match s.listOf e with
    | none => s
    | some l => s.startListRepair l
  (s.onSource e fun r => { r with stamp := s.tick }).restoreCell e

/-- The work of a lost pool cell starts again (R130). Switch work goes back to its first step and a retry timer starts anew; a batch
and a relay record go on with the members and the pulse that they still have. -/
def State.losePool (s : State) (n : Nat) : State :=
  forEach (s.tgts.map (·.1)) (fun t s => s.onTgt t fun c =>
    { c with switching := c.switching.map (fun w => if w.cell = some n then { w with step := 1 } else w),
             far := if c.far.retryDue.isSome && c.far.retryCell == n then c.far.startTimer s.tick else c.far }) s

/-- A ligature group is lost (R130): it releases at once, or after the repair of its list (R148), and becomes DISABLED with every
setting at its default, which ends the drain that a command waits for (R248). A batch goes on with the generation of the instance
that the group then names. -/
def State.loseGroup (s : State) (g : Nat) : State :=
  let busy := s.listHeld g
  let s := if busy then s else s.releaseNow g 8
  let c := s.grp g
  let p := (s.ctx 0).parity
  let s := s.putGrp g { lastSize := c.lastSize, lastCause := c.lastCause, held := c.held, owed := if busy then 8 else 0,
                        batches := c.batches.map fun b => { b with gen := p } }
  (s.cancelWork (.groupEnable g) 1 g).objectReplies (.groupEnable g) (.groupDisable g) 1 g

/-- An instance context is lost (R130): the instance is frozen. -/
def State.loseInst (s : State) (i : Nat) : State :=
  let c := s.ctx i
  let s := s.putCtx i { c with frozen := true, corrupt := true, phase := if c.frozen then c.phase else .freezing }
  if c.frozen then s else s.startSweep (.freeze (Fin.ofNat 512 i))

/-- One counter of a ledger. -/
def Ledger.set (l : Ledger) (k v : Nat) : Ledger :=
  if k = 0 then { l with accepted := v } else if k = 1 then { l with merged := v } else if k = 2 then { l with delivered := v }
  else if k = 3 then { l with withdrawn := v } else if k = 4 then { l with dStale := v }
  else if k = 5 then { l with dDisabled := v } else if k = 6 then { l with dReset := v }
  else if k = 7 then { l with outstanding := v } else { l with refused := v }

/-- A ledger word is lost (R130): its value is free, and the next audit rebases the ledger. -/
def State.loseLedger (s : State) (x : Nat × Nat) : State :=
  let v := (Config.freeWord s.free).toNat
  let l := s.ldg
  let l := if x.1 < 512 then { l with inst := tset (fun _ => {}) l.inst x.1 ((s.ledger x.1).set x.2 v) }
    else { l with block := l.block.set x.2 v }
  { s with free := s.free + 1, ldg := { l with badWords := addOnce (min x.1 512) l.badWords, auditDue := true } }

/-- The command in progress, the one of the lowest queue, returns INTEGRITY (R130). -/
def State.loseCommand (s : State) : State :=
  match (List.range 8).find? fun q => !s.withheld q && (match (s.queue q).cur with
    | none => false
    | some p => p.complete) with
  | none => s
  | some q => (s.cutReply q stIntegrity).pump q

/-- A scratch word is lost (R130): the command in progress ends, and a patch is reloaded. -/
def State.loseScratch (s : State) (a : Nat) : State :=
  let s := s.loseCommand
  if s.cmd.patch.isSome && Config.patchAt a && s.strap.boot == 1 then s.loadPatch else s

/-- The effect of an uncorrectable word, and the severity (R130); a slot word is rewritten as 0 (R383). -/
def State.loseWord (s : State) (a : Nat) : State × Nat :=
  match inkAt a with
  | .record e _ =>
    let r := s.loseRecord e
    (r.1, if r.2 then 2 else 1)
  | .trans n => (s.putTrans n { s.transEntry n with valid := false }, 1)
  | .cell n => (if n < poolBase then s.loseCell n else s.losePool n, 1)
  | .group g _ => (s.loseGroup g, 1)
  | .inst i _ => (s.loseInst i, 2)
  | .target t _ => (s.faultTarget t 2, 1)
  | .page n _ => (s.putPage n { s.page n with valid := false }, 1)
  | .slot n => ({ s.loseCommand with acc := { s.loseCommand.acc with slots := terase s.acc.slots n } }, 1)
  | .scratch => (s.loseScratch a, 1)
  | .ledger => (match Config.ledgerAt a with
    | none => s
    | some x => s.loseLedger x, 1)
  | .spare => (s, 1)

/-- A scrub of word 0 of a source record restores an unrestored cell (R124, R129). -/
def State.scrubRestore (s : State) (a : Nat) : State :=
  match inkAt a with
  | .record e 0 => if s.cellLost e then s.restoreCell e else s
  | _ => s

/-- A bank scrubs its next word now: 256 ticks after the last, while a good timebase counts them (R20, R129). -/
def State.scrubDue (s : State) (bank : Nat) : Bool :=
  let last := tget (fun _ => 0) s.scrubbed bank
  s.tb.good && (last == 0 || decide (last + 255 ≤ s.tick))

/-- What a read of word `w` of a bank finds (R128, R130): the bank uses and writes back the corrected word, or the word is lost. -/
def State.readWord (s : State) (bank w : Nat) (err : EccError) : State :=
  let a := bankAddr bank w
  match err with
  | .none => s
  | .single => s.report 2 0 (inkInfo bank w a)
  | .double =>
    let r := s.loseWord a
    (r.1.report 3 r.2 (inkInfo bank w a)).settleMode

/-- SCRUB_TICK (R128, R129, R130): the scrub of the next word of a bank, or the error that another access finds in a word that it
reads, right before the command of that access (assumption log 76). -/
def execScrubTick (bank : Fin 64) (err : WordRead) (s : State) : Host.Outcome State Fault Refusal :=
  let w := tget (fun _ => 0) s.scrub bank.val
  .next (if s.isHeld 2 || decide (2 ≤ s.pwr.rung) then s
    else match err with
      | .access v err => s.readWord bank.val v.val err
      | .scrub err =>
        if !s.scrubDue bank.val then s
        else
          let s := { s with scrub := tset (fun _ => 0) s.scrub bank.val ((w + 1) % 32768),
                            scrubbed := tset (fun _ => 0) s.scrubbed bank.val (s.tick + 1) }
          (if err = .double then s else s.scrubRestore (bankAddr bank.val w)).readWord bank.val w err)

/-! ### Delay witness (R175 to R181, R471) -/

/-- A value in a field of `n` bits; where it does not fit, no rule gives what the field shows, and the value is free. -/
def State.fit (s : State) (n v : Nat) : State × Nat :=
  if v < 2 ^ n then (s, v) else ({ s with free := s.free + 1 }, (Config.freeWord s.free).toNat % 2 ^ n)

/-- period_ps of R175; it is free where the window counted no revolution. -/
def State.witnessPeriod (s : State) (revs : Nat) : State × Nat :=
  if revs = 0 then ({ s with free := s.free + 1 }, max 1 (Config.freeWord s.free).toNat) else (s, ceilDiv 1000000 revs)

/-- A window enters its temperature bin (R471). -/
def Wit.add (w : Wit) (revs : Nat) : Wit :=
  { samples := sat (2 ^ 64 - 1) (w.samples + 1), revsSum := sat (2 ^ 64 - 1) (w.revsSum + revs), revsMin := min w.revsMin revs,
    revsMax := max w.revsMax revs }

/-- The witness histogram takes a window (R471). -/
def State.witnessAdd (s : State) (t revs : Nat) : State :=
  let d := s.rcd.work
  { s with rcd := { s.rcd with work := { d with wit := tset (fun _ => {}) d.wit t ((tget (fun _ => {}) d.wit t).add revs) } } }

/-- The publication at the end of a window (R175). -/
def State.publish (s : State) (revs : Nat) (tempC : Int) : State :=
  let p := s.witnessPeriod revs
  let s := p.1
  let win := (p.2 :: s.rank.window).take 4
  let r := win.foldl max 0
  let bound := ceilDiv (80 * r + 12000) 1000
  let a := s.fit 10 (121000 / r)
  let b := a.1.fit 12 r
  let s := b.1
  let exceeded := decide (100 < bound)
  let k := s.rank
  let s := { s with
    rank := { k with boundNs := min 100 bound, exceeded := exceeded, floor := a.2, period := b.2, revs := revs, window := win,
                     windowStart := k.windowStart + 500, published := true }
    rcd := { s.rcd with tempC := tempC, tempBin := tempBin tempC } }
  let s := s.witnessAdd (tempBin tempC) revs
  if exceeded then
    let i := s.fit 16 bound
    i.1.report 0x0C 0 i.2
  else s

/-- WITNESS_WINDOW_END (R175, R177). -/
def execWitnessWindowEnd (revs : Fin 65536) (tempC : Int) (s : State) : Host.Outcome State Fault Refusal :=
  if !tempWf tempC then .fault .illFormed
  else .next (if s.isHeld 4 || decide (2 ≤ s.pwr.rung) || !s.tb.good || decide (s.tick < s.rank.windowStart + 500) then s
    else s.publish revs.val tempC)

/-! ### Walker (R361) -/

/-- A register word as the walk takes it. -/
def State.walkReg (s : State) (r : RegAt) : Nat := s.readReg r &&& r.configMask

/-- The configuration bits of word `k` of a target context (R360). -/
def targetMask (k : Nat) : Nat := if k = 0 then 0xFFF0 else if k = 8 then 1 else 2 ^ 64 - 1

/-- The words of the walk (R361). -/
def walkLen : Nat := 12545

/-- Word `k` of the walk, as the walker reads it now (R361). -/
def State.walkWord (s : State) (k : Nat) : Nat :=
  if k < 512 then
    let o := k % 64 * 8
    s.walkReg (.global (k / 64) o) + s.walkReg (.global (k / 64) (o + 4)) * 2 ^ 32
  else if k < 1536 then
    let w := k - 512
    s.walkReg (.lineCfg (2 * w)) + s.walkReg (.lineCfg (2 * w + 1)) * 2 ^ 32
  else if k < 12288 then
    let n := [0, 1, 2, 4, 5, 6, 8].getD ((k - 1536) % 7) 0
    let t := (k - 1536) / 7
    ((s.tgt t).word t n).toNat &&& targetMask n
  else if k < 12544 then
    let w := k - 12288
    (List.range 64).foldl (fun a j => a + bn (s.page (64 * w + j)).relay * 2 ^ j) 0
  else
    match s.cmd.patch with
    | none => pack [(48, s.strap.boot)]
    | some p => pack [(0, p.crc.toNat), (32, p.ver), (48, s.strap.boot)]

/-- The walker runs: D2 and D3 are released and the rung is 0 or 1 (R361). -/
def State.walks (s : State) : Bool := !s.isHeld 2 && !s.isHeld 3 && decide (s.pwr.rung < 2)

/-- The walker reads its next word: at least one between two ticks (R361, assumption log 67). -/
def State.walkOne (s : State) : State :=
  let k := s.cfg.walkPos
  if s.walks && decide (k < walkLen) then
    { s with cfg := { s.cfg with walkPos := k + 1, walkCrc := crcWord s.cfg.walkCrc (s.walkWord k) } }
  else s

/-- CFG_CRC at the end of the pass: the words read so far and those still to read (R361). -/
def State.passCrc (s : State) : BitVec 32 :=
  let k := s.cfg.walkPos
  w32 (crcWords s.cfg.walkCrc ((List.range' k (walkLen - k)).map s.walkWord) ^^^ 0xFFFFFFFF)

/-- The pass of a COMMIT ends: CFG_REF is latched, the reply goes out, and START becomes SERVICE (R25, R363). -/
def State.latchRef (s : State) : State :=
  let c := s.cfg
  let s := { s with cfg := { c with ref := c.crc, refValid := true, matched := true, latchPend := false } }
  let s := match s.cmd.commitReply with
    | none => s
    | some (q, _, _) =>
      ({ s with cmd := { s.cmd with commitReply := none } }).firstReply q stOk [w64 s.cfg.ref.toNat]
  if s.mode.mode == .start then s.goTo .service else s

/-- The comparison at the end of a pass (R365). -/
def State.compareRef (s : State) : State :=
  let c := s.cfg
  if c.crc = c.ref then { s with cfg := { c with matched := true } }
  else if c.matched then
    (({ s with cfg := { c with matched := false } }).report 0x0D 2 (pack [(0, 1), (16, c.crc.toNat % 2 ^ 16)])).settleMode
  else s

/-- WALKER_PASS_END (R361, R363, R365); REBUILD may have waited for it (R414). -/
def execWalkerPassEnd (s : State) : Host.Outcome State Fault Refusal :=
  .next (if !s.walks then s
    else
      let s := ({ s with cfg := { s.cfg with crc := s.passCrc, passes := wrap 16 (s.cfg.passes + 1), walked := true } }).restartWalk
      let s := if s.cfg.latchPend then s.latchRef else if s.cfg.sealed_ then s.compareRef else s
      let s := if s.mode.mode == .rebuild then s.rebuilt else s
      s.settleCommit.pumpAll)

/-! ### A tick -/

/-- The cycles in which REQ of a Nib-1 port is low end (R54, R189); a hold of D7 keeps the ports as they are. -/
def State.endBlinks (s : State) : State :=
  if s.isHeld 7 then s
  else forEach (s.tgts.map (·.1)) (fun t s => if (s.tgt t).port.due.isSome then s.onPort t Port.blinked else s) s

/-- One tick passes: the timebase counts while it is good and not stopped, the block stands in its rung, a far
channel without credit stalls, the cold requests in flight are answered, a port ends its blink, the walker goes on, and what
waits in the buffer of the window or at a queue goes on (R20, R49, R54, R220, R302, R318, R361, R469). -/
def passTick (s : State) : State :=
  let s := { s with now := s.now + 1, bus := { s.bus with outstanding := [] } }
  let s := s.endBlinks.walkOne.settleCdw.pumpAll
  if s.tb.good && !s.pwr.stopped then
    let s := { s with tb := { s.tb with count := (s.tb.count + 1) % 2 ^ 64 } }
    let s := s.recCount (20 + s.pwr.rung) 1
    forEach [0, 1, 2, 3] (fun f s =>
      if decide (0 < s.readyAt f) && (s.farChan f).credits == 0 then
        s.onFarChan f fun c => { c with stallTicks := c.stallTicks + 1 } else s) s
  else s

/-- UNSEAL_WINDOW_EXPIRY (R364). -/
def execUnsealWindowExpiry (s : State) : Host.Outcome State Fault Refusal :=
  .next (if s.unsealOver && s.pwr.rung == 0 then s.unsealExpire else s)

end Sys2Proof.Machine
end

