-- ==== Sys2Proof/Machine/Faults.lean ====
section
/-! DEFINITION. Faults as commands: the dual-rail checks (R18, R449, R450, R454), the bank self-check (R449), the fault port
(R61, R62), lockstep (R315, R451) and the epoch drain (R396). -/
namespace Sys2Proof.Machine

/-! ### Dual-rail checks (R18, R449, R450) -/

/-- The core supply feeds the datapath: every mode but COLD and PARK. -/
def State.corePowered (s : State) : Bool := s.rst.cold.isEmpty && s.mode.mode != .park && s.pwr.pokCore

/-- A dual-rail failure at a stage (R18, R450): the run of the stage, and the fault; a promoted one at a nib port faults its
target (R454). The word is presented or recomputed again, so nothing else changes. The house pulse of the fault itself is no
success of the failing word (log 39). -/
def State.datapathFault (s : State) (part unit : Nat) : State :=
  let k := stageKey part unit
  let n := min 3 (tget (fun _ => 0) s.flt.runs k + 1)
  let base := if n = 3 then 3 else 0
  let promoted := s.promotes 1 && base == 0
  let s := if promoted && part == 6 && decide (unit < 1024) then s.faultTarget unit 5 else s
  let s := s.report 1 base (pack [(0, part), (4, unit), (16, n)])
  let s := s.settleMode
  { s with flt := { s.flt with runs := tset (fun _ => 0) s.flt.runs k n } }

/-- DATAPATH_CODE_ERROR (R18). PART codes run from 0x1 to 0x8. -/
def execDatapathCodeError (part : Fin 8) (unit : BitVec 12) (s : State) : Host.Outcome State Fault Refusal :=
  .next (if s.corePowered then s.datapathFault (part.val + 1) unit.toNat else s)

/-- DUALRAIL_INCOMPLETE_TIMEOUT (R449). -/
def execDualrailIncompleteTimeout (part : Fin 8) (unit : BitVec 12) (s : State) : Host.Outcome State Fault Refusal :=
  .next (if s.corePowered then s.datapathFault (part.val + 1) unit.toNat else s)

/-- A bank fault (R449): no correction is made. -/
def State.bankFault (s : State) (bank : Nat) : State := (s.report 4 3 bank).settleMode

/-- BANK_PARITY_FAULT (R449). -/
def execBankParityFault (bank : Fin 64) (s : State) : Host.Outcome State Fault Refusal :=
  .next (if s.corePowered && !s.isHeld 2 then s.bankFault bank.val else s)

/-! ### Fault port (R61, R62) -/

/-- FAULT_RECORD_TRANSFER (R61, R62): the oldest record leaves; when records were dropped, one overflow record takes the
space with their count. -/
def execFaultRecordTransfer (s : State) : Host.Outcome State Fault Refusal :=
  .next (if !s.fabOn then s
    else match s.flt.queue with
      | [] => s
      | _ :: rest =>
        let n := s.flt.dropsOwed
        let s := { s with flt := { s.flt with queue := rest, dropsOwed := 0 } }
        if n = 0 then s else s.report 0x17 0 (sat 65535 n))

/-! ### Lockstep (R315, R451) -/

/-- A pair is disabled; its fault is uncontained when it was the last one enabled. -/
def State.disablePair (s : State) (p info : Nat) : State :=
  let s := { s with cmd := { s.cmd with pairsDisabled := addOnce p s.cmd.pairsDisabled } }
  let sev := if s.cmd.pairsDisabled.length = 4 then 3 else 2
  (s.report 6 sev (info + 2 ^ 13)).settleMode

/-- A further mismatch within 2^20 ticks after the last restart of a pair. -/
def State.soonAgain (s : State) (p : Nat) : Bool :=
  let t := tget (fun _ => 0) s.cmd.lastRestart p
  decide (0 < t) && decide (s.tick < t - 1 + 2 ^ 20)

/-- The reply that GATE_RULES or COMMIT of queue `q` still waited for is given up (R363, R396). -/
def State.dropWithheld (s : State) (q : Nat) : State :=
  { s with cmd := { s.cmd with gates := s.cmd.gates.filter (·.1 != q),
                               commitReply := s.cmd.commitReply.filter fun c => c.1 != q } }

/-- A mismatch of a pair during the command of queue `q`: the command returns INTERNAL, and the pair restarts or is
disabled. -/
def State.mismatch (s : State) (p q opcode : Nat) : State :=
  let info := pack [(0, p), (2, q), (5, opcode)]
  let s := (s.dropWithheld q).cutReply q stInternal
  let s : State := if s.soonAgain p then s.disablePair p info
    else
      let s := { s with cmd := { s.cmd with pairsRestarting := s.cmd.pairsRestarting ++ [(p, info)],
                                            restarts := sat 15 (s.cmd.restarts + 1) } }
      s.report 6 1 info
  s.pumpAll

/-- LOCKSTEP_MISMATCH (R315, R451): a mismatch of the pair that runs the complete packet of queue `q`, whose reply may still be withheld. -/
def execLockstepMismatch (pair : Fin 4) (q : Fin 8) (s : State) : Host.Outcome State Fault Refusal :=
  .next (if s.pairOf q.val != some pair.val || !s.pairReady q.val then s
    else match (s.queue q.val).cur with
      | none => s
      | some p => if p.complete then s.mismatch pair.val q.val (hdrOpcode p.hdr) else s)

/-- The restart of a pair ends with its self-test. A pair that failed it is disabled; a pair also runs a self-test when D3 is
released, before the firmware is ready. -/
def State.restartDone (s : State) (p : Nat) (pass : Bool) : State :=
  match s.cmd.pairsRestarting.find? (fun x => x.1 == p) with
  | some x =>
    let s := { s with cmd := { s.cmd with pairsRestarting := s.cmd.pairsRestarting.filter fun x => x.1 != p } }
    let s := if pass then
        { s with cmd := { s.cmd with lastRestart := tset (fun _ => 0) s.cmd.lastRestart p (s.tick + 1) } }
      else s.disablePair p x.2
    s.pumpAll
  | none =>
    if pass || s.isHeld 3 || s.cmd.fwReady || s.cmd.pairsDisabled.contains p then s else s.disablePair p p

/-- LOCKSTEP_RESTART_COMPLETE (R451). -/
def execLockstepRestartComplete (pair : Fin 4) (pass : Bool) (s : State) : Host.Outcome State Fault Refusal :=
  .next (s.restartDone pair.val pass)

/-! ### Epochs (R396) -/

/-- EPOCH_DRAINED (R396). -/
def execEpochDrained (s : State) : Host.Outcome State Fault Refusal :=
  .next (if s.isHeld 3 then s else s.gateReplies.pumpAll)

end Sys2Proof.Machine
end

