-- ==== Sys2Proof/Machine/Image.lean ====
section
/-! DEFINITION. The image of the lifetime record (R469 to R473, R479): its 905 words, and the replies of RECORD_READ that wait
for a write to end. -/
namespace Sys2Proof.Machine

/-- Words of an image (R472). -/
def imageLen : Nat := 905

/-- The words of temperature bin `t` (R472). -/
def witWords (w : Wit) : List Nat := [w.samples, w.revsSum, pack [(0, w.revsMin), (16, w.revsMax)]]

/-- Words 4 to 903 of an image (R472). -/
def RecData.words (d : RecData) : List Nat :=
  (List.range 40).map (fun c => tget (fun _ => 0) d.ctr c) ++
  (List.range 768).map (fun k => tget (fun _ => 0) d.lat k) ++
  (List.range 16).flatMap (fun t => witWords (tget (fun _ => {}) d.wit t)) ++
  (List.range 20).map (fun k => tget (fun _ => 0) d.lig k) ++
  (List.range 24).map (fun k => tget (fun _ => 0) d.wake k)

/-- The 905 words of an image; `copy` is 0 for A, 1 for B, 3 for a working snapshot. -/
def Image.words (i : Image) (copy : Nat) : List (BitVec 64) :=
  let ws := [pack [(0, 0x4C52), (16, 1), (24, copy)], pack [(0, i.seq), (32, imageLen)], i.writes, i.tick] ++ i.data.words
  (ws ++ [crc32c ws]).map w64

/-- The words of a stored copy as they stand (R473, R479). -/
def Copy.words (c : Copy) (b : Bool) : List (BitVec 64) :=
  match c with
  | .valid i => i.words (bn b)
  | .blank => 0 :: (List.range 904).map fun k => Config.arrayWord 0 0 b (k + 1)
  | .failed i => (List.range 905).map fun k => Config.arrayWord i.tick i.seq b k

/-- SEQ of the next write (R475). -/
def Rec.nextSeq (r : Rec) : Nat := match r.chosen with
  | none => 1
  | some i => wrap 32 (i.seq + 1)

/-- The next write goes to copy B (R475). -/
def Rec.nextB (r : Rec) : Bool := (r.copyA.isValid || r.copyB.isValid) && !r.chosenB

/-- WRITES of the next image (R475): one more than the copy being written last stored; of the chosen copy where that copy has
failed. -/
def Rec.nextWrites (r : Rec) : Nat :=
  let c := if r.nextB then r.copyB else r.copyA
  match c, r.chosen with
  | .valid i, _ => wrap 32 (i.writes + 1)
  | .failed _, some i => wrap 32 (i.writes + 1)
  | _, _ => 1

/-- A snapshot of the working copies (R475). -/
def State.snapshot (s : State) (writes : Nat) : Image :=
  { seq := s.rcd.nextSeq, writes := writes, tick := s.tick, data := s.rcd.work }

/-- The window opens for the words of a read of the record, and the second reply goes out (R341, R479). -/
def State.openRead (s : State) (id : Nat) (ok : Bool) (ws : List (BitVec 64)) : State :=
  let q := match s.cmd.deferred.find? (fun d => d.id == id) with
    | none => 0
    | some d => d.q
  (s.openCdw q id none true ws.length (.words ws)).answerOwner (some id) (if ok then stOk else stIntegrity) [w64 ws.length]

/-- One stored copy is read. -/
def State.readCopy (s : State) (id : Nat) (b : Bool) : State :=
  let c := if b then s.rcd.copyB else s.rcd.copyA
  s.openRead id c.isValid (c.words b)

/-- The reads that waited for a write get what stands in the array (R479). -/
def State.settleReads (s : State) : State :=
  let w := s.rcd.readWait
  forEach w (fun x s => s.readCopy x.1 x.2) { s with rcd := { s.rcd with readWait := [] } }

end Sys2Proof.Machine
end

