-- ==== Sys2Proof/Machine/Reset.lean ====
section
/-! DEFINITION. Resets and the ductus as commands (R403 to R421): assertions and releases, what a warm reset takes
hold of, the intake drain, the release of domains, and the reset of one domain. -/
namespace Sys2Proof.Machine

/-! ### Cold reset -/

/-- COLD_RESET_ASSERT (R403). -/
def execColdResetAssert (src : ColdSrc) (s : State) : Host.Outcome State Fault Refusal := .next (s.coldAssert src)

/-- A cold source is released; at the last one the straps are sampled and D0 is released (R409, R412). -/
def State.coldRelease (s : State) (src : ColdSrc) (pins : StrapPins) : State :=
  if !s.rst.cold.contains src then s
  else
    let left := s.rst.cold.filter (· != src)
    let s := { s with rst := { s.rst with cold := left },
                      pwr := { s.pwr with pokCore := s.pwr.pokCore || src == .pokCore } }
    if !left.isEmpty then s
    else
      let s := s.sampleStraps pins
      let s := { s with
        rst := { s.rst with held := without 0 s.rst.held, next := 1, running := true, coldReach := true,
                            lastRelease := s.instant },
        tb := { s.tb with d0Release := s.instant, lostAt := s.now } }
      s.enterMode .ductus

/-- COLD_RESET_RELEASE (R409). -/
def execColdResetRelease (src : ColdSrc) (pins : StrapPins) (s : State) : Host.Outcome State Fault Refusal :=
  .next (s.coldRelease src pins)

/-! ### Warm reset -/

/-- A warm source asserts; transfers through the window end short when the warm reset begins (R319, R405). -/
def State.warmNow (s : State) (src : WarmSrc) : State :=
  (if s.rst.cold.isEmpty && s.mode.mode != .warm then s.stopCdw else s).warmAssert src

/-- A warm source is released; the ductus starts after the last one (R410, R412). -/
def State.warmRelease (s : State) (src : WarmSrc) : State :=
  if s.rst.warm.contains src then
    ({ s with rst := { s.rst with warm := s.rst.warm.filter (· != src) } }).startWarmDuctus
  else s

/-- WARM_RESET_ASSERT (R405). The warm reset of K_ESC stands while K_ESC reads 0b11 (R63). -/
def execWarmResetAssert (src : WarmSrc) (s : State) : Host.Outcome State Fault Refusal :=
  .next (if src == .esc && s.pins.esc != 3 then s else s.warmNow src)

/-- WARM_RESET_RELEASE (R410). -/
def execWarmResetRelease (src : WarmSrc) (s : State) : Host.Outcome State Fault Refusal :=
  .next (if src == .esc && s.pins.esc == 3 then s else s.warmRelease src)

/-- A warm reset is taking hold of its reach. -/
def State.takingHold (s : State) : Bool :=
  s.rst.cold.isEmpty && (s.mode.mode == .warm || (s.mode.mode == .ductus && s.rst.running && s.rst.next == 1))

/-- A domain is held. -/
def State.holdDomain (s : State) (n : Nat) : State := { s with rst := { s.rst with held := addOnce n s.rst.held } }

/-- WARM_RESET_TAKE_HOLD (R405): D3 once the hot writes are applied and no write of the intake drain is left
to judge (R380, assumption log 72), D5 and D6 once the intake drain has ended, D2 once no domain that sends orders is left. -/
def execWarmResetTakeHold (part : HoldPart) (s : State) : Host.Outcome State Fault Refusal :=
  .next (if !s.takingHold then s
    else match part with
      | .d3 => if s.isHeld 3 || !s.bus.hotq.isEmpty || s.rst.drainStart.isSome then s else (s.holdD3 true).holdDomain 3
      | .d5d6 => if s.rst.drainStart.isSome then s else (s.holdDomain 5).holdDomain 6
      | .d2 => if s.isHeld 3 && s.isHeld 5 && s.isHeld 6 then s.holdDomain 2 else s)

/-! ### Intake drain (R47) -/

/-- INTAKE_DRAIN_COMPLETE (R47). -/
def execIntakeDrainComplete (s : State) : Host.Outcome State Fault Refusal :=
  .next (if s.rst.drainStart.isSome && s.buffersEmpty then { s with rst := { s.rst with drainStart := none } } else s)

/-- Writes left in the channel buffers are dropped: counted in INT_DRAIN_DROP, with an intake-drain fault for each
channel in ascending order of its detail word (R47, R417, R458). -/
def State.dropBuffers (s : State) : State :=
  let infos := channels.foldl (fun l c =>
    let n := (s.chan c).buf.length
    if n = 0 then l else addOnce (pack [(0, c), (4, sat 4095 n)]) l) []
  let total := channels.foldl (fun a c => a + (s.chan c).buf.length) 0
  let s := forEach channels (fun c s => s.onChan c fun x => { x with buf := [], old := 0, cellWait := false }) s
  let s := { s with cfg := { s.cfg with drainDrop := wrap 32 (s.cfg.drainDrop + total) } }
  forEach infos (fun i s => s.report 0x14 1 i) s

/-- INTAKE_DRAIN_TIMEOUT (R47): 2 µs after the assertion. -/
def execIntakeDrainTimeout (s : State) : Host.Outcome State Fault Refusal :=
  .next (match s.rst.drainStart with
    | none => s
    | some t => if s.now < t + 1000 then s else { s.dropBuffers with rst := { s.dropBuffers.rst with drainStart := none } })

/-! ### Escalation (R63, R460) -/

/-- A rise of K_ESC is counted in FLT_ESC_COUNT and in the record (R460). -/
def State.countEsc (s : State) (v : Nat) : State :=
  let f := s.flt
  if v = 1 then ({ s with flt := { f with escNotify := sat 1023 (f.escNotify + 1) } }).recCount 30 1
  else if v = 2 then ({ s with flt := { f with escRecovery := sat 1023 (f.escRecovery + 1) } }).recCount 31 1
  else ({ s with flt := { f with escWarm := sat 1023 (f.escWarm + 1) } }).recCount 32 1

/-- Level 2 leads to RECOVERY, or is held (R25, R26). -/
def State.escRecover (s : State) : State :=
  match s.mode.mode with
  | .start | .service | .test | .quiesce => s.enterMode .recovery
  | .ductus | .rebuild | .park | .wake => { s with mode := { s.mode with heldEsc := true } }
  | .cold | .warm | .recovery | .failsafe => s

/-! ### Straps (R38) -/

/-- STRAP_CHANGE (R38): an input that changes to a value other than the sampled one. -/
def execStrapChange (p : StrapPins) (s : State) : Host.Outcome State Fault Refusal :=
  let o := s.pins.straps
  let k := s.strap
  let bad : List Nat :=
    (if p.tb ≠ o.tb ∧ p.tb.val ≠ (if k.tbClamped then 3 else k.tb) then [1] else []) ++
    (if p.boot ≠ o.boot ∧ p.boot.val ≠ (if k.bootClamped then 3 else k.boot) then [2] else []) ++
    (if p.blockNum ≠ o.blockNum ∧ p.blockNum.val ≠ k.blockNum then [4] else []) ++
    (if p.nibGen ≠ o.nibGen ∧ p.nibGen ≠ k.nibGen then [5] else [])
  let s := { s with pins := { s.pins with straps := p } }
  .next (if !s.rst.cold.isEmpty || bad.isEmpty then s
    else forEach bad (fun i s => s.report 0x0E 1 i) { s with strap := { s.strap with changed := true } })

/-! ### The ductus (R406 to R412) -/

/-- DOMAIN_RELEASE (R406). -/
def execDomainRelease (s : State) : Host.Outcome State Fault Refusal :=
  let n := s.rst.next
  .next (if s.rst.running && decide (n ≤ 8) && s.mayRelease n && s.gapPassed then
      let s := s.freeDomain n
      if n = 3 then s.releaseD3 (s.mode.mode != .wake) (s.rst.coldReach || s.rst.fromPark)
      else
        let s := s.releaseActions n
        if n = 8 then s.endDuctus else s
    else s)

/-- INKWELL_INIT_COMPLETE (R408, R474). -/
def execInkwellInitComplete (s : State) : Host.Outcome State Fault Refusal :=
  .next (if s.rst.waitInit then
      let s := s.initInkwell.loadRecord
      { s with rst := { s.rst with waitInit := false, needInit := false } }
    else s)

/-- FIRMWARE_READY (R345): the queues begin to read headers. -/
def execFirmwareReady (s : State) : Host.Outcome State Fault Refusal :=
  .next (if s.isHeld 3 || s.cmd.fwReady then s
    else ({ s with cmd := { s.cmd with fwReady := true } }).pumpAll)

/-! ### Reset of one domain (R416 to R419) -/

/-- A withdrawal that takes cause reset resolves at once: as taken if its port sampled the take, else withdrawn with
no blot (R418). -/
def State.cutWithdrawal (s : State) (t : Nat) : State :=
  match (s.tgt t).pres with
  | some e =>
    if s.withdrawing e then
      let s := s.onSource e fun r => { r with wcause := .reset }
      let sampled := (s.tgt t).port.taken || (s.tgt t).port.takenCut
      let s := s.onPort t fun p => { p with takenCut := false }
      if sampled then s.resolveTaken t e else s.resolveWithdrawn t e false
    else s
  | none => s

/-- The blot leaves a port that is held (R417). -/
def State.dropBlot (s : State) (t : Nat) : State :=
  if decide (t < 1024) && (s.tgt t).blot && !s.isNib2 t then s.clearShown t else s

/-- What the reset of a domain does when it takes hold (R417, R418); `late` tells that its window ended. -/
def State.domainHold (s : State) (late : Bool) : State :=
  let n := s.rst.dom.domain
  let s : State :=
    if n = 3 then s.holdD3 false
    else if n = 4 then
      { s with rank := { s.rank with boundNs := 100, exceeded := false, floor := 110, window := [], published := false } }
    else if n = 6 then (if late then s.dropBuffers else s)
    else if n = 7 then
      forEach (s.tgts.map (·.1)) (fun t s => if t < 1024 then (s.cutWithdrawal t).dropBlot t else s) s
    else if n = 8 then s.closeFar
    else s
  let s := s.holdDomain n
  let r := s.rst.record 7
  { s with rst := { r with domCount := wrap 16 (r.domCount + 1), dom := { r.dom with phase := 2, start := s.instant, expired := late, hand := [] } } }

/-- The domain has gone idle (R417). The event engines are idle once the work items that they had in hand are finished; which of
the items of `hand` those are is the sender's (assumption log 69). -/
def State.domainIdle (s : State) : Bool :=
  let n := s.rst.dom.domain
  if n = 1 then s.rcd.writing.isNone
  else if n = 3 then
    s.bus.outstanding.isEmpty && (List.range 8).all fun q => match (s.queue q).cur with
      | none => true
      | some p => !p.complete || s.keepsReply q false
  else if n = 6 then s.buffersEmpty
  else if n = 7 then s.tgts.all fun p => decide (1024 ≤ p.1) || (!p.2.wdrBusy && p.2.port.dones.isEmpty)
  else if n = 8 then s.tgts.all fun p => p.2.far.ready.isNone
  else true

/-- DOMAIN_QUIESCE_IDLE (R416). -/
def execDomainQuiesceIdle (s : State) : Host.Outcome State Fault Refusal :=
  .next (if s.rst.dom.phase == 1 && s.domainIdle then s.domainHold false else s)

/-- DOMAIN_QUIESCE_EXPIRY (R416). A reset of D1 has no window (R417). -/
def execDomainQuiesceExpiry (s : State) : Host.Outcome State Fault Refusal :=
  let d := s.rst.dom
  .next (if d.phase == 1 && d.domain != 1 && s.elapsed d.start (500 * s.cfg.quiesceLimit) then
      let s := s.domainHold true
      let s := { s with rst := { s.rst with
        qtoDomain := wrap 16 (s.rst.qtoDomain + 1), dom := { s.rst.dom with timedOut := true, seq := seqUp s.rst.dom.seq } } }
      (s.recCount 29 1).report 0x15 1 d.domain
    else s)

/-- A queue repair of every queue set (R417). -/
def State.repairAll (s : State) : State :=
  { s with tgts := (List.range 1536).map fun t => (t, { s.tgt t with repair := true }) }

/-- The release actions after a reset of one domain (R417). -/
def State.domainActions (s : State) (n : Nat) : State :=
  if n = 1 then { s.readCopies with rst := { s.readCopies.rst with pulseEnd := none } }
  else if n = 3 then s.releaseD3 false false
  else if n = 4 then s.repairAll.restartWitness
  else if n = 5 then s.startScan .rescan
  else if n = 6 then s.releaseIntake
  else if n = 7 then s.releaseNib true
  else s.openFar

/-- DOMAIN_RESET_RELEASE (R416, R342). -/
def execDomainResetRelease (s : State) : Host.Outcome State Fault Refusal :=
  let d := s.rst.dom
  .next (if d.phase == 2 && s.elapsed d.start s.cfg.gap && s.rst.cold.isEmpty && s.rst.warm.isEmpty && !(d.domain == 1 && s.waitsPulse) then
      let s := { (s.unhold d.domain) with rst := { (s.unhold d.domain).rst with dom := { d with phase := 0, owner := none } } }
      let s := s.domainActions d.domain
      let s := if d.domain = 1 then s.settleReads else s
      match s.cmd.deferred.find? (fun x => some x.id == d.owner) with
      | none => s
      | some x => s.second x 0 [w64 (pack [(0, (s.ldg.block.dReset + 2 ^ 64 - d.base) % 2 ^ 32), (32, bn d.expired)])]
    else s)

/-- RESET_DEFERRAL_END (R413): the pulse has ended, the copy being written is left failed, and the reset takes hold of
D1 for at least 200 ns. A flush whose write a reset of D1 alone cuts waits for the next write. -/
def execResetDeferralEnd (s : State) : Host.Outcome State Fault Refusal :=
  .next (if !s.rcd.cutPulse then s
    else
      let s := ({ s with rcd := s.rcd.failWrite }).settleReads
      let s : State := if s.quiescing 1 && !s.rcd.flushRun.isEmpty then
          { s with rcd := { s.rcd with causeWaits := true, flushWait := s.rcd.flushRun ++ s.rcd.flushWait, flushRun := [] } }
        else s
      let s := { (s.recCount 28 1) with rst := { s.rst with pulseEnd := some s.instant } }
      if s.quiescing 1 then s.domainHold false else s.holdDomain 1)

end Sys2Proof.Machine
end

