-- ==== Sys2Proof/Machine/Record.lean ====
section
/-! DEFINITION. The writes of the lifetime record and of the patch area as commands (R33, R435, R475, R476, R478). -/
namespace Sys2Proof.Machine

/-! ### Causes of a write (R476) -/

/-- The periodic write is due. -/
def State.writeDue (s : State) : Bool :=
  s.cfg.recPeriodic && s.tb.good && decide (s.rcd.writeStart + 2 ^ s.cfg.recPeriod ≤ s.tick)

/-- Step 4 of a park entry is reached (R435). -/
def State.parkWriteDue (s : State) : Bool := s.pwr.parking && !s.rcd.parkWrite && s.sweepDone .park

/-- Some cause asks for a write. In rungs 1 to 3 a periodic write waits for the rung alarm (R434). -/
def State.writeAsked (s : State) : Bool :=
  (s.writeDue && s.pwr.rung == 0) || s.rcd.causeWaits || !s.rcd.flushWait.isEmpty || s.parkWriteDue

/-- Guest instances that are not FREE (R447). -/
def State.guestCount (s : State) : Nat := (s.insts.filter fun p => p.1 != 0 && p.2.created).length

/-- The PWR_LOSS registers are written from what the sweep found (R435, R447). -/
def State.writeLoss (s : State) : State :=
  match s.sweeps.find? (fun w => w.name == .park) with
  | none => s
  | some w =>
    let s := { s with pwr := { s.pwr with lossPend := tget (fun _ => 0) w.tally 0, lossActive := tget (fun _ => 0) w.tally 1,
                                          lossInst := s.guestCount },
                      rcd := { s.rcd with parkWrite := true } }
    s.endSweep .park

/-- A write is skipped (R33, R476): the flushes that asked for it get INTERNAL. -/
def State.skipWrite (s : State) : State :=
  let ids := s.rcd.flushWait
  let r := s.rcd
  let s := ({ s with rcd := { r with flushWait := [], skipped := true, statSeq := seqUp r.statSeq } }).recCount 35 1
  (forEach ids (fun k s => s.answerOwner (some k) stInternal []) s).report 0x16 1 1

/-- A write starts: one snapshot, programmed into the copy that is not the chosen one (R475). -/
def State.startWrite (s : State) : State :=
  let r := s.rcd
  let i := s.snapshot r.nextWrites
  { s with rcd := { r with writing := some (r.nextB, i), flushRun := r.flushRun ++ r.flushWait, flushWait := [] } }

/-- RECORD_WRITE_START (R33, R435, R476). -/
def execRecordWriteStart (supply : Bool) (s : State) : Host.Outcome State Fault Refusal :=
  .next (if s.isIdle 1 || s.isHeld 2 || s.rcd.writing.isSome || !s.writeAsked then s
    else
      let s := if s.parkWriteDue then s.writeLoss else s
      let s := { s with rcd := { s.rcd with writeStart := s.tick, causeWaits := false } }
      if supply then s.startWrite else s.skipWrite)

/-- RECORD_WRITE_COMPLETE (R475, R476): the last program pulse ends. -/
def execRecordWriteComplete (s : State) : Host.Outcome State Fault Refusal :=
  .next (match s.rcd.writing with
    | none => s
    | some (toB, i) =>
      if s.rcd.cutPulse then s
      else
        let r := s.rcd
        let ids := r.flushRun
        let r := if toB then { r with copyB := .valid i } else { r with copyA := .valid i }
        let r := { r with writing := none, flushRun := [], chosenB := toB, last := i.tick }
        let s := ({ s with rcd := r.report }).raiseHouse 17
        (forEach ids (fun k s => s.answerOwner (some k) stOk []) s).settleReads)

/-- PATCH_PROGRAM_COMPLETE (R478); a patch that was loaded meanwhile is programmed next. -/
def execPatchProgramComplete (s : State) : Host.Outcome State Fault Refusal :=
  .next (match s.rcd.patchBusy with
    | none => s
    | some (toB, p, _) =>
      let r := if toB then { s.rcd with patchB := some p } else { s.rcd with patchA := some p }
      { s with rcd := ({ r with patchBusy := none }).nextPatch s.now })

end Sys2Proof.Machine
end

