-- ==== Sys2Proof/Machine/Power.lean ====
section
/-! DEFINITION. Quiesce, the power rungs and the parks as commands (R28, R68, R69, R430 to R442, R447). -/
namespace Sys2Proof.Machine

/-! ### Requests (R68, R69, R430, R431) -/

/-- A request for a parked rung without a confirmed loss. -/
def Pwr.unconfirmed (p : Pwr) : Bool := decide (4 ≤ min p.pin p.sw) && !p.confirm

/-- K_PWR_NACK after a change of the request; `before` was the rung to apply (R69, R430). A warm reset holds it (R71). -/
def State.setNack (s : State) (before : Nat) : State :=
  let p := s.pwr
  let n := if s.mode.mode == .warm then p.nack else p.apply != p.ack && (p.unconfirmed || s.mode.mode == .failsafe || (p.nack && p.apply == before))
  { s with pwr := { p with nack := n } }

/-- Rung 5 begins in PARK: the timebase stops, with P as measured in rung 4, which is free between 0.5 and 1.25 ns (R407, R438,
assumption log 71). A sleep that no good source has ended goes on. -/
def State.sleepNow (s : State) : State :=
  let s := s.standIn 5
  let s := { s with tb := { s.tb with good := false }, rst := { s.rst with ring := true } }
  if s.pwr.stopped then s
  else
    { s with
      free := s.free + 1
      pwr := { s.pwr with stopped := true, asleep := s.now,
                          ringPeriod := 500000 + (Config.freeWord s.free).toNat % 750001 } }

/-- PARK moves between rungs 4 and 5 without waking (R436). -/
def State.moveParked (s : State) (a : Nat) : State :=
  if a = 5 ∧ s.pwr.rung = 4 then s.sleepNow.ackRung 5
  else if a = 4 ∧ s.pwr.rung = 5 then
    ({ (s.standIn 4) with tb := { s.tb with lostAt := s.now } }).ackRung 4
  else s

/-- The block leaves a rung from 1 to 3 for good. -/
def State.leaveRung (s : State) : State :=
  let s := if s.pwr.rung = 0 then s else (s.standIn 0).refillAll
  { s with pwr := { s.pwr with excursion := false } }

/-! ### Park entries (R435) -/

/-- Each presented event at a nib target is withdrawn with cause reset and resolved (R418, R435). -/
def State.withdrawAll (s : State) : State :=
  forEach (s.tgts.map (·.1)) (fun t s =>
    match (s.tgt t).pres with
    | none => s
    | some e =>
      let r0 := s.source e
      let s := if r0.place == .presented then (s.startWithdrawal e .reset).commit e r0 else s
      s.cutWithdrawal t) s

/-- A park entry begins (R435, steps 1 to 3). What step 2 discards and ends counts as lost with what the sweep finds. -/
def State.startPark (s : State) : State :=
  let s := s.closeFar.closeIntake
  let s := { s with pwr := { s.pwr with parking := true, parkRung := max 4 s.pwr.apply, wakeDue := none }, rst := { s.rst with drainStart := some s.now },
                    rcd := { s.rcd with parkWrite := false } }
  let old := s.ldg.block
  let s := s.withdrawAll.startSweep .park
  let pend := (s.ldg.block.dReset + 2 ^ 64 - old.dReset) % 2 ^ 64
  let ended := (s.ldg.block.delivered + 2 ^ 64 - old.delivered) % 2 ^ 64
  s.onSweep .park fun w => { w with tally := tset (fun _ => 0) (tset (fun _ => 0) w.tally 0 pend) 1 ended }

/-- In QUIESCE, once its drain is complete, a request for a parked rung starts the park entry; under escalation level 1 it waits (R28,
R435, R460). -/
def State.parkDrained (s : State) : State :=
  let m := s.mode
  if m.mode == .quiesce && m.drained && !m.quiesceTimedOut && !s.pwr.parking && decide (4 ≤ s.pwr.apply) && s.pins.esc != 1 then
    s.startPark
  else s

/-! ### The rung to apply (R430, R431) -/

/-- The rung to apply may have changed (R430, R431, R435, R436); `before` is its earlier value. -/
def State.applyRung (s : State) (before : Nat) : State :=
  let s := s.setNack before
  let a := s.pwr.apply
  match s.mode.mode with
  | .start | .service | .test | .recovery =>
    if a = before then s.parkCheck
    else if a = 0 then s.leaveRung.ackRung 0
    else s.leaveRung.parkCheck
  | .park => s.moveParked a
  | .quiesce => s.settleAck.parkDrained
  | .cold | .ductus | .rebuild | .warm | .wake | .failsafe => s.settleAck

/-- K_PWR_REQ_CHANGE (R68): 6 and 7 are recorded as a clamp to the standing request. -/
def execKPwrReqChange (v : Fin 8) (s : State) : Host.Outcome State Fault Refusal :=
  let before := s.pwr.apply
  .next (if v.val = s.pwr.pin then s
    else if 6 ≤ v.val then
      (if s.rst.cold.isEmpty then s.clamp (clampInput 3) v.val s.pwr.pin false false 3 else s)
    else
      let s := { s with pwr := { s.pwr with pin := v.val } }
      if s.rst.cold.isEmpty then s.applyRung before else s)

/-! ### Escalation (R63, R460) -/

/-- K_ESC_CHANGE (R63, R460). While a cold reset is asserted only the pin changes. A request for a parked rung that level 1 held back acts
when the level ends. -/
def execKEscChange (v : Fin 4) (s : State) : Host.Outcome State Fault Refusal :=
  let old := s.pins.esc
  .next (if old = v.val then s
    else
      let s := { s with pins := { s.pins with esc := v.val } }
      let s := if s.rst.cold.isEmpty && decide (old < v.val) then s.countEsc v.val else s
      let s := if v.val = 3 then s.warmNow .esc else if old = 3 then s.warmRelease .esc else s
      if v.val = 2 then s.escRecover else if s.rst.cold.isEmpty then s.parkCheck.parkDrained else s)

/-! ### Entry to rungs 1 to 3 (R432) -/

/-- No engine work item waits, no pool cell is in use, and no sweep, scan or repair runs (R28, R432). -/
def State.enginesIdle (s : State) : Bool :=
  s.counts.isEmpty && s.relays.isEmpty && s.sweeps.isEmpty &&
  (s.src.all fun p => !s.due p.1) &&
  (s.groups.all fun g => g.2.batches.isEmpty) &&
  (s.insts.all fun i => i.2.frozen ||
    (i.2.frozenList.isEmpty && (i.2.quotaList.isEmpty || decide (i.2.quota ≤ i.2.cellsPlaced)))) &&
  (s.tgts.all fun t => t.2.switching.isNone && !t.2.repair && !t.2.spliceDue)

/-- No retry cell is in use (R219). -/
def State.noRetry (s : State) : Bool := s.tgts.all fun t => t.2.far.retryDue.isNone

/-- A decision or an offer is due at target `t` (R155, R190, R214). -/
def State.decisionDue (s : State) (t : Nat) : Bool :=
  let c := s.tgt t
  c.svc == .online && !c.wdrBusy &&
  (if t < 1024 then
     match s.winnerOf t with
     | none => false
     | some (q, e) => decide (q < c.runEff) && !c.port.takenCut && s.canOffer t &&
        (match c.pres with
         | none => true
         | some x => x != e && decide (q < c.presLevel))
   else
     match s.offerable t with
     | none => false
     | some (q, _) =>
       match c.pres with
       | none => s.farOpen
       | some x => decide (q < (s.source x).prio))

/-- No command runs and no transfer is open (R432). -/
def State.commandsIdle (s : State) : Bool :=
  !s.cmd.cdw.owned && (List.range 8).all fun q =>
    match (s.queue q).cur with
    | none => true
    | some p => !p.complete

/-- The conditions of rungs 2 and 3 (R432, R476). -/
def State.quiet (s : State) : Bool :=
  s.buffersEmpty && s.bus.hotq.isEmpty && s.commandsIdle && s.rcd.writing.isNone &&
  s.tgts.all fun t => t.2.far.ready.isNone && !t.2.wdrBusy && !s.decisionDue t.1

/-- The further conditions of rung 3 (R432). -/
def State.bare (s : State) : Bool :=
  s.ldg.block.outstanding == 0 && (s.tgts.all fun t => decide (1024 ≤ t.1) || !t.2.held) &&
  s.links.all fun l => l.2.sent.isEmpty

/-- The block may enter rung `r` (R432). -/
def State.mayEnter (s : State) (r : Nat) : Bool :=
  s.mode.mode.runged && s.enginesIdle && s.noRetry && (decide (r < 2) || s.quiet) && (decide (r < 3) || s.bare)

/-- RUNG_ENTER (R431, R432). -/
def execRungEnter (s : State) : Host.Outcome State Fault Refusal :=
  let a := s.pwr.apply
  .next (if s.pwr.rung != 0 || a == 0 || decide (3 < a) || !s.mayEnter a then s
    else
      let s := s.standIn a
      ({ s with pwr := { s.pwr with excursion := false } }).ackRung a)

/-- RUNG_WAKE (R433). -/
def execRungWake (src : WakeSrc) (s : State) : Host.Outcome State Fault Refusal := .next (s.wakeRung src)

/-! ### Alarms (R434, R437) -/

/-- An open window reaches its END within `n` ticks (R239, R434). -/
def State.endWithin (s : State) (n : Nat) : Bool :=
  s.groups.any fun g => g.2.open_ && decide (g.2.span + 1 ≤ s.age g.2.start + n)

/-- The due ticks of a rung alarm beside the ends of windows (R434). -/
def State.dueTicks (s : State) : List Nat :=
  (s.insts.filter fun i => !i.2.rateList.isEmpty).map (·.2.nextRefill) ++
  (s.tgts.filterMap fun t => t.2.far.retryDue) ++
  (if s.cfg.auditPeriodic then [s.ldg.periodStart + 2 ^ s.cfg.auditPeriod] else []) ++
  (if s.cfg.timed then [s.cfg.unsealStart + 500 * s.cfg.unsealLimit] else []) ++
  (if s.cfg.recPeriodic then [s.rcd.writeStart + 2 ^ s.cfg.recPeriod] else [])

/-- The limit of R429 in ticks. -/
def exitTicks (r : Nat) : Nat := if r = 1 then 15 else if r = 2 then 150 else 1500

/-- RUNG_ALARM (R434). -/
def execRungAlarm (s : State) : Host.Outcome State Fault Refusal :=
  .next (if decide (1 ≤ s.pwr.rung) && decide (s.pwr.rung ≤ 3) && s.tb.good &&
      (s.endWithin (exitTicks s.pwr.rung) || s.dueTicks.any fun d => decide (d ≤ s.tick + exitTicks s.pwr.rung)) then
      s.wakeRung .alarm
    else s)

/-- SOFTWARE_ALARM (R437, R447): the alarm whose tick has come fires. One that passed in rung 5 has fired at the exit. -/
def execSoftwareAlarm (s : State) : Host.Outcome State Fault Refusal :=
  .next (if s.pwr.alarmEn && s.tb.good && !s.pwr.stopped && decide (s.pwr.alarm ≤ s.tick) then
      ({ s with pwr := { s.pwr with alarmEn := false, alarmFired := true } }).wake .alarm
    else s)

/-! ### Quiesce (R28) -/

/-- The drain of QUIESCE is complete (R28). -/
def State.drainDone (s : State) : Bool :=
  s.enginesIdle && (s.tgts.all fun t => !t.2.wdrBusy) && s.parked.isEmpty && s.waiting.isEmpty

/-- QUIESCE_DRAIN_COMPLETE (R28, R435). -/
def execQuiesceDrainComplete (s : State) : Host.Outcome State Fault Refusal :=
  .next (if s.mode.mode != .quiesce || s.pwr.parking || s.mode.quiesceTimedOut || !s.drainDone then s
    else
      ({ s with mode := { s.mode with drained := true } }).parkDrained)

/-- QUIESCE_TIMEOUT (R28, R69). -/
def execQuiesceTimeout (s : State) : Host.Outcome State Fault Refusal :=
  let m := s.mode
  .next (if m.mode != .quiesce || m.drained || m.quiesceTimedOut || !s.elapsed m.quiesceStart (500 * s.cfg.quiesceLimit) then s
    else
      let s := { s with mode := { m with quiesceTimedOut := true }, rst := { s.rst with qtoMode := wrap 16 (s.rst.qtoMode + 1) },
                        pwr := { s.pwr with nack := decide (4 ≤ s.pwr.apply) && s.pwr.apply != s.pwr.ack } }
      (s.recCount 29 1).report 0x15 1 0xF)

/-! ### Park and wake (R435, R440, R442) -/

/-- A queue with nothing but its binding. -/
def CmdQueue.bindOnly (q : CmdQueue) : CmdQueue :=
  { bindMaster := q.bindMaster, bindMask := q.bindMask, bindInst := q.bindInst, bindValid := q.bindValid }

/-- The working copies without the core supply: the always-on domain keeps counters 14 to 25 alone, and the load of R474 gives the rest
again (R469, R474). -/
def RecData.parked (d : RecData) : RecData := { ctr := d.ctr.filter fun p => decide (14 ≤ p.1) && decide (p.1 ≤ 25) }

/-- Steps 5 and 6 of the park entry (R435): the configuration opens, the core goes unpowered, and every domain but D0 is
held. Registers in retention flops and queue bindings stay. A wake source that came during the entry leads to an exit (R433), and
a request for the other parked rung to a move (R436). -/
def State.enterPark (s : State) : State :=
  let qs := s.cmd.queues.map fun q => (q.1, q.2.bindOnly)
  let s := s.initInkwell
  let s := { s with
    cfg := { s.cfg with sealed_ := false, timed := false, latchPend := false }
    cmd := { queues := qs.filter (fun q => q.2 != CmdQueue.dflt q.1), nextId := s.cmd.nextId,
             pairsDisabled := s.cmd.pairsDisabled, restarts := s.cmd.restarts, lastRestart := s.cmd.lastRestart }
    bus := {}
    house := []
    rst := { s.rst with held := [1, 2, 3, 4, 5, 6, 7, 8], drainStart := none, lateLines := [], portsKept := false,
                        dom := { s.rst.dom with phase := 0, owner := none } }
    rcd := { s.rcd with work := s.rcd.work.parked, loaded := false, parkWrite := false, flushRun := [], flushWait := [],
                        flushCut := [], readWait := [] } }
  let s := s.restartWitness
  let s := s.enterMode .park
  let r := s.pwr.parkRung
  let s := (if r = 5 then s.sleepNow else s.standIn 4).ackRung r
  let due := s.pwr.wakeDue
  let s := { s with pwr := { s.pwr with coreEn := false, excursion := false, wakeDue := none } }
  match due with
  | some k => s.parkWake k
  | none => s.moveParked s.pwr.apply

/-- PARK_ENTRY_COMPLETE (R435). -/
def execParkEntryComplete (s : State) : Host.Outcome State Fault Refusal :=
  .next (if s.pwr.parking && s.rcd.parkWrite && s.rcd.writing.isNone then s.enterPark else s)

/-- PARK_WAKE (R440). -/
def execParkWake (src : WakeSrc) (s : State) : Host.Outcome State Fault Refusal :=
  .next (if s.mode.mode == .park then s.parkWake src else s)

/-- K_POK_CORE_RISE (R440, R442): the power-up check starts where one is due. -/
def execKPokCoreRise (s : State) : Host.Outcome State Fault Refusal :=
  .next (if s.pwr.pokCore || s.rst.cold.contains .pokCore then s
    else { s with pwr := { s.pwr with pokCore := true }, rst := { s.rst with checking := s.rst.needCheck && s.rst.running } })

/-- POWER_UP_CHECK_COMPLETE (R442). -/
def execPowerUpCheckComplete (failure : CheckResult) (s : State) : Host.Outcome State Fault Refusal :=
  .next (if !s.rst.checking then s
    else
      let s := { s with rst := { s.rst with checking := false, needCheck := false } }
      match failure with
      | .pass => s
      | .badBank b => s.bankFault b.val
      | .badStage p u => s.datapathFault (p.val + 1) u.toNat)

end Sys2Proof.Machine
end

