-- ==== Sys2Proof/Machine/CmdSystem.lean ====
section
/-! DEFINITION. The commands over the block as a whole: access rules, sealing, rungs, audits, the record, domain resets and bulk
transfers (R303, R316, R337 to R345, R363, R364, R382 to R385, R394 to R396, R416, R417, R430, R476, R479). -/
namespace Sys2Proof.Machine

/-! ### GATE_RULES (R303, R337, R384, R385, R394) -/

/-- A slot index that exists (R382). -/
def slotIndex (n : Nat) : Bool :=
  decide (n < 0xC) || (decide (0x800 ≤ n) && decide (n < 0xE00)) || (decide (0xE00 ≤ n) && decide (n < 0x5000))

/-- The kind and index of the first word of a pair. -/
def pairKind (a : BitVec 64) : Nat := fld a 0 2
def pairIndex (a : BitVec 64) : Nat := fld a 2 20

/-- A pair passes step 9 of R310 (R337). -/
def pairOk (a b : BitVec 64) : Bool :=
  zeroFrom a 22 &&
  (if pairKind a = 0 then slotIndex (pairIndex a) && zeroFrom b 48
   else if pairKind a = 1 then decide (pairIndex a < 16) && zeroFrom b 53
   else if pairKind a = 2 then decide (pairIndex a < 8) && zeroFrom b 54
   else false)

/-- A region after its clamps (R385); `k` is the parameter word. -/
def regionSet (b : BitVec 64) (k : Nat) : BitVec 64 × List Clamped :=
  let n0 := fld b 42 6
  let space := flag b 48
  let n := near 12 (if space then 42 else 26) n0
  let base0 := fld b 12 30
  let base1 := if space then base0 else base0 % 2 ^ 14
  let base := base1 / 2 ^ (n - 12) * 2 ^ (n - 12)
  (w64 (fld b 0 12 + base * 2 ^ 12 + n * 2 ^ 42 + fld b 48 16 * 2 ^ 48),
   clampIf k 12 30 base0 base ++ clampIf k 42 6 n0 n)

/-- A binding (R303): INST of CQ0 is clamped to 0. -/
def bindSet (n : Nat) (b : BitVec 64) (k : Nat) : (CmdQueue → CmdQueue) × List Clamped :=
  let i0 := fld b 44 9
  let i := if n = 0 then 0 else i0
  (fun c => { c with bindMaster := fld b 0 22, bindMask := fld b 22 22, bindInst := i, bindValid := flag b 53 },
   clampIf k 44 9 i0 i)

/-- One pair applied; `k` is the parameter word of its content. -/
def State.applyPair (s : State) (a b : BitVec 64) (k : Nat) : State × List Clamped :=
  let n := pairIndex a
  if pairKind a = 0 then ({ s with acc := { s.acc with slots := tset (fun _ => 0) s.acc.slots n b } }, [])
  else if pairKind a = 1 then
    let r := regionSet b k
    ({ s with acc := { s.acc with regions := tset (fun _ => 0) s.acc.regions n r.1 } }, r.2)
  else
    let r := bindSet n b k
    (s.onQueue n r.1, r.2)

/-- The pairs of a packet with the parameter words of their contents. -/
def pairsOf (p : Packet) : List (BitVec 64 × BitVec 64 × Nat) :=
  (List.range (hdrLen p.hdr / 2)).map fun k => (p.word (2 * k + 1), p.word (2 * k + 2), 2 * k + 2)

/-- Every pair applied at one instant, and a new epoch (R394). -/
def State.applyPairs (s : State) (ps : List (BitVec 64 × BitVec 64 × Nat)) : State × List Clamped :=
  let r := ps.foldl (fun (a : State × List Clamped) x =>
    let b := a.1.applyPair x.1 x.2.1 x.2.2
    (b.1, a.2 ++ b.2)) (s, [])
  ({ r.1 with acc := { r.1.acc with epoch := r.1.acc.epoch + 1 } }, r.2)

/-- GATE_RULES (R337, R394, R396): the reply waits for the drain of every earlier epoch. -/
def execGateRules (q : Fin 8) (s : State) : Host.Outcome State Fault Refusal :=
  .next (s.runCmd q.val 0x40 fun s p =>
    let ps := pairsOf p
    if !(ps.all fun x => pairOk x.1 x.2.1) then s.firstReply q.val stBadParam []
    else
      let r := s.applyPairs ps
      let s := r.1.recordClamps q.val 0x40 r.2
      ({ s with cmd := { s.cmd with gates := s.cmd.gates ++ [(q.val, hdrTag p.hdr, s.acc.epoch, okOr r.2)] } }).gateReplies)

/-! ### COMMIT and UNSEAL (R338, R363, R364) -/

/-- The configuration is sealed, and the next pass of the walker latches CFG_REF (R363). The reply waits for it. -/
def State.sealNow (s : State) (q tag : Nat) : State :=
  { s.restartWalk with
    cfg := { s.restartWalk.cfg with sealed_ := true, latchPend := true, timed := false, expired := false }
    cmd := { s.cmd with commitReply := some (q, tag, false) } }

/-- COMMIT (R338, R363). At the end tick of an UNSEAL window the expiry has already acted (R364). -/
def execCommit (q : Fin 8) (s : State) : Host.Outcome State Fault Refusal :=
  .next (s.runCmd q.val 0x48 fun s p =>
    match s.mode.mode with
    | .test | .quiesce | .ductus | .wake => s.firstReply q.val stBusy []
    | _ =>
      let s := if s.unsealOver then s.unsealExpire else s
      if s.cfg.sealed_ then s.firstReply q.val stOk [w64 s.cfg.ref.toNat]
      else s.sealNow q.val (hdrTag p.hdr))

/-- A sealed configuration opens for the window of UNSEAL_LIMIT; a COMMIT still waiting for its pass ends BUSY (R363, R364). -/
def State.unsealNow (s : State) : State :=
  { s with cfg := { s.cfg with sealed_ := false, timed := true, expired := false, latchPend := false, unsealStart := s.tick } }

/-- UNSEAL (R338, R364). -/
def execUnseal (q : Fin 8) (s : State) : Host.Outcome State Fault Refusal :=
  .next (s.runCmd q.val 0x49 fun s _ =>
    if s.cfg.sealed_ then (s.unsealNow.firstReply q.val stOk []).settleCommit.pumpAll else s.firstReply q.val stOk [])

/-! ### RUNG_SET (R339, R430) -/

/-- RUNG_SET (R68, R339, R430): the reply shows the rung to apply, and the block then acts on it. -/
def execRungSet (q : Fin 8) (s : State) : Host.Outcome State Fault Refusal :=
  .next (s.runCmd q.val 0x50 fun s p =>
    let r0 := fld (p.word 1) 0 3
    let r := min r0 5
    let confirm := hdrFlag p.hdr 0
    if !zeroFrom (p.word 1) 3 then s.firstReply q.val stBadParam []
    else if decide (4 ≤ r) && !confirm then s.firstReply q.val stDenied []
    else
      let before := s.pwr.apply
      let s := { s with pwr := { s.pwr with sw := r, confirm := decide (4 ≤ r) } }
      (s.done q.val p (clampIf 1 0 3 r0 r) [w64 (pack [(0, s.pwr.apply), (3, s.pwr.ack)])]).applyRung before)

/-! ### Audits and the record (R136, R340, R341, R476, R479) -/

/-- LEDGER_AUDIT (R136, R340). -/
def execLedgerAudit (q : Fin 8) (s : State) : Host.Outcome State Fault Refusal :=
  .next (s.runCmd q.val 0x58 fun s p =>
    if s.deferFull q.val then s.firstReply q.val stBusy []
    else
      let s := { s with ldg := { s.ldg with wanted := s.ldg.wanted ++ [(s.cmd.nextId, hdrFlag p.hdr 0)] } }
      s.deferCmd q.val p [] .audit [])

/-- A RECORD_READ of a stored copy waits while that copy is written or D1 is held (R479). -/
def State.readWaits (s : State) (b : Bool) : Bool :=
  s.isHeld 1 || (match s.rcd.writing with
    | none => false
    | some w => w.1 == b)

/-- The working snapshot that RECORD_READ returns: its SEQ is the one that the next write will carry, which follows that of a write that
runs (R475, R479). -/
def State.workingImage (s : State) : Image :=
  let i := s.snapshot 0
  match s.rcd.writing with
  | none => i
  | some w => { i with seq := wrap 32 (w.2.seq + 1) }

/-- A RECORD_READ is applied: the working copies at once, a stored copy as soon as it can be read. -/
def State.readRecord (s : State) (id copy : Nat) : State :=
  if copy = 0 then s.openRead id true (s.workingImage.words 3)
  else if s.readWaits (copy == 2) then { s with rcd := { s.rcd with readWait := s.rcd.readWait ++ [(id, copy == 2)] } }
  else s.readCopy id (copy == 2)

/-- RECORD_READ (R341, R479). -/
def execRecordRead (q : Fin 8) (s : State) : Host.Outcome State Fault Refusal :=
  .next (s.runCmd q.val 0x59 fun s p =>
    let c0 := fld (p.word 1) 0 2
    let c := if c0 = 3 then 0 else c0
    if s.deferFull q.val then s.firstReply q.val stBusy []
    else if !zeroFrom (p.word 1) 2 then s.firstReply q.val stBadParam []
    else if s.cmd.cdw.owned then s.firstReply q.val stBusy []
    else
      let id := s.cmd.nextId
      ((s.deferCmd q.val p (clampIf 1 0 2 c0 c true) (.recordRead c) []).claimCdw q.val id).readRecord id c)

/-- RECORD_FLUSH (R341, R476). -/
def execRecordFlush (q : Fin 8) (s : State) : Host.Outcome State Fault Refusal :=
  .next (s.runCmd q.val 0x5A fun s p =>
    if s.deferFull q.val then s.firstReply q.val stBusy []
    else
      let s := { s with rcd := { s.rcd with flushWait := s.rcd.flushWait ++ [s.cmd.nextId] } }
      s.deferCmd q.val p [] .recordFlush [])

/-! ### DOMAIN_RESET (R342, R416, R417) -/

/-- The domains that DOMAIN_RESET takes. -/
def resettable (n : Nat) : Bool := n == 1 || (decide (3 ≤ n) && decide (n ≤ 8))

/-- What the quiesce of a domain does at once (R413, R417). -/
def State.askIdle (s : State) (n : Nat) : State :=
  if n = 1 then s.stretch
  else if n = 6 then s.closeIntake
  else if n = 7 then forEach ((s.tgts.filter fun p => decide (p.1 < 1024)).filterMap fun p => p.2.pres) (fun e s => s.preempt e) s
  else s

/-- The reset of a domain begins with its quiesce (R416). The event engines may have any waiting work item in hand (R417,
assumption log 69). -/
def State.startDomain (s : State) (n id : Nat) : State :=
  let hand := if n = 5 then s.workItems else []
  ({ s with rst := { s.rst with dom := { s.rst.dom with
      domain := n, phase := 1, start := s.instant, expired := false, owner := some id, base := s.ldg.block.dReset,
      hand := hand } } }).askIdle n

/-- DOMAIN_RESET (R342, R416): BUSY outside the modes that R416 lists. -/
def execDomainReset (q : Fin 8) (s : State) : Host.Outcome State Fault Refusal :=
  .next (s.runCmd q.val 0x60 fun s p =>
    let n := fld (p.word 1) 0 4
    if s.deferFull q.val then s.firstReply q.val stBusy []
    else if !zeroFrom (p.word 1) 4 || !resettable n then s.firstReply q.val stBadParam []
    else if s.mode.mode == .ductus || s.mode.mode == .wake || s.mode.mode == .warm || s.rst.dom.phase != 0 then s.firstReply q.val stBusy []
    else
      let id := s.cmd.nextId
      (s.deferCmd q.val p [] .domainReset []).startDomain n id)

/-! ### BULK_LOAD and BULK_READ (R343 to R345) -/

/-- ADDR, SPACE and COUNT. -/
def bulkAddr (p : Packet) : Nat := fld (p.word 1) 0 24
def bulkSpace (p : Packet) : Nat := fld (p.word 1) 24 4
def bulkCount (p : Packet) : Nat := fld (p.word 2) 0 22

/-- The reserved bits of both words are 0. -/
def bulkBits (p : Packet) : Bool := zeroFrom (p.word 1) 28 && zeroFrom (p.word 2) 22

/-- A run of words of the inkwell within one region (R343). -/
def bulkRun (a n : Nat) : Bool :=
  a % 8 == 0 && decide (1 ≤ n) && decide (n ≤ 2097152) && decide (a + 8 * n ≤ 2 ^ 24) &&
  inkRegion a == inkRegion (a + 8 * (n - 1))

/-- The regions that BULK_LOAD writes (R344). -/
def loadable (a : Nat) : Bool := [0, 1, 3, 4, 5, 6].contains (inkRegion a)

/-- Step 9 of R310 for BULK_LOAD. -/
def bulkLoadOk (p : Packet) : Bool :=
  bulkBits p &&
  (if bulkSpace p = 0 then bulkRun (bulkAddr p) (bulkCount p) && loadable (bulkAddr p) && !hdrFlag p.hdr 0
   else bulkSpace p == 1 && bulkAddr p == 0 && decide (3 ≤ bulkCount p) && decide (bulkCount p ≤ 32768))

/-- BULK_LOAD (R343 to R345). -/
def execBulkLoad (q : Fin 8) (s : State) : Host.Outcome State Fault Refusal :=
  .next (s.runCmd q.val 0x68 fun s p =>
    let ink := bulkSpace p == 0
    if s.deferFull q.val then s.firstReply q.val stBusy []
    else if !bulkLoadOk p then s.firstReply q.val stBadParam []
    else if !ink && s.strap.boot == 0 then s.firstReply q.val stDenied []
    else if (ink && s.mode.mode != .start && s.mode.mode != .test) || s.cmd.cdw.owned then s.firstReply q.val stBusy []
    else
      let id := s.cmd.nextId
      (s.deferCmd q.val p [] .load []).openCdw q.val id (some id) false (bulkCount p)
        (if ink then .load (bulkAddr p) else .patch [] (hdrFlag p.hdr 0)))

/-- BULK_READ (R343): the window opens with the second reply. -/
def execBulkRead (q : Fin 8) (s : State) : Host.Outcome State Fault Refusal :=
  .next (s.runCmd q.val 0x69 fun s p =>
    if s.deferFull q.val then s.firstReply q.val stBusy []
    else if !bulkBits p || bulkSpace p != 0 || !bulkRun (bulkAddr p) (bulkCount p) then s.firstReply q.val stBadParam []
    else if s.cmd.cdw.owned then s.firstReply q.val stBusy []
    else
      let id := s.cmd.nextId
      ((s.deferCmd q.val p [] .readOpen []).openCdw q.val id none true (bulkCount p) (.bulk (bulkAddr p))).answerOwner (some id)
        stOk [])

end Sys2Proof.Machine
end

