-- ==== Sys2Proof/Machine/Dispatch.lean ====
section
/-! DEFINITION. The meaning of every command: one arm per constructor, one direct call each. -/
namespace Sys2Proof.Machine

/-- The effect of a command on everything but the queue of waiting commands. -/
def exec (i : Instr) (s : State) : Host.Outcome State Fault Refusal :=
  match i with
  | .coldResetAssert src => Sys2Proof.Machine.execColdResetAssert src s
  | .coldResetRelease src pins => Sys2Proof.Machine.execColdResetRelease src pins s
  | .warmResetAssert src => Sys2Proof.Machine.execWarmResetAssert src s
  | .warmResetRelease src => Sys2Proof.Machine.execWarmResetRelease src s
  | .warmResetTakeHold part => Sys2Proof.Machine.execWarmResetTakeHold part s
  | .intakeDrainComplete => Sys2Proof.Machine.execIntakeDrainComplete s
  | .intakeDrainTimeout => Sys2Proof.Machine.execIntakeDrainTimeout s
  | .kEscChange v => Sys2Proof.Machine.execKEscChange v s
  | .kPwrReqChange v => Sys2Proof.Machine.execKPwrReqChange v s
  | .strapChange pins => Sys2Proof.Machine.execStrapChange pins s
  | .domainRelease => Sys2Proof.Machine.execDomainRelease s
  | .inkwellInitComplete => Sys2Proof.Machine.execInkwellInitComplete s
  | .firmwareReady => Sys2Proof.Machine.execFirmwareReady s
  | .timebaseGood devPpm => Sys2Proof.Machine.execTimebaseGood devPpm s
  | .oscCalibrationComplete => Sys2Proof.Machine.execOscCalibrationComplete s
  | .timebaseFallback => Sys2Proof.Machine.execTimebaseFallback s
  | .kPtsLoad v => Sys2Proof.Machine.execKPtsLoad v s
  | .clockPresenceRise b => Sys2Proof.Machine.execClockPresenceRise b s
  | .clockPresenceFall b => Sys2Proof.Machine.execClockPresenceFall b s
  | .clockAbsent b => Sys2Proof.Machine.execClockAbsent b s
  | .lineEdge k high => Sys2Proof.Machine.execLineEdge k high s
  | .lineHandoff k => Sys2Proof.Machine.execLineHandoff k s
  | .wakeLineEdge w => Sys2Proof.Machine.execWakeLineEdge w s
  | .switchItem id kind => Sys2Proof.Machine.execSwitchItem id kind s
  | .switchWakeDetect => Sys2Proof.Machine.execSwitchWakeDetect s
  | .messageWriteTransfer c m => Sys2Proof.Machine.execMessageWriteTransfer c m s
  | .messageWriteJudge w => Sys2Proof.Machine.execMessageWriteJudge w s
  | .engineResultApply w => Sys2Proof.Machine.execEngineResultApply w s
  | .rankDecision t upset => Sys2Proof.Machine.execRankDecision t upset s
  | .queueRepairComplete t => Sys2Proof.Machine.execQueueRepairComplete t s
  | .listRepairComplete l => Sys2Proof.Machine.execListRepairComplete l s
  | .withdrawalAnswer t neverShown => Sys2Proof.Machine.execWithdrawalAnswer t neverShown s
  | .nibTake n => Sys2Proof.Machine.execNibTake n s
  | .nibDone n eid => Sys2Proof.Machine.execNibDone n eid s
  | .doneApply t => Sys2Proof.Machine.execDoneApply t s
  | .nibRunlvlChange n v => Sys2Proof.Machine.execNibRunlvlChange n v s
  | .nibIdleChange n v => Sys2Proof.Machine.execNibIdleChange n v s
  | .nibClkOkFall n => Sys2Proof.Machine.execNibClkOkFall n s
  | .n2Take g h eid => Sys2Proof.Machine.execN2Take g h eid s
  | .n2Done g h eid => Sys2Proof.Machine.execN2Done g h eid s
  | .n2StateLevel g h runlvl idle held heldPseq => Sys2Proof.Machine.execN2StateLevel g h runlvl idle held heldPseq s
  | .n2StateWack g h => Sys2Proof.Machine.execN2StateWack g h s
  | .n2StateLink g h replayEnd => Sys2Proof.Machine.execN2StateLink g h replayEnd s
  | .n2FlitBad g why => Sys2Proof.Machine.execN2FlitBad g why s
  | .n2LinkKeepalive g => Sys2Proof.Machine.execN2LinkKeepalive g s
  | .n2LinkDown g => Sys2Proof.Machine.execN2LinkDown g s
  | .n2LinkUp g => Sys2Proof.Machine.execN2LinkUp g s
  | .n2LinkDownTimeout g => Sys2Proof.Machine.execN2LinkDownTimeout g s
  | .farOffer j => Sys2Proof.Machine.execFarOffer j s
  | .farCredit f => Sys2Proof.Machine.execFarCredit f s
  | .farWriteTransfer f => Sys2Proof.Machine.execFarWriteTransfer f s
  | .stallTimerExpiry j => Sys2Proof.Machine.execStallTimerExpiry j s
  | .ligWindowEnd g => Sys2Proof.Machine.execLigWindowEnd g s
  | .ligBatchMemberRelease g => Sys2Proof.Machine.execLigBatchMemberRelease g s
  | .rateRefill inst => Sys2Proof.Machine.execRateRefill inst s
  | .quotaListRelease inst => Sys2Proof.Machine.execQuotaListRelease inst s
  | .frozenListRelease inst => Sys2Proof.Machine.execFrozenListRelease inst s
  | .switchWorkStep t => Sys2Proof.Machine.execSwitchWorkStep t s
  | .sweepStep k bank => Sys2Proof.Machine.execSweepStep k bank s
  | .auditStart => Sys2Proof.Machine.execAuditStart s
  | .auditComplete => Sys2Proof.Machine.execAuditComplete s
  | .rebuildScanComplete => Sys2Proof.Machine.execRebuildScanComplete s
  | .takerSweepComplete t => Sys2Proof.Machine.execTakerSweepComplete t s
  | .destroySweepComplete inst => Sys2Proof.Machine.execDestroySweepComplete inst s
  | .staleSweepComplete inst => Sys2Proof.Machine.execStaleSweepComplete inst s
  | .instanceDrainComplete inst => Sys2Proof.Machine.execInstanceDrainComplete inst s
  | .freezeComplete inst => Sys2Proof.Machine.execFreezeComplete inst s
  | .prepareSweepComplete inst => Sys2Proof.Machine.execPrepareSweepComplete inst s
  | .scrubTick bank err => Sys2Proof.Machine.execScrubTick bank err s
  | .witnessWindowEnd revs tempC => Sys2Proof.Machine.execWitnessWindowEnd revs tempC s
  | .walkerPassEnd => Sys2Proof.Machine.execWalkerPassEnd s
  | .unsealWindowExpiry => Sys2Proof.Machine.execUnsealWindowExpiry s
  | .quiesceDrainComplete => Sys2Proof.Machine.execQuiesceDrainComplete s
  | .quiesceTimeout => Sys2Proof.Machine.execQuiesceTimeout s
  | .parkEntryComplete => Sys2Proof.Machine.execParkEntryComplete s
  | .parkWake src => Sys2Proof.Machine.execParkWake src s
  | .kPokCoreRise => Sys2Proof.Machine.execKPokCoreRise s
  | .powerUpCheckComplete failure => Sys2Proof.Machine.execPowerUpCheckComplete failure s
  | .rungEnter => Sys2Proof.Machine.execRungEnter s
  | .rungWake src => Sys2Proof.Machine.execRungWake src s
  | .rungAlarm => Sys2Proof.Machine.execRungAlarm s
  | .softwareAlarm => Sys2Proof.Machine.execSoftwareAlarm s
  | .recordWriteStart supply => Sys2Proof.Machine.execRecordWriteStart supply s
  | .recordWriteComplete => Sys2Proof.Machine.execRecordWriteComplete s
  | .patchProgramComplete => Sys2Proof.Machine.execPatchProgramComplete s
  | .datapathCodeError part unit => Sys2Proof.Machine.execDatapathCodeError part unit s
  | .dualrailIncompleteTimeout part unit => Sys2Proof.Machine.execDualrailIncompleteTimeout part unit s
  | .bankParityFault bank => Sys2Proof.Machine.execBankParityFault bank s
  | .faultRecordTransfer => Sys2Proof.Machine.execFaultRecordTransfer s
  | .lockstepMismatch pair q => Sys2Proof.Machine.execLockstepMismatch pair q s
  | .lockstepRestartComplete pair pass => Sys2Proof.Machine.execLockstepRestartComplete pair pass s
  | .epochDrained => Sys2Proof.Machine.execEpochDrained s
  | .domainQuiesceIdle => Sys2Proof.Machine.execDomainQuiesceIdle s
  | .domainQuiesceExpiry => Sys2Proof.Machine.execDomainQuiesceExpiry s
  | .domainResetRelease => Sys2Proof.Machine.execDomainResetRelease s
  | .hotWriteApply => Sys2Proof.Machine.execHotWriteApply s
  | .registerWrite b => Sys2Proof.Machine.execRegisterWrite b s
  | .maskedWrite b => Sys2Proof.Machine.execMaskedWrite b s
  | .sequenceWrite b => Sys2Proof.Machine.execSequenceWrite b s
  | .glbModeReqWrite b => Sys2Proof.Machine.execGlbModeReqWrite b s
  | .lineCfgWrite b => Sys2Proof.Machine.execLineCfgWrite b s
  | .unsealLimitWrite b => Sys2Proof.Machine.execUnsealLimitWrite b s
  | .ldgSnapTake b => Sys2Proof.Machine.execLdgSnapTake b s
  | .tgtTakeWrite b => Sys2Proof.Machine.execTgtTakeWrite b s
  | .tgtDoneWrite b => Sys2Proof.Machine.execTgtDoneWrite b s
  | .tgtRunlvlWrite b => Sys2Proof.Machine.execTgtRunlvlWrite b s
  | .tgtResInstWrite b => Sys2Proof.Machine.execTgtResInstWrite b s
  | .instDoorbellWrite b => Sys2Proof.Machine.execInstDoorbellWrite b s
  | .tgtOccLoRead b => Sys2Proof.Machine.execTgtOccLoRead b s
  | .tbCountLoRead b => Sys2Proof.Machine.execTbCountLoRead b s
  | .accSlotLoRead b => Sys2Proof.Machine.execAccSlotLoRead b s
  | .cqCmdFifoWrite b => Sys2Proof.Machine.execCqCmdFifoWrite b s
  | .cqRplFifoRead b => Sys2Proof.Machine.execCqRplFifoRead b s
  | .cqResync b => Sys2Proof.Machine.execCqResync b s
  | .cdwWrite b => Sys2Proof.Machine.execCdwWrite b s
  | .cdwRead b => Sys2Proof.Machine.execCdwRead b s
  | .cdwAbandonTimeout => Sys2Proof.Machine.execCdwAbandonTimeout s
  | .echo q => Sys2Proof.Machine.execEcho q s
  | .queryCaps q => Sys2Proof.Machine.execQueryCaps q s
  | .srcConfig q => Sys2Proof.Machine.execSrcConfig q s
  | .srcRead q => Sys2Proof.Machine.execSrcRead q s
  | .srcEnable q => Sys2Proof.Machine.execSrcEnable q s
  | .srcDisable q => Sys2Proof.Machine.execSrcDisable q s
  | .srcInject q => Sys2Proof.Machine.execSrcInject q s
  | .mapDevice q => Sys2Proof.Machine.execMapDevice q s
  | .unmapDevice q => Sys2Proof.Machine.execUnmapDevice q s
  | .relayConfig q => Sys2Proof.Machine.execRelayConfig q s
  | .ligConfig q => Sys2Proof.Machine.execLigConfig q s
  | .ligFlush q => Sys2Proof.Machine.execLigFlush q s
  | .tgtConfig q => Sys2Proof.Machine.execTgtConfig q s
  | .tgtState q => Sys2Proof.Machine.execTgtState q s
  | .instCreate q => Sys2Proof.Machine.execInstCreate q s
  | .instShare q => Sys2Proof.Machine.execInstShare q s
  | .instReset q => Sys2Proof.Machine.execInstReset q s
  | .instDestroy q => Sys2Proof.Machine.execInstDestroy q s
  | .huskFreeze q => Sys2Proof.Machine.execHuskFreeze q s
  | .huskSave q => Sys2Proof.Machine.execHuskSave q s
  | .huskRestore q => Sys2Proof.Machine.execHuskRestore q s
  | .huskThaw q => Sys2Proof.Machine.execHuskThaw q s
  | .gateRules q => Sys2Proof.Machine.execGateRules q s
  | .commit q => Sys2Proof.Machine.execCommit q s
  | .unseal q => Sys2Proof.Machine.execUnseal q s
  | .rungSet q => Sys2Proof.Machine.execRungSet q s
  | .ledgerAudit q => Sys2Proof.Machine.execLedgerAudit q s
  | .recordRead q => Sys2Proof.Machine.execRecordRead q s
  | .recordFlush q => Sys2Proof.Machine.execRecordFlush q s
  | .domainReset q => Sys2Proof.Machine.execDomainReset q s
  | .bulkLoad q => Sys2Proof.Machine.execBulkLoad q s
  | .bulkRead q => Sys2Proof.Machine.execBulkRead q s
  | .registerRead b => Sys2Proof.Machine.execRegisterRead b s
  | .resetDeferralEnd => Sys2Proof.Machine.execResetDeferralEnd s

end Sys2Proof.Machine
end

