-- ==== Sys2Proof/Safety.lean ====
section
/-! DEFINITION. What the claims speak of: the invariants of the block, and the frames that say what a command leaves as it
was. -/
namespace Sys2Proof.Machine

/-! ### Invariants -/

/-- The fault port queue holds at most 16 records (R62), and no reply FIFO more than 512 words (R302). -/
abbrev State.fifosFit (s : State) : Prop :=
  s.flt.queue.length ≤ 16 ∧ ∀ q, (s.queue q).rpl.length ≤ 512

/-- The conservation equation of R132 holds in every instance ledger and in the block ledger. An instance that the table
does not list has a ledger of zeros. -/
abbrev State.conserved (s : State) : Prop :=
  (∀ p ∈ s.ldg.inst, p.2.balanced = true) ∧ s.ldg.block.balanced = true

/-- The table of source records has its canonical form. -/
abbrev State.sourcesTidy (s : State) : Prop := Table.wf (fun _ => ({} : SrcRec)) s.src = true

/-! ### Frames -/

/-- `t` is `s` but for what a pulse of a house source can change (R84, R106): source records, cells and counts on their way,
parked orders and flags, ledgers, sweeps in progress, the lifetime record, and the run of dual-rail failures at the house port
(R450). -/
abbrev State.sameButHouse (s t : State) : Prop :=
  t = { s with src := t.src, ldg := t.ldg, rcd := t.rcd, counts := t.counts, lost := t.lost, sweeps := t.sweeps,
               parked := t.parked, waiting := t.waiting, house := t.house,
               flt := { s.flt with runs := t.flt.runs } }

/-- `t` is `s` but for what a fault can change (R455 to R465): the above, the FLT page and queue, and the mode effects
held. -/
abbrev State.sameButFault (s t : State) : Prop :=
  t = { s with src := t.src, ldg := t.ldg, rcd := t.rcd, counts := t.counts, lost := t.lost, sweeps := t.sweeps,
               parked := t.parked, waiting := t.waiting, house := t.house, flt := t.flt,
               mode := { s.mode with heldCwr := t.mode.heldCwr, heldUncont := t.mode.heldUncont } }

/-- `t` is `s` but for the command engines, the replies' house pulses and what these change. -/
abbrev State.sameButReply (s t : State) : Prop :=
  t = { s with src := t.src, ldg := t.ldg, rcd := t.rcd, counts := t.counts, lost := t.lost, sweeps := t.sweeps,
               parked := t.parked, waiting := t.waiting, house := t.house, cmd := t.cmd,
               flt := { s.flt with runs := t.flt.runs } }

/-! ### The fault log (R457, R459) -/

/-- The entry that is `k` after the oldest of the log takes a fault of class `cls` and severity `sev` of the present tick: its handling
timer, which without a good timebase runs on (R455), contains the tick, and its severity is not below. -/
abbrev State.mergesAt (s : State) (cls sev k : Nat) : Prop :=
  ∃ x, tget (fun _ => none) s.flt.log ((s.flt.count + k) % 16) = some x ∧ x.cls = cls ∧ sev ≤ x.sev ∧
    (s.tb.good = true → s.tick < x.timerEnd)

/-! ### The clusters (R267) -/

/-- The round robin of cluster `c` chooses instance `i` among those with work waiting at it. -/
abbrev State.picks (s : State) (c : Fin 16) (waiting : List (Fin 512)) (i : Nat) : Prop :=
  ((tget (fun _ => {}) s.clusters c.val : Cluster).turn (fun i => (s.ctx i).weight) (addOnce i (waiting.map (·.val)))).visit = i

/-- `t` is `s` but for the counters of the clusters and the runs of dual-rail failures of the stages (R267, R450). -/
abbrev State.sameButTurn (s t : State) : Prop := t = { s with clusters := t.clusters, flt := { s.flt with runs := t.flt.runs } }

/-! ### The scrub (R129, R130) -/

/-- The inkwell word that SCRUB_TICK of bank `b` reads next. -/
abbrev State.scrubWord (s : State) (b : Nat) : InkWord := inkAt (bankAddr b (tget (fun _ => 0) s.scrub b))

/-- No mode effect of an earlier fault is held back (R461). -/
abbrev State.holdsNoMode (s : State) : Prop := s.mode.heldUncont = false ∧ s.mode.heldCwr = false

/-! ### Banks (R102, R105) -/

/-- At the home bank of source `e` no order waits for the next round, and none is parked but for other sources that are being
withdrawn. -/
abbrev State.bankQuiet (s : State) (e : Nat) : Prop :=
  s.round (e % 64) = [] ∧ ∀ p ∈ s.parked, p.1 % 64 = e % 64 → p.1 ≠ e ∧ s.withdrawing p.1 = true

/-! ### Answers of ports (R111 to R114, R204) -/

/-- The port of target `t` can answer a withdrawal: the far channel, the front file of a target of the register path, or a
clocked Nib-1 port with D7 released. No take waits to be reported, and nothing waits for the withdrawal. -/
abbrev State.portAnswers (s : State) (t e : Nat) : Prop :=
  s.isHeld 2 = false ∧
  (1024 ≤ t ∨ s.isHeld 7 = false ∧ ((s.tgt t).path = true ∧ s.portOn = true ∨
    (s.tgt t).path = false ∧ s.isNib2 t = false ∧ s.nibClocked t = true)) ∧
  (∀ p ∈ s.tgts, p.2.port.takenCut = false) ∧ (s.tgt t).spliceDue = false ∧ s.bankQuiet e

/-! ### The register port (R48 to R52, R380 to R391) -/

/-- An access reaches register `r` and is admitted: the port takes requests (R50, R352), D3 is released (R52), a cold register is
not asked for in rungs 2 and 3 (R433), the tag is free (R50), the shape is right (R51, R354), and the checker (R388) and the
bindings of R389 allow it. -/
abbrev State.grants (s : State) (b : BusReq) (write masked : Bool) (r : RegAt) : Prop :=
  s.portOn = true ∧ s.portShut = false ∧ (s.pwr.rung < 2 ∨ hotReg masked r = true) ∧
  (decodeAddr (reqAddr b)).masked = masked ∧ (decodeAddr (reqAddr b)).reg = r ∧
  ((b.posted = true ∧ write = true) ∨ ∀ x ∈ s.bus.outstanding, x.1 ≠ b.tag.toNat) ∧
  s.accepts (hotEntries b write (decodeAddr (reqAddr b))) = true ∧
  badShape b write (decodeAddr (reqAddr b)) = false ∧
  (s.judge b.master.toNat b.priv false write (reqAddr b) (decodeAddr (reqAddr b)).slot (defaultWritable r)).ok = true ∧
  s.bindingKind b write r = 0 ∧ (b.size8 = true → masked = false → s.bindingKind b write r.upper = 0)

/-- A 4-byte write that is not masked reaches register `r` and is admitted, with no seal against it (R362). -/
abbrev State.takesWrite (s : State) (b : BusReq) (r : RegAt) : Prop :=
  s.grants b true false r ∧ b.size8 = false ∧ (s.cfg.sealed_ = false ∨ r.configMask = 0)

/-- The state in which an access is judged: it has its number (R396, R399). -/
def State.entered (s : State) : State := { s with acc := { s.acc with writes := s.acc.writes + 1 } }

/-- The management bus after an access is answered: a cold request that is not posted stays under way until the next tick. -/
def State.busAfter (s : State) (b : BusReq) (posted hot : Bool) (status : Nat) (data : BitVec 64) : Bus :=
  let r : Resp := { tag := b.tag.toNat, data := data, status := status }
  { s.bus with
    hot := if hot && !posted then some r else none,
    split := if !hot && !posted then some r else none,
    outstanding := if !hot && !posted then s.bus.outstanding ++ [(b.tag.toNat, s.entered.judged)] else s.bus.outstanding }

/-- The bus after a cold write is answered OK. -/
def State.wrote (s : State) (b : BusReq) : Bus := s.busAfter b b.posted false 0 0

/-! ### Commands in packets (R309 to R313) -/

/-- The deferred command is an ECHO with FENCE (R321). -/
def Deferred.isFence (d : Deferred) : Bool :=
  match d.work with
  | .fence _ => true
  | _ => false

/-- Queue `q` runs the packet `p` of opcode `op`: its pair executes it, checks 1 to 7 of R310 pass, nothing more waits in the
command FIFO, and the reply FIFO has room for a reply with `n` result words. -/
abbrev State.runs (s : State) (q op : Nat) (p : Packet) (n : Nat) : Prop :=
  s.current q op = some p ∧ (s.pairOf q).isSome = true ∧ (catRow op).map (s.headCheck q p) = some none ∧
  (s.queue q).fifo = [] ∧ (s.queue q).late = [] ∧ (s.queue q).rpl.length + 1 + n ≤ 512

/-- Queue `q` has given the first reply of `p` with a status and result words, and takes the next packet (R302, R311). -/
abbrev State.answered (s t : State) (q : Nat) (p : Packet) (status : Nat) (result : List (BitVec 64)) : Prop :=
  (t.queue q).rpl = (s.queue q).rpl ++
    ({ tag := hdrTag p.hdr, status := status, opcode := hdrOpcode p.hdr, second := false, result := result } : Reply).word0
      (wrap 16 ((s.queue q).cseq + 1)) :: result ∧
  (t.queue q).cseq = wrap 16 ((s.queue q).cseq + 1) ∧ (t.queue q).cur = none

/-- The command was deferred: DEFERRED at once, and its work waits as the youngest (R313). -/
abbrev State.deferred (s t : State) (q : Nat) (p : Packet) (clamped : Bool) (w : Work) (result : List (BitVec 64)) : Prop :=
  s.answered t q p stDeferred result ∧
  t.cmd.deferred = s.cmd.deferred ++ [{ id := s.cmd.nextId, q := q, tag := hdrTag p.hdr, opcode := hdrOpcode p.hdr,
                                        clamped := clamped, work := w }]

end Sys2Proof.Machine
end

