-- ==== Sys2Proof/Certificates/Slice0/Obligations.lean ====
section
/-! DEFINITION. What is claimed of the block, for the provers: the steps and the invariants of the whole machine, what the
shared operations do, and for each command where it completes and what it leaves. -/
open Sys2Proof Sys2Proof.Machine

/-! ### Steps and whole-machine claims -/

/-- A step takes the command at the front of the queue and runs it on the state with the rest of the queue; on an empty
queue it is one tick of time (the model's choice, assumption log 2). -/
def Obligations.StepRunsTheFrontCommand : Prop :=
  (∀ (c : Instr) (rest : List Instr) (s : State), step { s with pending := c :: rest } = exec c { s with pending := rest }) ∧
  (∀ s : State, s.pending = [] → step s = .next (passTick s))

/-- Every well-formed command answers a next state from every state and leaves the queue of waiting commands as it was; a
command that is not well formed stops with the one fault, which is the check of the model itself (assumption log 32). That a command whose event cannot occur completes is the model's choice (assumption log 6). -/
def Obligations.EveryCommandCompletes : Prop :=
  (∀ (c : Instr) (s : State), c.wf = true → ∃ t, exec c s = .next t ∧ t.pending = s.pending) ∧
  (∀ (c : Instr) (s : State), c.wf = false → exec c s = .fault .illFormed)

/-- R132, first sentence: where the conservation equation holds in the 512 instance ledgers and in the block ledger, it holds
in them after every command and after a tick of time. The one command left out is the read that finds an uncorrectable word: a
lost ledger word has no value that the spec gives (assumption log 3). -/
def Obligations.LedgersStayConserved : Prop :=
  (∀ (c : Instr) (s t : State), (∀ b w, c ≠ .scrubTick b (.scrub .double) ∧ c ≠ .scrubTick b (.access w .double)) → s.conserved → exec c s = .next t → t.conserved) ∧
  (∀ s t : State, s.pending = [] → s.conserved → step s = .next t → t.conserved)

/-- R62 and R302: where the fault port queue holds at most 16 records and every reply FIFO at most 512 words, they do so after
every step. -/
def Obligations.FifosStayBounded : Prop :=
  ∀ s t : State, s.fifosFit → step s = .next t → t.fifosFit

/-- Every step keeps the canonical form of the table of source records: EIDs strictly rising, no entry at its reset value.
The table is how the model itself holds the records (R123). -/
def Obligations.SourceTableStaysCanonical : Prop :=
  ∀ s t : State, s.sourcesTidy → step s = .next t → t.sourcesTidy

/-- R38, R409: no command but the assertion or the release of a cold reset changes the straps as sampled, but that
STRAP_CHANGE may mark them as changed. -/
def Obligations.SampledStrapsChangeOnlyAtColdReset : Prop :=
  ∀ (c : Instr) (s t : State), (∀ src, c ≠ .coldResetAssert src) → (∀ src p, c ≠ .coldResetRelease src p) →
    exec c s = .next t →
    t.strap = s.strap ∨ ((∃ p, c = .strapChange p) ∧ t.strap = { s.strap with changed := true })

/-- The block after power-on: mode COLD with domains 0 to 8 held and no command waiting (R25, R424), CQ0 bound and the other queues not
(R303), VI 0 created with every page entry and no other instance (R252, R253), LAT_BOUND 100 and LAT_FLOOR 110 (R179, R180), and the
invariants of the claims above. It rests on assumption log 1, the model's choice. -/
def Obligations.ResetState : Prop :=
  State.reset.mode.mode = .cold ∧ (∀ d, d ≤ 8 → State.reset.isHeld d = true) ∧ State.reset.pending = [] ∧
  (State.reset.queue 0).bindValid = true ∧ (∀ q, 1 ≤ q → (State.reset.queue q).bindValid = false) ∧
  (State.reset.ctx 0).created = true ∧ (State.reset.ctx 0).pageCount = 16384 ∧
  (∀ i, 1 ≤ i → (State.reset.ctx i).created = false) ∧
  State.reset.rank.boundNs = 100 ∧ State.reset.rank.floor = 110 ∧
  State.reset.fifosFit ∧ State.reset.conserved ∧ State.reset.sourcesTidy

/-! ### What the shared operations do -/

/-- R107: an event that is accepted at a source with a pending event merges into it. The merge keeps the stamp, STATE, PLACE,
HELD and the cell, with the queues of every target and the counts of every instance. The payload is the new one. The origin
stays level only if it was level and the merged event is of level origin, and where it is edge a deassertion no longer ends or
withdraws the event. -/
def Obligations.MergeKeepsStampAndPlace : Prop :=
  ∀ (s : State) (e : Nat) (asLevel : Bool) (payload : BitVec 32) (stamp : Nat),
    ((s.source e).enabled && (s.ctx (s.source e).inst).serving) = true →
    (s.source e).pend = true →
    let r := s.source e
    let t := s.accept e asLevel payload stamp
    let r' := t.source e
    r'.stamp = r.stamp ∧ r'.st = r.st ∧ r'.place = r.place ∧ r'.held = r.held ∧ r'.serving = r.serving ∧
    t.tgts = s.tgts ∧ t.insts = s.insts ∧
    r'.payload = payload ∧ r'.merged = true ∧ r'.originLevel = (r.originLevel && asLevel) ∧
    (r'.originLevel = false → ((t.applyDeassert e).source e).pend = true ∧ ((t.applyDeassert e).source e).place = r.place)

/-- R106, R117, R131: an event accepted at a serving source is one ACCEPTED in the ledger of its owner and in the block ledger,
one OUTSTANDING when it is a new pending event and one MERGED when it merges; at a source that does not serve it is one
ACCEPTED and one DISCARD_DISABLED, and the record stays. The other ledgers and the other records stay. -/
def Obligations.AcceptMovesTheLedgers : Prop :=
  ∀ (s : State) (e : Nat) (asLevel : Bool) (payload : BitVec 32) (stamp : Nat),
    let r := s.source e
    let u : Tally := if !(r.enabled && (s.ctx r.inst).serving) then .acceptDiscard else if r.pend then .merge else .accept
    let t := s.accept e asLevel payload stamp
    t.ldg.block = s.ldg.block.move u ∧ t.ledger r.inst = (s.ledger r.inst).move u ∧
    (∀ j, j ≠ r.inst → t.ledger j = s.ledger j) ∧ (∀ x, x ≠ e → t.source x = s.source x) ∧
    (u = .acceptDiscard → t.source e = r) ∧
    (u = .accept → (t.source e).pend = true ∧ (t.source e).place = .unplaced ∧ (t.source e).stamp = stamp ∧
      (t.source e).payload = payload ∧ (t.source e).gen = (s.ctx r.inst).parity)

/-- R84, R492: a condition of house source `n` sets its flag while intake is shut. While intake is open it changes nothing where
the source is not enabled, but that the word has passed the house port (R450), and no other source record in any case. R358, R359: a clamp is written at CLAMP_COUNT modulo 16 with its
CLAMP_ID and the low 32 bits of the values written and applied; it moves CLAMP_COUNT, NEW and SEQ and sets LOGGED. Either leaves
the state but for what a pulse of a house source changes, and the clamp but for the clamp log. -/
def Obligations.HousePulseAndClampFrames : Prop :=
  (∀ (s : State) (n : Nat),
    s.sameButHouse (s.raiseHouse n) ∧
    (s.intakeShut = true → s.raiseHouse n = { s with house := addOnce n s.house }) ∧
    (s.intakeShut = false → (s.source (houseEid n)).enabled = false → s.raiseHouse n = s.stageOk 3 1) ∧
    (∀ e, e ≠ houseEid n → (s.raiseHouse n).source e = s.source e)) ∧
  (∀ (s : State) (id wr ap : Nat) (wide enum : Bool) (width : Nat),
    let t := s.clamp id wr ap wide enum width
    t.cfg.clampCount = wrap 32 (s.cfg.clampCount + 1) ∧ t.cfg.clampNew = sat 255 (s.cfg.clampNew + 1) ∧
    t.cfg.clampSeq = seqUp s.cfg.clampSeq ∧ t.cfg.clampLogged = true ∧
    (∃ x, tget (fun _ => none) t.cfg.clampLog (s.cfg.clampCount % 16) = some x ∧ x.id = id ∧ x.wr = wr % 2 ^ 32 ∧
      x.ap = ap % 2 ^ 32) ∧
    ({ s with cfg := t.cfg }).sameButHouse t)

/-- R455 to R459, R465: a fault, of its severity after promotion, merges where an entry of its class stands whose handling timer runs
and whose severity is not below its own, and is no OVERFLOW fault: the oldest such entry counts it and takes its stamp as LAST, FLT_MERGED
moves, and the other entries, COUNT, SEQ and the port queue stay. Otherwise it moves COUNT and SEQ, is written at COUNT modulo 16 with its
class, severity, detail word, stamp and timer and a merged count of 0, and is queued on the fault port, or dropped and counted at a full
queue. Nothing changes but what a fault can change. Without a good timebase every timer runs on (R455). -/
def Obligations.FaultIsLoggedOrMerged : Prop :=
  ∀ (s : State) (cls base info : Nat),
    let up := (promotedSev cls).isSome && ((tget (fun _ => {}) s.flt.pre cls : Pre).next s.tick s.tb.good).2 && base != 3
    let sev := if up then (promotedSev cls).getD base else base
    let t := s.report cls base info
    s.sameButFault t ∧
    (∀ k, k < 16 → cls ≠ 0x17 → s.mergesAt cls sev k → (∀ j, j < k → ¬ s.mergesAt cls sev j) →
      t.flt.count = s.flt.count ∧ t.flt.mergedCount = wrap 32 (s.flt.mergedCount + 1) ∧ t.flt.queue = s.flt.queue ∧
      t.flt.seq = s.flt.seq ∧
      tget (fun _ => none) t.flt.log ((s.flt.count + k) % 16) =
        (tget (fun _ => none) s.flt.log ((s.flt.count + k) % 16)).map
          (fun x => { x with merged := sat 65535 (x.merged + 1), last := s.tick }) ∧
      (∀ j, j ≠ (s.flt.count + k) % 16 → tget (fun _ => none) t.flt.log j = tget (fun _ => none) s.flt.log j)) ∧
    (cls = 0x17 ∨ (∀ k, k < 16 → ¬ s.mergesAt cls sev k) →
      t.flt.count = wrap 32 (s.flt.count + 1) ∧ t.flt.mergedCount = s.flt.mergedCount ∧ t.flt.seq = seqUp s.flt.seq ∧
      tget (fun _ => none) t.flt.log (s.flt.count % 16) = some
        { cls := cls, sev := sev, promoted := up, info := info, tick := s.tick, last := 0, merged := 0,
          timerEnd := s.tick + 500 * s.cfg.hold } ∧
      (∀ j, j ≠ s.flt.count % 16 → tget (fun _ => none) t.flt.log j = tget (fun _ => none) s.flt.log j) ∧
      (s.flt.queue.length < 16 → t.flt.queue = s.flt.queue ++ [{ cls := cls, sev := sev, info := info }]) ∧
      (16 ≤ s.flt.queue.length → t.flt.queue = s.flt.queue ∧ t.flt.qdrop = wrap 32 (s.flt.qdrop + 1)))

/-! ### Resets and the ductus -/

/-- R403, R404, R423: COLD_RESET_ASSERT of a source while none stands gives mode COLD with domains 0 to 8 held and the bit and code of the
source in PWR_RST_CAUSE; the tables of sources, instances, targets, groups, translation entries and pages, the ledgers, and the fault,
command, access, port, configuration, ranker and timebase registers take their reset values, every line latch is clear, and the stored
images of the record that no pulse writes stay. A further source joins; K_POK_CORE that falls while R32 exempts it only stops the power-up
check; a source that stands changes nothing. R37, R406, R409: COLD_RESET_RELEASE of the last source samples the straps, with code 0b11 of
K_STRAP_TB and K_STRAP_BOOT as 0 and counted as a clamp, releases D0 and enters DUCTUS at D1; while another source stands, only the source
goes; a source that does not stand changes nothing. That nothing changes where the command's event cannot occur is the model's choice
(assumption log 6). -/
def Obligations.ColdResetAssertAndRelease : Prop :=
  (∀ (src : ColdSrc) (s : State), s.rst.cold = [] → ¬ (src = .pokCore ∧ s.pokExempt = true) →
    ∃ t, exec (.coldResetAssert src) s = .next t ∧ t.mode.mode = .cold ∧
      t.rst.cold = src :: (if s.pwr.pokCore || src == .pokCore then [] else [.pokCore]) ∧
      t.rst.held = [0, 1, 2, 3, 4, 5, 6, 7, 8] ∧ t.rst.causeLast = coldIndex src + 1 ∧
      t.rst.cause.testBit (coldIndex src) = true ∧
      t.src = [] ∧ t.insts = [] ∧ t.tgts = [] ∧ t.groups = [] ∧ t.trans = [] ∧ t.pages = [] ∧ t.ldg = {} ∧ t.flt = {} ∧
      t.cmd = {} ∧ t.acc = {} ∧ t.bus = {} ∧ t.cfg = {} ∧ t.rank = {} ∧ t.tb = {} ∧ (∀ k, (t.line k).latch = false) ∧
      (s.rcd.writing = none → t.rcd.copyA = s.rcd.copyA ∧ t.rcd.copyB = s.rcd.copyB) ∧
      t.now = s.now ∧ t.pending = s.pending) ∧
  (∀ (src : ColdSrc) (s : State), s.rst.cold ≠ [] → src ∉ s.rst.cold → ¬ (src = .pokCore ∧ s.pokExempt = true) →
    ∃ t, exec (.coldResetAssert src) s = .next t ∧ t.rst.cold = s.rst.cold ++ [src] ∧ t.mode = s.mode ∧ t.src = s.src ∧
      t.rst.cause.testBit (coldIndex src) = true) ∧
  (∀ (s : State), s.pokExempt = true →
    exec (.coldResetAssert .pokCore) s = .next { s with
      pwr := { s.pwr with pokCore := false },
      rst := { s.rst with checking := false, needCheck := s.rst.needCheck || s.rst.fromPark } }) ∧
  (∀ (src : ColdSrc) (s : State), src ∈ s.rst.cold → ¬ (src = .pokCore ∧ s.pokExempt = true) →
    exec (.coldResetAssert src) s = .next s) ∧
  (∀ (src : ColdSrc) (p : StrapPins) (s : State), s.rst.cold = [src] → s.mode.mode = .cold →
    ∃ t, exec (.coldResetRelease src p) s = .next t ∧ t.mode.mode = .ductus ∧ t.rst.cold = [] ∧
      t.rst.held = without 0 s.rst.held ∧ t.rst.next = 1 ∧ t.rst.running = true ∧
      t.strap = { tb := if p.tb = 3 then 0 else p.tb.val, tbClamped := p.tb == 3, boot := if p.boot = 3 then 0 else p.boot.val,
                  bootClamped := p.boot == 3, blockNum := p.blockNum.val, nibGen := p.nibGen } ∧
      t.tb.source = t.strap.tb ∧
      t.cfg.clampCount = (if p.tb = 3 ∧ p.boot = 3 then wrap 32 (s.cfg.clampCount + 2)
        else if p.tb = 3 ∨ p.boot = 3 then wrap 32 (s.cfg.clampCount + 1) else s.cfg.clampCount)) ∧
  (∀ (src : ColdSrc) (p : StrapPins) (s : State), src ∈ s.rst.cold → s.rst.cold.filter (· != src) ≠ [] →
    exec (.coldResetRelease src p) s =
      .next { s with rst := { s.rst with cold := s.rst.cold.filter (· != src) },
                     pwr := { s.pwr with pokCore := s.pwr.pokCore || src == .pokCore } }) ∧
  (∀ (src : ColdSrc) (p : StrapPins) (s : State), src ∉ s.rst.cold → exec (.coldResetRelease src p) s = .next s)

/-- R25, R405, R412, R423: WARM_RESET_ASSERT of a source that does not stand, with no cold reset asserted and outside WARM, gives mode WARM
with D4, D7 and D8 held, no ductus, and the intake drain from the present tick; in WARM a further source joins; either is counted and
recorded. While a cold reset stands it only joins; where it stands it changes nothing. WARM_RESET_RELEASE in WARM of the last source, with
no cold one, enters DUCTUS at D1 with the domains held as they were; while another stands, only the source goes; a source that does not
stand changes nothing. The source of K_ESC acts only while the pin says so (R63). WARM_RESET_TAKE_HOLD, while a warm reset takes hold,
holds D5 and D6 once the intake drain has ended, D2 once D3, D5 and D6 are held, and D3, with the firmware stopped and the window closed,
once the hot write queue is empty and the intake drain has ended; otherwise it changes nothing. That nothing changes where the command's
event cannot occur is the model's choice (assumption log 6). It rests on assumption log 26, 27 and 72 too, the model's choices. -/
def Obligations.WarmResetAssertHoldAndRelease : Prop :=
  (∀ (src : WarmSrc) (s : State), s.rst.cold = [] → src ∉ s.rst.warm → s.mode.mode ≠ .warm → (src = .esc → s.pins.esc = 3) →
    ∃ t, exec (.warmResetAssert src) s = .next t ∧ t.mode.mode = .warm ∧ t.rst.warm = s.rst.warm ++ [src] ∧
      t.isHeld 4 = true ∧ t.isHeld 7 = true ∧ t.isHeld 8 = true ∧ t.rst.running = false ∧ t.rst.drainStart = some s.now ∧
      t.rst.warmCount = wrap 16 (s.rst.warmCount + 1) ∧ t.rst.causeLast = warmIndex src + 1 ∧
      t.strap = s.strap ∧ t.pins = s.pins ∧ t.acc = s.acc) ∧
  (∀ (src : WarmSrc) (s : State), s.rst.cold = [] → src ∉ s.rst.warm → s.mode.mode = .warm → (src = .esc → s.pins.esc = 3) →
    ∃ t, exec (.warmResetAssert src) s = .next t ∧ t.mode.mode = .warm ∧ t.rst.warm = s.rst.warm ++ [src] ∧
      t.rst.held = s.rst.held ∧ t.rst.warmCount = wrap 16 (s.rst.warmCount + 1) ∧ t.rst.causeLast = warmIndex src + 1) ∧
  (∀ (src : WarmSrc) (s : State), s.rst.cold ≠ [] → src ∉ s.rst.warm → (src = .esc → s.pins.esc = 3) →
    exec (.warmResetAssert src) s = .next { s with rst := { s.rst with warm := s.rst.warm ++ [src] } }) ∧
  (∀ (src : WarmSrc) (s : State), src ∈ s.rst.warm → s.mode.mode = .warm ∨ s.rst.cold ≠ [] →
    exec (.warmResetAssert src) s = .next s) ∧
  (∀ s : State, s.pins.esc ≠ 3 → exec (.warmResetAssert .esc) s = .next s) ∧
  (∀ (src : WarmSrc) (s : State), s.rst.cold = [] → s.rst.warm.filter (· != src) = [] → src ∈ s.rst.warm →
    (src = .esc → s.pins.esc ≠ 3) → s.mode.mode = .warm →
    ∃ t, exec (.warmResetRelease src) s = .next t ∧ t.mode.mode = .ductus ∧ t.rst.warm = [] ∧ t.rst.running = true ∧
      t.rst.next = 1 ∧ t.rst.held = s.rst.held) ∧
  (∀ (src : WarmSrc) (s : State), s.rst.warm.filter (· != src) ≠ [] → src ∈ s.rst.warm → (src = .esc → s.pins.esc ≠ 3) →
    exec (.warmResetRelease src) s = .next { s with rst := { s.rst with warm := s.rst.warm.filter (· != src) } }) ∧
  (∀ (src : WarmSrc) (s : State), src ∉ s.rst.warm → exec (.warmResetRelease src) s = .next s) ∧
  (∀ s : State, s.takingHold = true → s.rst.drainStart = none →
    exec (.warmResetTakeHold .d5d6) s = .next { s with rst := { s.rst with held := addOnce 6 (addOnce 5 s.rst.held) } }) ∧
  (∀ s : State, s.takingHold = true → s.isHeld 3 = true → s.isHeld 5 = true → s.isHeld 6 = true →
    exec (.warmResetTakeHold .d2) s = .next { s with rst := { s.rst with held := addOnce 2 s.rst.held } }) ∧
  (∀ s : State, s.takingHold = true → s.isHeld 3 = false → s.bus.hotq = [] → s.rst.drainStart = none →
    ∃ t, exec (.warmResetTakeHold .d3) s = .next t ∧ t.rst = { s.rst with held := addOnce 3 s.rst.held } ∧
      t.cmd.fwReady = false ∧ t.cmd.cdw.open_ = false ∧ t.mode = s.mode ∧ t.pins = s.pins) ∧
  (∀ (part : HoldPart) (s : State), s.takingHold = false → exec (.warmResetTakeHold part) s = .next s)

/-- R47: INTAKE_DRAIN_COMPLETE ends an intake drain whose channel buffers are empty. INTAKE_DRAIN_TIMEOUT, 1,000 ticks (2 µs) after the
assertion, ends it with every write left dropped and counted in INT_DRAIN_DROP; targets, groups and pins stay. Where no drain runs, where
a buffer holds a write, or before that time, they change nothing. That nothing changes where the command's event cannot occur is the
model's choice (assumption log 6). It rests on assumption log 2 too, the model's choice. -/
def Obligations.IntakeDrain : Prop :=
  (∀ s : State, s.rst.drainStart.isSome = true → s.buffersEmpty = true →
    exec .intakeDrainComplete s = .next { s with rst := { s.rst with drainStart := none } }) ∧
  (∀ s : State, s.rst.drainStart = none ∨ s.buffersEmpty = false → exec .intakeDrainComplete s = .next s) ∧
  (∀ (s : State) (n : Nat), s.rst.drainStart = some n → n + 1000 ≤ s.now →
    ∃ t, exec .intakeDrainTimeout s = .next t ∧ t.buffersEmpty = true ∧ t.rst = { s.rst with drainStart := none } ∧
      t.cfg.drainDrop = wrap 32 (s.cfg.drainDrop + channels.foldl (fun a c => a + (s.chan c).buf.length) 0) ∧
      t.pins = s.pins ∧ t.tgts = s.tgts ∧ t.groups = s.groups) ∧
  (∀ s : State, (∀ n, s.rst.drainStart = some n → s.now < n + 1000) → exec .intakeDrainTimeout s = .next s)

/-- R25, R63, R460: with no cold reset asserted, K_ESC_CHANGE from 0 to 1 is counted, sets the pin and changes nothing else; a rise to 2 in
START, SERVICE, TEST or QUIESCE is counted and leads to RECOVERY with an audit due; a rise to 3 with no warm source standing is a warm
reset of source ESC in mode WARM; a fall below 2 from 3 in WARM with ESC the one source ends it in DUCTUS. While a cold reset is asserted
in COLD, and where the value stays, only the pin follows. R68: K_PWR_REQ_CHANGE to 0 to 5 is the standing request; 6 and 7 are counted as
a clamp and leave the power state. R38: STRAP_CHANGE to the sampled values changes the pins alone; a generation strap that differs from
the sampled one marks the straps changed, with a fault. That nothing changes where the command's event cannot occur is the model's choice
(assumption log 6). It rests on assumption log 13 and 14 too, the model's choices. -/
def Obligations.EscalationAndPins : Prop :=
  (∀ s : State, s.rst.cold = [] → s.pins.esc = 0 →
    exec (.kEscChange 1) s = .next (({ s with pins := { s.pins with esc := 1 },
                                              flt := { s.flt with escNotify := sat 1023 (s.flt.escNotify + 1) } }).recCount 30 1)) ∧
  (∀ s : State, s.rst.cold = [] → s.pins.esc < 2 → s.mode.mode ∈ [Mode.start, Mode.service, Mode.test, Mode.quiesce] →
    ∃ t, exec (.kEscChange 2) s = .next t ∧ t.mode.mode = .recovery ∧ t.pins = { s.pins with esc := 2 } ∧
      t.flt.escRecovery = sat 1023 (s.flt.escRecovery + 1) ∧ t.ldg.auditDue = true) ∧
  (∀ s : State, s.rst.cold = [] → s.rst.warm = [] → s.mode.mode ≠ .warm → s.pins.esc < 3 →
    ∃ t, exec (.kEscChange 3) s = .next t ∧ t.mode.mode = .warm ∧ t.rst.warm = [.esc] ∧ t.pins = { s.pins with esc := 3 }) ∧
  (∀ (v : Fin 4) (s : State), s.rst.cold = [] → s.rst.warm = [.esc] → s.pins.esc = 3 → v.val < 2 → s.mode.mode = .warm →
    ∃ t, exec (.kEscChange v) s = .next t ∧ t.mode.mode = .ductus ∧ t.rst.warm = [] ∧ t.pins = { s.pins with esc := v.val }) ∧
  (∀ (v : Fin 4) (s : State), s.rst.cold ≠ [] → s.mode.mode = .cold → s.pins.esc ≠ v.val → v.val ≠ 3 → s.pins.esc ≠ 3 →
    exec (.kEscChange v) s = .next { s with pins := { s.pins with esc := v.val } }) ∧
  (∀ (v : Fin 4) (s : State), s.pins.esc = v.val → exec (.kEscChange v) s = .next s) ∧
  (∀ (v : Fin 8) (s : State), v.val < 6 → s.pwr.pin ≠ v.val →
    ∃ t, exec (.kPwrReqChange v) s = .next t ∧ t.pwr.pin = v.val ∧ t.pwr.sw = s.pwr.sw ∧ t.pwr.confirm = s.pwr.confirm ∧
      t.strap = s.strap ∧ t.trans = s.trans ∧ t.pages = s.pages) ∧
  (∀ (v : Fin 8) (s : State), 6 ≤ v.val → s.pwr.pin ≠ v.val → s.rst.cold = [] →
    ∃ t, exec (.kPwrReqChange v) s = .next t ∧ t.pwr = s.pwr ∧ t.cfg.clampCount = wrap 32 (s.cfg.clampCount + 1) ∧
      t.mode = s.mode ∧ t.rst = s.rst) ∧
  (∀ (p : StrapPins) (s : State), s.rst.cold = [] → s.strap.tbClamped = false → s.strap.bootClamped = false →
    p.tb.val = s.strap.tb → p.boot.val = s.strap.boot → p.blockNum.val = s.strap.blockNum → p.nibGen = s.strap.nibGen →
    exec (.strapChange p) s = .next { s with pins := { s.pins with straps := p } }) ∧
  (∀ (p : StrapPins) (s : State), s.rst.cold = [] → p.nibGen ≠ s.pins.straps.nibGen → p.nibGen ≠ s.strap.nibGen →
    ∃ t, exec (.strapChange p) s = .next t ∧ t.strap = { s.strap with changed := true } ∧
      t.pins = { s.pins with straps := p } ∧
      ({ s with pins := t.pins, strap := t.strap }).sameButFault t)

/-- R406, R424: DOMAIN_RELEASE, while a ductus runs that has domain n (1 to 8) next, with the conditions of n met and its gap over, releases n
and nothing else, and n + 1 is next from the present instant. After n = 8 of a cold ductus in DUCTUS, with nothing held by R26 or R461,
K_ESC not at 2 and no parked rung to apply, the mode is START and no ductus runs. While the gap runs, a condition fails, or no ductus
runs, it changes nothing. R416 to R419, R426: DOMAIN_QUIESCE_IDLE of an idle domain, and DOMAIN_QUIESCE_EXPIRY at the end of the window of
a domain other than D1, hold the domain in phase 2 from the present instant, counted and recorded, the second also as timed out.
DOMAIN_RESET_RELEASE after one gap, with no cold or warm source and for D1 no pulse waited out, releases the domain and ends the reset.
Outside its phase each changes nothing. R413: RESET_DEFERRAL_END, while a pulse is waited out, ends the write of the record, holds D1 and
notes the end of the pulse; otherwise it changes nothing. That nothing changes where the command's event cannot occur is the model's
choice (assumption log 6). It rests on assumption log 26 and 28 too, the model's choices. -/
def Obligations.DomainReleasesAndResets : Prop :=
  (∀ (s : State) (n : Nat), s.rst.running = true → s.rst.next = n → 1 ≤ n → n ≤ 8 → s.mayRelease n = true →
    s.gapPassed = true →
    ∃ t, exec .domainRelease s = .next t ∧ t.rst.held = without n s.rst.held ∧ t.rst.next = n + 1 ∧
      t.rst.lastRelease = s.instant) ∧
  (∀ s : State, s.rst.running = true → s.rst.next = 8 → s.mayRelease 8 = true → s.gapPassed = true →
    s.rst.coldReach = true → s.mode.mode = .ductus → s.mode.heldUncont = false → s.mode.heldEsc = false →
    s.mode.heldCwr = false → s.pins.esc ≠ 2 → s.pwr.apply < 4 →
    ∃ t, exec .domainRelease s = .next t ∧ t.mode.mode = .start ∧ t.rst.running = false) ∧
  (∀ s : State, s.gapPassed = false ∨ s.mayRelease s.rst.next = false ∨ s.rst.running = false →
    exec .domainRelease s = .next s) ∧
  (∀ s : State, s.rst.dom.phase = 1 → s.domainIdle = true →
    ∃ t, exec .domainQuiesceIdle s = .next t ∧ t.rst.held = addOnce s.rst.dom.domain s.rst.held ∧ t.rst.dom.phase = 2 ∧
      t.rst.dom.start = s.instant ∧ t.rst.domCount = wrap 16 (s.rst.domCount + 1) ∧ t.rst.causeLast = 8) ∧
  (∀ s : State, s.rst.dom.phase ≠ 1 ∨ s.domainIdle = false → exec .domainQuiesceIdle s = .next s) ∧
  (∀ s : State, s.rst.dom.phase = 1 → s.rst.dom.domain ≠ 1 → s.elapsed s.rst.dom.start (500 * s.cfg.quiesceLimit) = true →
    ∃ t, exec .domainQuiesceExpiry s = .next t ∧ t.rst.held = addOnce s.rst.dom.domain s.rst.held ∧ t.rst.dom.phase = 2 ∧
      t.rst.dom.start = s.instant ∧ t.rst.domCount = wrap 16 (s.rst.domCount + 1) ∧ t.rst.causeLast = 8 ∧
      t.rst.dom.timedOut = true ∧ t.rst.dom.expired = true ∧ t.rst.qtoDomain = wrap 16 (s.rst.qtoDomain + 1)) ∧
  (∀ s : State, s.rst.dom.phase ≠ 1 ∨ s.rst.dom.domain = 1 → exec .domainQuiesceExpiry s = .next s) ∧
  (∀ s : State, s.rst.dom.phase = 2 → s.elapsed s.rst.dom.start s.cfg.gap = true → s.rst.cold = [] → s.rst.warm = [] →
    s.rst.dom.domain ≠ 1 ∨ s.waitsPulse = false →
    ∃ t, exec .domainResetRelease s = .next t ∧ t.rst.held = without s.rst.dom.domain s.rst.held ∧ t.rst.dom.phase = 0 ∧
      t.rst.dom.owner = none) ∧
  (∀ s : State, s.rst.dom.phase ≠ 2 ∨ s.elapsed s.rst.dom.start s.cfg.gap = false →
    exec .domainResetRelease s = .next s) ∧
  (∀ s : State, s.rcd.cutPulse = true →
    ∃ t, exec .resetDeferralEnd s = .next t ∧ t.rcd.writing = none ∧ t.rcd.cutPulse = false ∧ t.isHeld 1 = true ∧
      t.rst.pulseEnd = some s.instant) ∧
  (∀ s : State, s.rcd.cutPulse = false → exec .resetDeferralEnd s = .next s)

/-- R408, R474: INKWELL_INIT_COMPLETE, while the initialisation runs, empties the tables of sources, translation entries, pages, groups,
instances and slots and the queues of work, leaves of each target only the outputs that its port holds (and what its Nib-2 agent has to be
told), sets every ledger to 0, and loads the working copies of the record from the chosen copy with what was counted since, where they are
not loaded, a cold reset counted in counter 27; the stored copies, the mode, the command engines and the timebase stay. R345:
FIRMWARE_READY, with D3 released and the firmware not yet ready, makes the queues read headers; mode and resets stay. Otherwise each
changes nothing. That nothing changes where the command's event cannot occur is the model's choice (assumption log 6). It rests on
assumption log 84 and 87 too, the model's choices. -/
def Obligations.InitAndFirmware : Prop :=
  (∀ s : State, s.rst.waitInit = true →
    ∃ t, exec .inkwellInitComplete s = .next t ∧ t.rst = { s.rst with waitInit := false, needInit := false } ∧
      t.src = [] ∧ t.trans = [] ∧ t.pages = [] ∧ t.groups = [] ∧ t.insts = [] ∧ t.acc.slots = [] ∧
      t.parked = [] ∧ t.waiting = [] ∧ t.counts = [] ∧ t.relays = [] ∧ t.sweeps = [] ∧
      (∀ p ∈ t.tgts, ∃ o ∈ s.tgts, o.1 = p.1 ∧ p.2 = { port := {
        req := o.2.port.req && !s.pwr.parking, vaddr := o.2.port.vaddr, eid := o.2.port.eid, prio := o.2.port.prio,
        cfgDue := p.2.port.cfgDue } }) ∧
      t.ldg.inst = [] ∧ t.ldg.block = {} ∧ t.rcd.copyA = s.rcd.copyA ∧ t.rcd.copyB = s.rcd.copyB ∧
      t.rcd.loaded = true ∧
      (let d := if s.rcd.loaded then s.rcd.work else ((s.rcd.chosen.map Image.data).getD {}).resume s.rcd.work s.rst.fromPark
       (s.rst.coldReach = false → t.rcd.work = d) ∧
       (s.rst.coldReach = true →
        tget (fun _ => 0) t.rcd.work.ctr 27 = sat (2 ^ 64 - 1) (tget (fun _ => 0) d.ctr 27 + 1))) ∧
      t.mode = s.mode ∧ t.cmd = s.cmd ∧ t.tb = s.tb) ∧
  (∀ s : State, s.rst.waitInit = false → exec .inkwellInitComplete s = .next s) ∧
  (∀ s : State, s.isHeld 3 = false → s.cmd.fwReady = false →
    ∃ t, exec .firmwareReady s = .next t ∧ t.cmd.fwReady = true ∧ t.mode = s.mode ∧ t.rst = s.rst) ∧
  (∀ s : State, s.isHeld 3 = true ∨ s.cmd.fwReady = true → exec .firmwareReady s = .next s)

/-! ### Timebase, clocks and lines -/

/-- R20, R66, R67: with D0 released, TIMEBASE_GOOD of a present source, the oscillator calibrated, not asleep in rung 5, makes the timebase
good where it measures within 2% or the source is the oscillator, and not good where it does not; OSC_CALIBRATION_COMPLETE calibrates the
oscillator, which is good at once where it is the source; TIMEBASE_FALLBACK, 2^14 ticks (2^16 ring counts) after the source was lost,
takes the oscillator; K_PTS_LOAD with a good PTS source loads a value not below the count, and refuses a lower one with a fault. Where D0
is held each changes nothing. R34, R45, R60: CLOCK_PRESENCE_RISE and CLOCK_PRESENCE_FALL of a boundary whose signal differs follow the
signal and end an absence: K_FAB_CLK_OK gives, where the channels then stand open, and takes 64 credits a channel, K_MB_CLK_OK ends the
requests under way, the loss of the source in use ends the good timebase and its published bound; a signal as it stands, and the
boundaries with commands of their own, change nothing. R34, R193, R490: CLOCK_ABSENT of a released boundary, 256 ticks after its release
and its last rise, notes the absence; where it is not released, or is absent already, nothing changes. That nothing changes where the
command's event cannot occur is the model's choice (assumption log 6). It rests on assumption log 2, 26, 30 and 81 too, the model's
choices. -/
def Obligations.TimebaseAndClocks : Prop :=
  (∀ (d : Int) (s : State), s.timed = true → s.tb.calibrated = true → s.sourcePresent = true → s.asleepNow = false →
    s.tb.source ≠ 2 → -20000 ≤ d → d ≤ 20000 →
    ∃ t, exec (.timebaseGood d) s = .next t ∧ t.tb.good = true ∧ t.tb.devPpm = d ∧ t.tb.valid = true ∧
      t.src = s.src ∧ t.tgts = s.tgts ∧ t.cmd = s.cmd) ∧
  (∀ (d : Int) (s : State), s.timed = true → s.tb.calibrated = true → s.sourcePresent = true → s.asleepNow = false →
    s.tb.source ≠ 2 → d < -20000 ∨ 20000 < d →
    ∃ t, exec (.timebaseGood d) s = .next t ∧ t.tb.good = false ∧ t.tb.valid = true ∧
      t.tb.devPpm = (if d < -32767 then -32767 else if 32767 < d then 32767 else d)) ∧
  (∀ (d : Int) (s : State), s.timed = true → s.tb.calibrated = true → s.asleepNow = false → s.tb.source = 2 →
    ∃ t, exec (.timebaseGood d) s = .next t ∧ t.tb.good = true) ∧
  (∀ s : State, s.timed = true → s.tb.calibrated = false → s.tb.source ≠ 2 →
    exec .oscCalibrationComplete s = .next { s with tb := { s.tb with calibrated := true, valid := true } }) ∧
  (∀ s : State, s.timed = true → s.tb.calibrated = false → s.tb.source = 2 →
    ∃ t, exec .oscCalibrationComplete s = .next t ∧ t.tb.good = true ∧ t.tb.calibrated = true) ∧
  (∀ s : State, s.timed = true → s.tb.good = false → s.asleepNow = false → s.tb.source ≠ 2 → s.tb.lostAt + 2 ^ 14 ≤ s.now →
    ∃ t, exec .timebaseFallback s = .next t ∧ t.tb.source = 2 ∧ t.tb.fallback = true ∧ t.tb.good = s.tb.calibrated ∧
      t.tb.seq = seqUp s.tb.seq) ∧
  (∀ (v : DWord) (s : State), s.timed = true → s.tb.source = 1 → s.tb.good = true → s.tb.count ≤ v.toNat →
    exec (.kPtsLoad v) s = .next { s with tb := { s.tb with count := v.toNat, loaded := true } }) ∧
  (∀ (v : DWord) (s : State), s.timed = true → s.tb.source = 1 → s.tb.good = true → v.toNat < s.tb.count →
    ∃ t, exec (.kPtsLoad v) s = .next t ∧ t.tb.count = s.tb.count ∧ t.tb.reject = true ∧ t.tb.rej = v.toNat ∧
      t.tb.rejects = sat 255 (s.tb.rejects + 1) ∧ ({ s with tb := t.tb }).sameButFault t) ∧
  (∀ (d : Int) (v : DWord) (s : State), s.timed = false →
    exec (.timebaseGood d) s = .next s ∧ exec .oscCalibrationComplete s = .next s ∧ exec .timebaseFallback s = .next s ∧
    exec (.kPtsLoad v) s = .next s) ∧
  (∀ s : State, s.pins.fabOk = false →
    ∃ t, exec (.clockPresenceRise .fab) s = .next t ∧ t.pins.fabOk = true ∧ Boundary.fab ∉ t.pins.absent ∧
      (t.channelOpen = true → ∀ c, c < 16 → (t.chan c).switchCredits = 64) ∧
      (t.channelOpen = false → t.inch = s.inch) ∧ t.src = s.src ∧ t.tgts = s.tgts) ∧
  (∀ s : State, s.pins.mbOk = false →
    ∃ t, exec (.clockPresenceRise .mb) s = .next t ∧ t.pins.mbOk = true ∧ Boundary.mb ∉ t.pins.absent ∧
      t = { s with pins := t.pins, bus := t.bus }) ∧
  (∀ (n : Fin 1024) (s : State), tget (fun _ => false) s.pins.nibOk n.val = false →
    ∃ t, exec (.clockPresenceRise (.nib n)) s = .next t ∧ tget (fun _ => false) t.pins.nibOk n.val = true ∧
      Boundary.nib n ∉ t.pins.absent ∧ t = { s with pins := t.pins, tgts := t.tgts }) ∧
  (∀ s : State, (s.pins.tbRefOk = false → ∃ t, exec (.clockPresenceRise .tbRef) s = .next t ∧ t.pins.tbRefOk = true ∧
      Boundary.tbRef ∉ t.pins.absent ∧ t = { s with pins := t.pins }) ∧
    (s.pins.ptsGood = false → ∃ t, exec (.clockPresenceRise .pts) s = .next t ∧ t.pins.ptsGood = true ∧
      Boundary.pts ∉ t.pins.absent ∧ t = { s with pins := t.pins })) ∧
  (∀ s : State, s.pins.fabOk = true →
    ∃ t, exec (.clockPresenceFall .fab) s = .next t ∧ t.pins.fabOk = false ∧ (∀ c, c < 16 → (t.chan c).switchCredits = 0) ∧
      (∀ c, (t.chan c).buf = (s.chan c).buf)) ∧
  (∀ s : State, s.pins.mbOk = true →
    exec (.clockPresenceFall .mb) s =
      .next { s with pins := { s.pins with mbOk := false, absent := s.pins.absent.filter (· != .mb) },
                     bus := { s.bus with hot := none, split := none, outstanding := [] } }) ∧
  (∀ s : State, (s.pins.tbRefOk = true → ∃ t, exec (.clockPresenceFall .tbRef) s = .next t ∧ t.pins.tbRefOk = false ∧
      (s.tb.source = 0 → s.tb.good = true → t.tb.good = false ∧ t.tb.lostAt = s.now ∧ t.rank.boundNs = 100 ∧
        t.rank.floor = 110 ∧ t.rst.ring = true)) ∧
    (s.pins.ptsGood = true → ∃ t, exec (.clockPresenceFall .pts) s = .next t ∧ t.pins.ptsGood = false ∧
      (s.tb.source = 1 → s.tb.good = true → t.tb.good = false ∧ t.tb.lostAt = s.now ∧ t.rank.boundNs = 100))) ∧
  (∀ (n : Fin 1024) (g : Fin 32) (s : State), exec (.clockPresenceFall (.nib n)) s = .next s ∧
    exec (.clockPresenceFall (.link g)) s = .next s ∧ exec (.clockPresenceRise (.link g)) s = .next s) ∧
  (∀ (b : Boundary) (s : State), s.released b = true → b ∉ s.pins.absent → s.absentDue b = true →
    ∃ t, exec (.clockAbsent b) s = .next t ∧ t.pins = { s.pins with absent := s.pins.absent ++ [b] }) ∧
  (∀ (b : Boundary) (s : State), s.released b = false ∨ b ∈ s.pins.absent ∨ s.absentDue b = false →
    exec (.clockAbsent b) s = .next s)

/-- R40, R41, R77 to R79: LINE_EDGE, with no cold reset, to the other input value changes the input alone where the edge does not qualify;
where it does, it sets a clear latch, as a wake source, and at a set latch of an edge-sense line counts an overrun. An input as it stands
changes nothing. R78, R79, R82, R106: LINE_HANDOFF of a set latch, while intake takes signals, the bank opens rounds and no earlier line
is due, clears the latch: in an edge sense at an idle serving source it is a new pending event of edge origin with the present stamp;
under level sense at an idle source it sets LEVEL where the line has become active, and clears LEVEL where it has become inactive. Other
sources and the targets stay. Where one of these conditions fails nothing changes. That nothing changes where the command's event cannot
occur is the model's choice (assumption log 6). It rests on assumption log 9 too, the model's choice. -/
def Obligations.LineEdgesAndHandoff : Prop :=
  (∀ (k : Fin 2048) (high : Bool) (s : State), (s.line k.val).input ≠ high → s.rst.cold = [] → (s.line k.val).latch = false →
    (s.onLine k.val fun l => { l with input := high }).qualifies k.val = true →
    exec (.lineEdge k high) s = .next (((s.onLine k.val fun l => { l with input := high }).onLine k.val
      fun l => { l with latch := true }).wake .latch)) ∧
  (∀ (k : Fin 2048) (high : Bool) (s : State), (s.line k.val).input ≠ high → s.rst.cold = [] →
    (s.onLine k.val fun l => { l with input := high }).qualifies k.val = false →
    exec (.lineEdge k high) s = .next (s.onLine k.val fun l => { l with input := high })) ∧
  (∀ (k : Fin 2048) (high : Bool) (s : State), (s.line k.val).input ≠ high → s.rst.cold = [] → (s.line k.val).latch = true →
    s.lineLevelOnly k.val = false → (s.onLine k.val fun l => { l with input := high }).qualifies k.val = true →
    ∃ t, exec (.lineEdge k high) s = .next t ∧ (t.line k.val).overrun = true ∧ (t.line k.val).latch = true ∧
      (t.line k.val).ovrCount = sat 255 ((s.line k.val).ovrCount + 1) ∧ ({ s with lines := t.lines }).sameButHouse t) ∧
  (∀ (k : Fin 2048) (high : Bool) (s : State), (s.line k.val).input = high → exec (.lineEdge k high) s = .next s) ∧
  (∀ (k : Fin 2048) (s : State), s.intakeOn = true → (s.line k.val).latch = true → s.bankFull k.val = false →
    s.lineTurn k.val = true → s.lineLevelOnly k.val = false → (s.source k.val).st = .inactive →
    (s.source k.val).place = .unplaced → (s.source k.val).enabled = true → (s.ctx (s.source k.val).inst).serving = true →
    ∃ t, exec (.lineHandoff k) s = .next t ∧ (t.line k.val).latch = false ∧ (t.source k.val).st = .pending ∧
      (t.source k.val).stamp = s.tick ∧ (t.source k.val).originLevel = false ∧
      (t.source k.val).changes = wrap 16 ((s.source k.val).changes + 1) ∧
      t.ldg.block = s.ldg.block.move .accept ∧ (∀ e, e ≠ k.val → t.source e = s.source e) ∧ t.tgts = s.tgts) ∧
  (∀ (k : Fin 2048) (s : State), s.intakeOn = true → (s.line k.val).latch = true → s.bankFull k.val = false →
    s.lineTurn k.val = true → s.lineLevelOnly k.val = true → (s.source k.val).st = .inactive →
    (s.source k.val).place = .unplaced → s.lineActive k.val ≠ s.seenLevel k.val →
    ∃ t, exec (.lineHandoff k) s = .next t ∧ (t.line k.val).latch = false ∧ (t.source k.val).level = s.lineActive k.val ∧
      (∀ e, e ≠ k.val → t.source e = s.source e) ∧ t.tgts = s.tgts) ∧
  (∀ (k : Fin 2048) (s : State), s.intakeOn = false ∨ (s.line k.val).latch = false ∨ s.bankFull k.val = true ∨
    s.lineTurn k.val = false → exec (.lineHandoff k) s = .next s)

/-- R42, R447: WAKE_LINE_EDGE, with no cold reset, records the wake line and is a wake source; while one is asserted it changes nothing. R43,
R71, R83: SWITCH_ITEM, with the port open and D2 released, in rung 0, is at an idle source in a bank that opens rounds: kind 0 a pulse, a
new pending event where the source serves; kind 1, where LEVEL is 0, LEVEL; kind 2, where LEVEL is 1, the end of LEVEL; kind 1 at LEVEL 1
and kind 2 at LEVEL 0 only counted; kind 3 is refused with reason 0xD. Where the port is closed, nothing changes. R433, R435, R439:
SWITCH_WAKE_DETECT in PARK in rung 4 leads to WAKE with the core supply asked for and the ductus at D1, and in the entry to rung 4 it is
kept for the end of the entry; elsewhere it changes nothing. That nothing changes where the command's event cannot occur is the model's
choice (assumption log 6). It rests on assumption log 31 too, the model's choice. -/
def Obligations.WakeLinesAndSwitchItems : Prop :=
  (∀ (w : Fin 32) (s : State), s.rst.cold = [] →
    exec (.wakeLineEdge w) s =
      .next (({ s with pwr := { s.pwr with wakeLines := s.pwr.wakeLines ||| 2 ^ w.val } }).wake .wakeLine)) ∧
  (∀ (w : Fin 32) (s : State), s.rst.cold ≠ [] → exec (.wakeLineEdge w) s = .next s) ∧
  (∀ (id : Fin 512) (s : State), s.channelOpen = true → s.isHeld 2 = false → s.mode.mode ≠ .park → s.pwr.rung = 0 → s.bankFull (0x800 + id.val) = false → (s.source (0x800 + id.val)).st = .inactive →
    (s.source (0x800 + id.val)).place = .unplaced →
    ((s.source (0x800 + id.val)).enabled = true → (s.ctx (s.source (0x800 + id.val)).inst).serving = true →
      ∃ t, exec (.switchItem id 0) s = .next t ∧ (t.source (0x800 + id.val)).st = .pending ∧
        (t.source (0x800 + id.val)).stamp = s.tick ∧ t.ldg.block = s.ldg.block.move .accept ∧ t.tgts = s.tgts) ∧
    ((s.source (0x800 + id.val)).level = false →
      ∃ t, exec (.switchItem id 1) s = .next t ∧ (t.source (0x800 + id.val)).level = true ∧ t.tgts = s.tgts ∧ t.cfg = s.cfg) ∧
    ((s.source (0x800 + id.val)).level = true →
      ∃ t, exec (.switchItem id 2) s = .next t ∧ (t.source (0x800 + id.val)).level = false ∧ t.tgts = s.tgts ∧
        t.cfg = s.cfg ∧ t.ldg = s.ldg) ∧
    (∀ kind : Fin 4, kind = 1 ∧ (s.source (0x800 + id.val)).level = true ∨ kind = 2 ∧ (s.source (0x800 + id.val)).level = false →
      ∃ t, exec (.switchItem id kind) s = .next t ∧ t.src = s.src ∧ t.ldg = s.ldg ∧
        t.cfg = { s.cfg with swsRedund := wrap 32 (s.cfg.swsRedund + 1) })) ∧
  (∀ (id : Fin 512) (s : State), s.channelOpen = true → s.isHeld 2 = false → s.mode.mode ≠ .park → s.pwr.rung = 0 →
    ∃ t, exec (.switchItem id 3) s = .next t ∧ t.acc.noteReason = 0xD ∧ t.acc.noteCount = wrap 32 (s.acc.noteCount + 1) ∧
      t.ldg.block.refused = inc64 s.ldg.block.refused ∧ t.tgts = s.tgts ∧ t.insts = s.insts) ∧
  (∀ (id : Fin 512) (kind : Fin 4) (s : State), s.channelOpen = false ∨ s.isHeld 2 = true →
    exec (.switchItem id kind) s = .next s) ∧
  (∀ s : State, s.mode.mode = .park → s.pwr.rung = 4 → s.pins.fabOk = true →
    ∃ t, exec .switchWakeDetect s = .next t ∧ t.mode.mode = .wake ∧ t.pwr.coreEn = true ∧ t.rst.running = true ∧
      t.rst.next = 1 ∧ t.rst.needCheck = true) ∧
  (∀ s : State, s.mode.mode ≠ .park ∨ s.pwr.rung ≠ 4 ∨ s.pins.fabOk = false →
    s.pwr.parking = false ∨ s.pwr.parkRung ≠ 4 ∨ s.pins.fabOk = false → exec .switchWakeDetect s = .next s) ∧
  (∀ s : State, s.mode.mode ≠ .park → s.pwr.parking = true → s.pwr.parkRung = 4 → s.pins.fabOk = true → s.pwr.wakeDue = none →
    exec .switchWakeDetect s = .next { s with pwr := { s.pwr with wakeDue := some .message } })

/-! ### Message writes -/

/-- R87: the aperture offset gives the instance in [41:33], from 0 to 511, the device page in [32:12], from 0 to 2,097,151, and
the offset within the device page in [11:0]. -/
def Obligations.ApertureDecode : Prop :=
  ∀ m : MsgWrite, m.offset = m.inst * 2 ^ 33 + m.page * 2 ^ 12 + m.inPage ∧ m.inst < 512 ∧ m.page < 2097152 ∧ m.inPage < 4096

/-- R44, R45, R137: MESSAGE_WRITE_TRANSFER of a well-formed write on a channel that is open, in rung 0, enters the buffer of its channel
behind the writes there and uses one credit, and nothing else changes; without a credit it is refused with reason 0xE, counted as REFUSED
with a fault, and not buffered. On a closed channel nothing changes. R46, R91, R92, R97, R267, R380: MESSAGE_WRITE_JUDGE, with D6 and D3
released and the event engines at work, takes the oldest write of its channel out of the buffer: one that breaks the shape rule is refused
with reason 1; one that is judged to be the pulse of an idle serving source of its instance in a bank that opens rounds is a new pending
event there, with payload and present stamp, where the round robin of the cluster chooses its instance, and waits where it does not. The
credit goes back while the channel is open. R94: an extended record is the pulse of the EID that it names, refused with reason 0xA in
another instance. R226 to R228: a relay record is the pulse of its translation with dword 1 as payload, counted in RELAY_RECV; it waits in
its relay cell while its bank is full, in the buffer while no cell is free, which is counted once, and is counted in RELAY_REFUSED where
it is refused. An empty buffer, a held domain or a parked engine leaves all as it was. That nothing changes where the command's event
cannot occur is the model's choice (assumption log 6). It rests on assumption log 21, 22 and 72 too, the model's choices. -/
def Obligations.MessageTransferAndJudge : Prop :=
  (∀ (c : Fin 16) (m : MsgWrite) (s : State), m.wf = true → s.channelOpen = true → s.mode.mode ≠ .park → s.pwr.rung = 0 → (s.chan c.val).switchCredits ≠ 0 →
    ∃ t, exec (.messageWriteTransfer c m) s = .next t ∧ (t.chan c.val).buf = (s.chan c.val).buf ++ [m] ∧
      (t.chan c.val).switchCredits = (s.chan c.val).switchCredits - 1 ∧ (∀ d, d ≠ c.val → t.chan d = s.chan d) ∧
      t = { s with inch := t.inch }) ∧
  (∀ (c : Fin 16) (m : MsgWrite) (s : State), m.wf = true → s.channelOpen = true → s.mode.mode ≠ .park → s.pwr.rung = 0 → (s.chan c.val).switchCredits = 0 →
    ∃ t, exec (.messageWriteTransfer c m) s = .next t ∧ t.inch = s.inch ∧ t.acc.noteReason = 0xE ∧
      t.acc.noteChan = c.val ∧ t.acc.noteInst = m.inst ∧ t.ldg.block.refused = inc64 s.ldg.block.refused ∧
      ({ s with acc := t.acc }).sameButFault t) ∧
  (∀ (c : Fin 16) (m : MsgWrite) (s : State), m.wf = true → s.channelOpen = false →
    exec (.messageWriteTransfer c m) s = .next s) ∧
  (∀ (k c : Fin 16) (l : List (Fin 512)) (s : State) (m : MsgWrite) (rest : List MsgWrite), s.isHeld 6 = false → s.isHeld 3 = false → s.engineOn = true → (s.chan c.val).buf = m :: rest → m.shaped = false →
    ∃ t, exec (.messageWriteJudge ⟨k, l, c⟩) s = .next t ∧ (t.chan c.val).buf = rest ∧ t.acc.noteReason = 1 ∧
      t.acc.noteInst = m.inst ∧ t.acc.noteMaster = m.master.toNat ∧ t.ldg.block.refused = inc64 s.ldg.block.refused ∧
      (t.chan c.val).switchCredits = (s.chan c.val).switchCredits + bn (s.channelOpen && (s.chan c.val).old == 0) ∧
      t.tgts = s.tgts ∧ t.trans = s.trans ∧ t.pages = s.pages) ∧
  (∀ (k c : Fin 16) (l : List (Fin 512)) (s : State) (m : MsgWrite) (rest : List MsgWrite) (e : Nat) (p : BitVec 32), s.isHeld 6 = false →
    s.isHeld 3 = false → s.engineOn = true → s.picks k l m.inst → (s.chan c.val).buf = m :: rest →
    s.judgeWrite m ((s.pageOf m.inst m.page).map (0x1000 + ·)) = { out := [.pulse e p] } → s.bankFull e = false →
    (s.source e).st = .inactive → (s.source e).place = .unplaced → (s.source e).enabled = true →
    (s.source e).inst = m.inst → (s.ctx m.inst).serving = true →
    ∃ t, exec (.messageWriteJudge ⟨k, l, c⟩) s = .next t ∧ (t.chan c.val).buf = rest ∧ (t.source e).st = .pending ∧
      (t.source e).payload = p ∧ (t.source e).stamp = s.tick ∧ t.ldg.block = s.ldg.block.move .accept ∧
      (t.chan c.val).switchCredits = (s.chan c.val).switchCredits + bn (s.channelOpen && (s.chan c.val).old == 0) ∧
      (∀ x, x ≠ e → t.source x = s.source x) ∧ t.tgts = s.tgts) ∧
  (∀ (k c : Fin 16) (l : List (Fin 512)) (s : State) (m : MsgWrite) (rest : List MsgWrite) (e : Nat) (p : BitVec 32),
    (s.chan c.val).buf = m :: rest → s.judgeWrite m ((s.pageOf m.inst m.page).map (0x1000 + ·)) = { out := [.pulse e p] } →
    ¬ s.picks k l m.inst → exec (.messageWriteJudge ⟨k, l, c⟩) s = .next s) ∧
  (∀ (k c : Fin 16) (l : List (Fin 512)) (s : State) (m : MsgWrite) (rest : List MsgWrite) (q f : Nat), s.isHeld 6 = false →
    s.isHeld 3 = false → s.engineOn = true → s.picks k l m.inst → (s.chan c.val).buf = m :: rest →
    m.shaped = true → m.poison = false → s.pageOf m.inst m.page = some q →
    (s.judge m.master.toNat m.priv true true m.offset (some (0x1000 + q)) false).ok = true → (s.page q).valid = true →
    (s.page q).function m = some f → m.len.toNat = 2 →
    (∀ (n e : Nat), (s.page q).relay = true → m.inPage ≤ 0x3FF → s.freeRelayCell = some n → fld (m.dword 0) 16 8 = 0 →
      fld (m.dword 0) 30 2 = 0 → fld (m.dword 0) 0 16 < (s.page q).tstride →
      (s.transEntry ((s.page q).tbase + f * (s.page q).tstride + fld (m.dword 0) 0 16)).valid = true →
      e = 0x1000 + (s.transEntry ((s.page q).tbase + f * (s.page q).tstride + fld (m.dword 0) 0 16)).mid → s.isStale e = false →
      (s.bankFull e = true →
        ∃ t, exec (.messageWriteJudge ⟨k, l, c⟩) s = .next t ∧ (t.chan c.val).buf = rest ∧ t.src = s.src ∧ t.ldg = s.ldg ∧
          t.relays = s.relays ++ [{ cell := n, mid := e - 0x1000, gen := (s.ctx m.inst).parity, payload := m.dword 1,
                                    origin := fld (m.dword 0) 24 6, epoch := s.acc.epoch }]) ∧
      (s.bankFull e = false → (s.source e).st = .inactive → (s.source e).place = .unplaced → (s.source e).enabled = true →
        (s.source e).inst = m.inst → (s.ctx m.inst).serving = true → (∀ x ∈ s.relays, x.mid ≠ e - 0x1000) →
        ∃ t, exec (.messageWriteJudge ⟨k, l, c⟩) s = .next t ∧ (t.chan c.val).buf = rest ∧ (t.source e).st = .pending ∧
          (t.source e).payload = m.dword 1 ∧ (t.source e).stamp = s.tick ∧ t.ldg.block = s.ldg.block.move .accept ∧
          t.ldg.relayRecv = wrap 32 (s.ldg.relayRecv + 1) ∧ t.ldg.relayRefused = s.ldg.relayRefused ∧
          t.relays = s.relays ∧ (∀ x, x ≠ e → t.source x = s.source x) ∧ t.tgts = s.tgts)) ∧
    (∀ e : Nat, (s.page q).relay = false → (s.page q).fmtExt = true → 0x200 ≤ m.inPage → m.inPage < 0x400 →
      e = fld (m.dword 0) 0 20 → fld (m.dword 0) 20 12 = 0 → 0x1000 ≤ e → e < 0x41000 → s.bankFull e = false →
      s.isStale e = false → (s.source e).st = .inactive → (s.source e).place = .unplaced → (s.source e).enabled = true →
      ((s.source e).inst = m.inst → (s.ctx m.inst).serving = true →
        ∃ t, exec (.messageWriteJudge ⟨k, l, c⟩) s = .next t ∧ (t.chan c.val).buf = rest ∧ (t.source e).st = .pending ∧
          (t.source e).payload = m.dword 1 ∧ (t.source e).stamp = s.tick ∧ t.ldg.block = s.ldg.block.move .accept ∧
          (∀ x, x ≠ e → t.source x = s.source x) ∧ t.tgts = s.tgts) ∧
      ((s.source e).inst ≠ m.inst →
        ∃ t, exec (.messageWriteJudge ⟨k, l, c⟩) s = .next t ∧ (t.chan c.val).buf = rest ∧ t.acc.noteReason = 0xA ∧
          t.acc.noteInst = m.inst ∧ t.ldg.block.refused = inc64 s.ldg.block.refused ∧ t.tgts = s.tgts))) ∧
  (∀ (k c : Fin 16) (l : List (Fin 512)) (s : State) (m : MsgWrite) (rest : List MsgWrite) (x : Verdict1), s.isHeld 6 = false →
    s.isHeld 3 = false → s.engineOn = true → s.picks k l m.inst → (s.chan c.val).buf = m :: rest →
    s.judgeWrite m ((s.pageOf m.inst m.page).map (0x1000 + ·)) = { out := [x], relay := true, cell := true } →
    ∀ r v : Nat, x = .refuse r v →
      ∃ t, exec (.messageWriteJudge ⟨k, l, c⟩) s = .next t ∧ t.tgts = s.tgts ∧ t.relays = s.relays ∧
        (s.freeRelayCell = none → t = (if (s.chan c.val).cellWait then s
          else s.poolWaits.onChan c.val fun y => { y with cellWait := true })) ∧
        (s.freeRelayCell ≠ none → (t.chan c.val).buf = rest ∧ t.acc.noteReason = r ∧ t.acc.noteInst = m.inst ∧
          t.ldg.relayRefused = wrap 32 (s.ldg.relayRefused + 1) ∧ t.ldg.relayRecv = s.ldg.relayRecv ∧
          t.ldg.block.refused = inc64 s.ldg.block.refused)) ∧
  (∀ (k c : Fin 16) (l : List (Fin 512)) (s : State), s.isHeld 6 = true ∨ s.isHeld 3 = true ∨ s.engineOn = false ∨ (s.chan c.val).buf = [] →
    exec (.messageWriteJudge ⟨k, l, c⟩) s = .next s)

/-! ### Event engines -/

/-- R101, R104, R127, R161, R265: ENGINE_RESULT_APPLY of a placing, with engines that work, of a due event whose record shows the change count
of the result, that no scan awaits, whose generation stands and whose refills are not due, queues it, where no reason holds it, at the
tail of its level at its serving target, with one cell counted; the ledgers and every other source stay. A placing with another change
count changes no source, ledger or queue. R237, R239: a count that need not wait leaves its list: below THRESH it opens the window with
its stamp, or goes on in the open one, and only counts. R267: the item runs where the round robin of its cluster chooses its instance
among those with work waiting there; the cluster and these instances are the command's operands (assumption log 22). Where it chooses
another, or with the engines held, nothing changes. That nothing changes where the command's event cannot occur is the model's choice
(assumption log 6). It rests on assumption log 51 too, the model's choice. -/
def Obligations.EngineResults : Prop :=
  (∀ (c : Fin 16) (l : List (Fin 512)) (e : Fin 266240) (s : State), s.worksOn e.val = true → s.mode.mode ≠ .park → s.mode.mode ≠ .failsafe →
    s.pwr.rung = 0 → s.tb.good = false ∨ (s.source e.val).stamp < (s.ctx (s.source e.val).inst).nextRefill →
    s.picks c l (s.source e.val).inst → s.due e.val = true → s.awaitsScan e.val = false → s.isStale e.val = false →
    (s.source e.val).changes < 65536 → (s.ctx (s.source e.val).inst).frozen = false → s.isDormant e.val {} = false →
    s.isMember e.val = false → (s.ctx (s.source e.val).inst).rate = 0 →
    (s.ctx (s.source e.val).inst).cellsPlaced < (s.ctx (s.source e.val).inst).quota →
    (s.ctx (s.source e.val).inst).quotaList = [] →
    ∃ t, exec (.engineResultApply ⟨c, l, .place e (Fin.ofNat 65536 (s.source e.val).changes)⟩) s = .next t ∧
      (t.source e.val).place = .queued ∧ (t.source e.val).serving = s.servingOf (s.source e.val).target ∧
      (t.tgt (s.servingOf (s.source e.val).target)).level (s.source e.val).prio =
        (s.tgt (s.servingOf (s.source e.val).target)).level (s.source e.val).prio ++ [e.val] ∧
      (t.ctx (s.source e.val).inst).cellsPlaced = (s.ctx (s.source e.val).inst).cellsPlaced + 1 ∧ t.ldg = s.ldg ∧
      (∀ x, x ≠ e.val → t.source x = s.source x)) ∧
  (∀ (c : Fin 16) (l : List (Fin 512)) (e : Fin 266240) (n : Fin 65536) (s : State), (s.source e.val).changes ≠ n.val →
    ∃ t, exec (.engineResultApply ⟨c, l, .place e n⟩) s = .next t ∧ t.src = s.src ∧ t.ldg = s.ldg ∧ t.tgts = s.tgts) ∧
  (∀ (c : Fin 16) (l : List (Fin 512)) (g : Fin 65536) (k : Nat) (x : LigCount) (s : State), s.nextCount g.val = some (k, x) →
    s.picks c l (s.grp g.val).inst → s.worksOn x.eid = true → s.mode.mode ≠ .park → s.mode.mode ≠ .quiesce → s.pwr.rung = 0 → x.group = g.val →
    (s.grp g.val).en = true → s.age x.stamp ≤ s.age (s.grp g.val).closed →
    (if (s.grp g.val).open_ then (s.grp g.val).count else 0) + 1 < (s.grp g.val).thresh →
    ∃ t, exec (.engineResultApply ⟨c, l, .count g⟩) s = .next t ∧ t.counts = s.counts.eraseIdx k ∧
      (t.grp g.val).open_ = true ∧ (t.grp g.val).count = (if (s.grp g.val).open_ then (s.grp g.val).count else 0) + 1 ∧
      (t.grp g.val).start = (if (s.grp g.val).open_ then (s.grp g.val).start else low31 x.stamp) ∧
      (t.grp g.val).held = (s.grp g.val).held ∧ t.src = s.src) ∧
  (∀ (c : Fin 16) (l : List (Fin 512)) (e : Fin 266240) (n : Fin 65536) (s : State), ¬ s.picks c l (s.source e.val).inst →
    exec (.engineResultApply ⟨c, l, .place e n⟩) s = .next s) ∧
  (∀ (c : Fin 16) (l : List (Fin 512)) (w : EngineWork) (s : State), s.isHeld 5 = true ∨ s.isHeld 2 = true ∨ 2 ≤ s.pwr.rung →
    exec (.engineResultApply ⟨c, l, w⟩) s = .next s)

/-- R239, R241, R243: LIG_WINDOW_END of a group whose window has reached its END, with working engines in rung 0, no scan, no repair of its
list and no earlier work, closes the window with cause 2: COUNT 0, CLOSED the END, LAST_SIZE the length of the held list, which becomes
one batch in list order with a free pool cell, or none where it is empty. A window that has not ended changes nothing. R242, R248, R249:
LIG_BATCH_MEMBER_RELEASE with D5 and D2 released and the rung below 2 frees a batch that is at its end or of a retired generation, and
completes the drain of a group whose last batch it was; a batch without a pool cell takes a free one; else the first member, where no
reason holds it, is queued with one cell counted, and every other source stays. A group without a batch changes nothing. That nothing
changes where the command's event cannot occur is the model's choice (assumption log 6). It rests on assumption log 21, 22, 58 and 59 too,
the model's choices. -/
def Obligations.GroupReleases : Prop :=
  (∀ (g : Fin 65536) (s : State), s.engineOn = true → s.pwr.rung = 0 → s.endReached g.val = true → s.sweeping .rebuild = false →
    s.listHeld g.val = false → s.earlierWork g.val = false →
    ∃ t, exec (.ligWindowEnd g) s = .next t ∧ (t.grp g.val).open_ = false ∧ (t.grp g.val).count = 0 ∧
      (t.grp g.val).held = [] ∧ (t.grp g.val).lastSize = (s.grp g.val).held.length ∧ (t.grp g.val).lastCause = 2 ∧
      (t.grp g.val).closed = (s.grp g.val).endTick ∧
      ((s.grp g.val).held ≠ [] → ∃ b, (t.grp g.val).batches = (s.grp g.val).batches ++ [b] ∧
        b.members = (s.grp g.val).held ∧ b.cell = s.freePool) ∧
      ((s.grp g.val).held = [] → (t.grp g.val).batches = (s.grp g.val).batches) ∧
      t = { s with groups := t.groups, rcd := t.rcd, cfg := t.cfg, poolTop := t.poolTop, relayTop := t.relayTop }) ∧
  (∀ (g : Fin 65536) (s : State), s.endReached g.val = false → exec (.ligWindowEnd g) s = .next s) ∧
  (∀ (c : Fin 16) (l : List (Fin 512)) (g : Fin 65536) (b : Batch) (bs : List Batch) (s : State), s.isHeld 5 = false → s.isHeld 2 = false →
    s.pwr.rung < 2 → (s.grp g.val).batches = b :: bs → b.members = [] ∨ b.gen ≠ (s.ctx (s.grp g.val).inst).parity →
    ∃ t, exec (.ligBatchMemberRelease ⟨c, l, g⟩) s = .next t ∧ (t.grp g.val).batches = bs ∧
      ((s.grp g.val).drain = false → t = { s with groups := t.groups } ∧ t.src = s.src) ∧
      ((s.grp g.val).drain = true → bs = [] → (s.grp g.val).owed = 0 → (t.grp g.val).drain = false)) ∧
  (∀ (c : Fin 16) (l : List (Fin 512)) (g : Fin 65536) (b : Batch) (bs : List Batch) (e n : Nat) (es : List Nat) (s : State), s.isHeld 5 = false →
    s.isHeld 2 = false → s.pwr.rung < 2 → s.worksOn e = true → (s.grp g.val).batches = b :: bs → b.members = e :: es →
    b.cell = none → s.freePool = some n → b.gen = (s.ctx (s.grp g.val).inst).parity → s.awaitsScan e = false →
    ∃ t, exec (.ligBatchMemberRelease ⟨c, l, g⟩) s = .next t ∧ (t.grp g.val).batches = { b with cell := some n } :: bs ∧
      t.src = s.src ∧ t.tgts = s.tgts) ∧
  (∀ (c : Fin 16) (l : List (Fin 512)) (g : Fin 65536) (b : Batch) (bs : List Batch) (e n : Nat) (es : List Nat) (s : State),
    s.mode.mode ≠ .park → s.mode.mode ≠ .failsafe → s.pwr.rung = 0 → s.worksOn e = true → s.picks c l (s.grp g.val).inst →
    (s.grp g.val).batches = b :: bs → b.members = e :: es → b.cell = some n →
    b.gen = (s.ctx (s.grp g.val).inst).parity → s.awaitsScan e = false → s.isStale e = false →
    s.tb.good = false ∨ (s.source e).stamp < (s.ctx (s.source e).inst).nextRefill →
    (s.source e).st = .pending → (s.source e).place = .unplaced → (s.source e).held = { moderated := true } →
    (s.source e).group = g.val → (s.ctx (s.source e).inst).frozen = false → s.isDormant e {} = false →
    (s.ctx (s.source e).inst).rate = 0 →
    (s.ctx (s.source e).inst).cellsPlaced < (s.ctx (s.source e).inst).quota → (s.ctx (s.source e).inst).quotaList = [] →
    (s.grp g.val).drain = false →
    ∃ t, exec (.ligBatchMemberRelease ⟨c, l, g⟩) s = .next t ∧ (t.source e).place = .queued ∧ (t.source e).held = {} ∧
      (t.ctx (s.source e).inst).cellsPlaced = (s.ctx (s.source e).inst).cellsPlaced + 1 ∧
      (∀ x, x ≠ e → t.source x = s.source x)) ∧
  (∀ (c : Fin 16) (l : List (Fin 512)) (g : Fin 65536) (s : State), (s.grp g.val).batches = [] →
    exec (.ligBatchMemberRelease ⟨c, l, g⟩) s = .next s)

/-- R264, R266: RATE_REFILL of an instance whose NEXT_REFILL has come, with D5 and D2 released, rung 0 and a good timebase, applies a share
that waits, adds RATE tokens up to BURST and moves NEXT_REFILL on by REFILL; with an empty RATE list only the instance changes; the one
source of a RATE list that nothing else holds is queued for one of the tokens. Before NEXT_REFILL it changes nothing. R265, R268, R298:
QUOTA_LIST_RELEASE of an instance that is not frozen and has cells of its QUOTA left, and FROZEN_LIST_RELEASE of one that is not frozen,
with working engines and no repair of the list, take the head off the list and queue it, where no reason holds it, with one cell counted;
the sources behind it stay on the list, and the ledgers and every other source stay. An empty list, or a frozen instance, changes nothing.
That nothing changes where the command's event cannot occur is the model's choice (assumption log 6). It rests on assumption log 12 and 22
too, the model's choices. -/
def Obligations.RefillsAndListReleases : Prop :=
  (∀ (i : Fin 512) (s : State), s.isHeld 5 = false → s.isHeld 2 = false → s.pwr.rung = 0 → s.tb.good = true →
    (s.ctx i.val).nextRefill ≤ s.tick → (s.ctx i.val).rateList = [] →
    ∃ t, exec (.rateRefill i) s = .next t ∧
      ((s.ctx i.val).sharePend = false → (t.ctx i.val) = { s.ctx i.val with
        tokens := min (s.ctx i.val).burst ((s.ctx i.val).tokens + (s.ctx i.val).rate),
        nextRefill := (s.ctx i.val).nextRefill + (s.ctx i.val).refill }) ∧
      ((s.ctx i.val).sharePend = true → (t.ctx i.val).rate = (s.ctx i.val).newRate ∧
        (t.ctx i.val).burst = (s.ctx i.val).newBurst ∧ (t.ctx i.val).sharePend = false ∧
        (t.ctx i.val).tokens = min (s.ctx i.val).newBurst ((s.ctx i.val).tokens + (s.ctx i.val).newRate) ∧
        (t.ctx i.val).nextRefill = (s.ctx i.val).nextRefill + (s.ctx i.val).newRefill) ∧
      t = { s with insts := t.insts }) ∧
  (∀ (i : Fin 512) (e : Nat) (s : State), s.isHeld 5 = false → s.isHeld 2 = false → s.pwr.rung = 0 → s.tb.good = true →
    (s.ctx i.val).nextRefill ≤ s.tick → (s.ctx i.val).rateList = [e] → (s.ctx i.val).sharePend = false →
    0 < (s.ctx i.val).rate → 0 < (s.ctx i.val).burst → (s.ctx i.val).frozen = false → s.repairing (.rate i) = false →
    s.mode.mode ≠ .failsafe → s.isStale e = false → (s.source e).st = .pending → (s.source e).place = .unplaced →
    (s.source e).held = { rate := true } → (s.source e).inst = i.val → s.isDormant e {} = false →
    s.isMember e = false ∨ (s.source e).carried = true →
    (s.ctx i.val).cellsPlaced < (s.ctx i.val).quota → (s.ctx i.val).quotaList = [] →
    ∃ t, exec (.rateRefill i) s = .next t ∧ (t.source e).place = .queued ∧ (t.source e).held = {} ∧
      (t.ctx i.val).rateList = [] ∧
      (t.ctx i.val).tokens = min (s.ctx i.val).burst ((s.ctx i.val).tokens + (s.ctx i.val).rate) - 1 ∧
      (t.ctx i.val).nextRefill = (s.ctx i.val).nextRefill + (s.ctx i.val).refill ∧
      (∀ x, x ≠ e → t.source x = s.source x) ∧ t.ldg = s.ldg) ∧
  (∀ (i : Fin 512) (s : State), s.tick < (s.ctx i.val).nextRefill → exec (.rateRefill i) s = .next s) ∧
  (∀ (c : Fin 16) (l : List (Fin 512)) (i : Fin 512) (e : Nat) (es : List Nat) (s : State), s.worksOn e = true → s.picks c l i.val →
    s.mode.mode ≠ .park → s.mode.mode ≠ .failsafe → s.pwr.rung = 0 → s.repairing (.quota i) = false → (s.ctx i.val).frozen = false →
    s.tb.good = false ∨ (s.source e).stamp < (s.ctx i.val).nextRefill →
    (s.ctx i.val).cellsPlaced < (s.ctx i.val).quota → (s.ctx i.val).quotaList = e :: es → e ∉ es → s.isStale e = false →
    (s.source e).st = .pending → (s.source e).place = .unplaced → (s.source e).held = { quota := true } →
    (s.source e).inst = i.val → s.isDormant e {} = false → s.isMember e = false ∨ (s.source e).carried = true →
    (s.ctx i.val).rate = 0 →
    ∃ t, exec (.quotaListRelease ⟨c, l, i⟩) s = .next t ∧ (t.ctx i.val).quotaList = es ∧
      (t.ctx i.val).cellsPlaced = (s.ctx i.val).cellsPlaced + 1 ∧ (t.source e).place = .queued ∧ (t.source e).held = {} ∧
      (∀ x, x ≠ e → t.source x = s.source x) ∧ t.ldg = s.ldg) ∧
  (∀ (c : Fin 16) (l : List (Fin 512)) (i : Fin 512) (e : Nat) (es : List Nat) (s : State), s.worksOn e = true → s.picks c l i.val →
    s.mode.mode ≠ .park → s.mode.mode ≠ .failsafe → s.pwr.rung = 0 → s.repairing (.frozen i) = false → (s.ctx i.val).frozen = false →
    (s.ctx i.val).drain = false →
    s.tb.good = false ∨ (s.source e).stamp < (s.ctx i.val).nextRefill →
    (s.ctx i.val).cellsPlaced < (s.ctx i.val).quota → (s.ctx i.val).quotaList = [] → (s.ctx i.val).frozenList = e :: es →
    e ∉ es → s.isStale e = false → (s.source e).st = .pending → (s.source e).place = .unplaced →
    (s.source e).held = { frozen := true } → (s.source e).inst = i.val → s.isDormant e {} = false →
    s.isMember e = false ∨ (s.source e).carried = true → (s.ctx i.val).rate = 0 →
    ∃ t, exec (.frozenListRelease ⟨c, l, i⟩) s = .next t ∧ (t.ctx i.val).frozenList = es ∧
      (t.ctx i.val).cellsPlaced = (s.ctx i.val).cellsPlaced + 1 ∧ (t.source e).place = .queued ∧ (t.source e).held = {} ∧
      (∀ x, x ≠ e → t.source x = s.source x) ∧ t.ldg = s.ldg) ∧
  (∀ (c : Fin 16) (l : List (Fin 512)) (i : Fin 512) (s : State), (s.ctx i.val).frozen = true ∨ (s.ctx i.val).quotaList = [] →
    exec (.quotaListRelease ⟨c, l, i⟩) s = .next s) ∧
  (∀ (c : Fin 16) (l : List (Fin 512)) (i : Fin 512) (s : State), (s.ctx i.val).frozen = true ∨ (s.ctx i.val).drain = true ∨ (s.ctx i.val).frozenList = [] →
    exec (.frozenListRelease ⟨c, l, i⟩) s = .next s)

/-- R262, R263: SWITCH_WORK_STEP of a target with switch work, with D5 and D2 released, rung 0, outside PARK, no scan, no repair in its way
and a source it may work on: work without a pool cell takes a free one; work of a retired generation ends; step 1 with nothing presented
goes on to step 2; step 2 makes the next queued event of another guest dormant, and goes on to step 3 where there is none; step 3 with an
empty dormant list of the resident instance ends. A target without switch work changes nothing. R489: SWEEP_STEP of every kind of sweep
that may run, in a bank with records left, passes the next record of that bank alone; the steps of an audit change nothing but the sweep
(R135), and those of a taker sweep end the service of an Active source whose TAKER is the target (R166). A sweep that may not run now, or
is not there, changes nothing. That nothing changes where the command's event cannot occur is the model's choice (assumption log 6). It
rests on assumption log 21, 22 and 36 too, the model's choices. -/
def Obligations.SwitchWorkAndSweepSteps : Prop :=
  (∀ (c : Fin 16) (l : List (Fin 512)) (t : Fin 1024) (w : SwitchWork) (s : State), s.isHeld 5 = false → s.isHeld 2 = false → s.pwr.rung = 0 →
    s.mode.mode ≠ .park → (s.tgt t.val).switching = some w → s.scanning = false → s.switchBlocked t.val w = false →
    (s.switchSource t.val w).all s.worksOn = true →
    (∀ n : Nat, w.cell = none → s.freePool = some n → ∃ u, exec (.switchWorkStep ⟨c, l, t⟩) s = .next u ∧
      (u.tgt t.val).switching = some { w with cell := some n } ∧ u.src = s.src ∧ (∀ x, x ≠ t.val → u.tgt x = s.tgt x)) ∧
    (∀ n : Nat, w.cell = some n → s.picks c l w.inst → w.gen ≠ (s.ctx w.inst).parity → ∃ u, exec (.switchWorkStep ⟨c, l, t⟩) s = .next u ∧
      (u.tgt t.val).switching = none ∧ u.src = s.src) ∧
    (∀ n : Nat, w.cell = some n → s.picks c l w.inst → s.pwr.parking = false → w.gen = (s.ctx w.inst).parity → w.step = 1 → (s.tgt t.val).pres = none →
      ∃ u, exec (.switchWorkStep ⟨c, l, t⟩) s = .next u ∧ (u.tgt t.val).switching = some { w with step := 2 } ∧
        ({ s with tgts := u.tgts }).sameButTurn u) ∧
    (∀ n : Nat, w.cell = some n → s.picks c l w.inst → s.pwr.parking = false → w.gen = (s.ctx w.inst).parity → w.step = 2 → s.walkNext t.val = none →
      ∃ u, exec (.switchWorkStep ⟨c, l, t⟩) s = .next u ∧ (u.tgt t.val).switching = some { w with step := 3 } ∧
        ({ s with tgts := u.tgts }).sameButTurn u) ∧
    (∀ (n e : Nat), w.cell = some n → s.picks c l w.inst → w.gen = (s.ctx w.inst).parity → w.step = 2 → s.walkNext t.val = some e → s.isStale e = false →
      (s.source e).st = .pending → (s.source e).place = .queued → ∃ u, exec (.switchWorkStep ⟨c, l, t⟩) s = .next u ∧
        (u.source e).held.dormant = true ∧ (u.source e).place = .unplaced) ∧
    (∀ n : Nat, w.cell = some n → s.picks c l w.inst → s.pwr.parking = false → w.gen = (s.ctx w.inst).parity → w.step = 3 →
      (s.tgt t.val).dormList (s.tgt t.val).resInst = [] → ∃ u, exec (.switchWorkStep ⟨c, l, t⟩) s = .next u ∧
        (u.tgt t.val).switching = none ∧
        ({ s with tgts := u.tgts }).sameButTurn u)) ∧
  (∀ (c : Fin 16) (l : List (Fin 512)) (t : Fin 1024) (s : State), (s.tgt t.val).switching = none → exec (.switchWorkStep ⟨c, l, t⟩) s = .next s) ∧
  (∀ (k : SweepName) (bank : Fin 64) (w : Sweep) (s : State), s.sweepRuns k = true →
    s.sweeps.find? (·.name == k) = some w → tget (fun _ => 0) w.pos bank.val < 4160 →
    ∃ u, exec (.sweepStep k bank) s = .next u ∧
      (∃ w', u.sweeps.find? (·.name == k) = some w' ∧
        tget (fun _ => 0) w'.pos bank.val = tget (fun _ => 0) w.pos bank.val + 1 ∧
        (∀ b, b ≠ bank.val → tget (fun _ => 0) w'.pos b = tget (fun _ => 0) w.pos b)) ∧
      (k = .audit → u = { s with sweeps := u.sweeps })) ∧
  (∀ (t : Fin 1536) (bank : Fin 64) (w : Sweep) (e : Nat) (s : State), s.sweepRuns (.taker t) = true →
    s.sweeps.find? (·.name == .taker t) = some w → tget (fun _ => 0) w.pos bank.val < 4160 →
    e = 64 * tget (fun _ => 0) w.pos bank.val + bank.val → (s.source e).st = .active → (s.source e).taker = t.val →
    (s.source e).drain = false → s.isStale e = false →
    ∃ u, exec (.sweepStep (.taker t) bank) s = .next u ∧ (u.source e).st = .inactive ∧
      (∀ x, x ≠ e → u.source x = s.source x) ∧ u.ldg = s.ldg) ∧
  (∀ (k : SweepName) (bank : Fin 64) (s : State), s.sweepRuns k = false ∨ s.sweeping k = false →
    exec (.sweepStep k bank) s = .next s)

/-! ### Ranker and repairs -/

/-- R154 to R157, R159, R160, R183, R186, R187: RANK_DECISION of an ONLINE target, with D4 and D2 at work, the rung below 2 and a mode that
presents, where nothing upsets the set, its two paths agree and no repair runs: at a nib target that shows no event, the head of its best
level, above the running level and at a port that can take it, is presented with the next PSEQ; a Nib-1 port shows it with its vector
address, at once or after the cycle of a standing blot's end. A better winner than the event presented, at a nib or a far target, starts
that event's withdrawal for preemption. A set without a winner shows nothing new. Where the paths disagree, CMP is recorded and a repair
starts, and the target is FAULTED with cause 3 if a repair ran or had just ended. With D4 or D2 held, or the target not ONLINE, nothing
changes. That nothing changes where the command's event cannot occur is the model's choice (assumption log 6). It rests on assumption log
66, 75 and 82 too, the model's choices. -/
def Obligations.RankDecisionPresents : Prop :=
  (∀ (t : Fin 1536) (p e : Nat) (s : State), t.val < 1024 → s.isIdle 4 = false → s.isHeld 2 = false → s.pwr.rung < 2 →
    (s.tgt t.val).svc = .online → (s.tgt t.val).repair = false → s.presents = true → (s.tgt t.val).agrees = true →
    s.winnerOf t.val = some (p, e) → s.isStale e = false →
    p < (s.tgt t.val).runEff → (s.tgt t.val).wdrBusy = false → (s.tgt t.val).port.takenCut = false →
    (s.tgt t.val).pres = none → s.canOffer t.val = true → s.isIdle 7 = false →
    ∃ u, exec (.rankDecision t .none) s = .next u ∧ (u.tgt t.val).pres = some e ∧ (u.tgt t.val).held = true ∧
      (u.tgt t.val).pseq = wrap 8 ((s.tgt t.val).pseq + 1) ∧ (u.tgt t.val).presLevel = (s.source e).prio ∧
      (s.isNib2 t.val = false → (s.tgt t.val).path = false →
        ((s.tgt t.val).port.req = false → (s.tgt t.val).port.due = none → (u.tgt t.val).port.req = true ∧
          (u.tgt t.val).port.eid = e ∧ (u.tgt t.val).port.vaddr = (s.tgt t.val).vectorAddr (s.source e).vector) ∧
        ((s.tgt t.val).port.req = true → (u.tgt t.val).port.req = false ∧ (u.tgt t.val).port.due =
          some { vaddr := (s.tgt t.val).vectorAddr (s.source e).vector, eid := e, prio := (s.source e).prio })) ∧
      (u.source e).place = .presented ∧
      (u.source e).st = (s.source e).st ∧ u.ldg = s.ldg ∧ (∀ x, x ≠ t.val → u.tgt x = s.tgt x) ∧
      (∀ x, x ≠ e → u.source x = s.source x)) ∧
  (∀ (t : Fin 1536) (p e x : Nat) (s : State), t.val < 1024 → s.isIdle 4 = false → s.isHeld 2 = false → s.pwr.rung < 2 →
    (s.tgt t.val).svc = .online → (s.tgt t.val).repair = false → s.presents = true → (s.tgt t.val).agrees = true →
    s.winnerOf t.val = some (p, e) → s.isStale x = false → (s.source x).place = .presented →
    p < (s.tgt t.val).runEff → (s.tgt t.val).wdrBusy = false → (s.tgt t.val).port.takenCut = false →
    (s.tgt t.val).pres = some x → x ≠ e → p < (s.tgt t.val).presLevel → s.canOffer t.val = true → s.isIdle 7 = false →
    (s.source x).serving = t.val →
    ∃ u, exec (.rankDecision t .none) s = .next u ∧ (u.source x).place = .withdrawing ∧
      (u.source x).wcause = .preemption ∧ (u.tgt t.val).wdrBusy = true ∧ (u.tgt t.val).pres = some x ∧ u.ldg = s.ldg) ∧
  (∀ (t : Fin 1536) (p e x : Nat) (s : State), 1024 ≤ t.val → s.isIdle 4 = false → s.isHeld 2 = false → s.pwr.rung < 2 →
    (s.tgt t.val).svc = .online → (s.tgt t.val).repair = false → s.presents = true → (s.tgt t.val).agrees = true →
    s.offerable t.val = some (p, e) → s.isStale x = false → (s.source x).place = .presented →
    (s.tgt t.val).wdrBusy = false → (s.tgt t.val).pres = some x → p < (s.source x).prio → (s.source x).serving = t.val →
    ∃ u, exec (.rankDecision t .none) s = .next u ∧ (u.source x).place = .withdrawing ∧
      (u.source x).wcause = .preemption ∧ (u.tgt t.val).wdrBusy = true ∧ u.ldg = s.ldg) ∧
  (∀ (t : Fin 1536) (s : State), t.val < 1024 → s.isIdle 4 = false → s.isHeld 2 = false → s.pwr.rung < 2 →
    (s.tgt t.val).svc = .online → (s.tgt t.val).repair = false → s.presents = true → (s.tgt t.val).agrees = true →
    s.winnerOf t.val = none →
    ∃ u, exec (.rankDecision t .none) s = .next u ∧ (u.tgt t.val).pres = (s.tgt t.val).pres ∧
      u = { s with tgts := u.tgts, flt := { s.flt with runs := u.flt.runs } }) ∧
  (∀ (t : Fin 1536) (x : RankUpset) (s : State), s.isIdle 4 = false → s.isHeld 2 = false → s.pwr.rung < 2 →
    (s.tgt t.val).svc = .online → s.presents = true → (s.tgt t.val).repair = false ∨ x ≠ .none →
    ((s.tgt t.val).upset x).agrees = false →
    ∃ u, exec (.rankDecision t x) s = .next u ∧ u.rank.cmpMismatch = true ∧ u.rank.cmpCount = sat 255 (s.rank.cmpCount + 1) ∧
      u.rank.cmpSeq = seqUp s.rank.cmpSeq ∧ (u.tgt t.val).repair = true ∧
      ((s.tgt t.val).repair = true ∨ (s.tgt t.val).repairFresh = true → (u.tgt t.val).svc = .faulted ∧
        (u.tgt t.val).fcause = 3)) ∧
  (∀ (t : Fin 1536) (x : RankUpset) (s : State), s.isIdle 4 = true ∨ s.isHeld 2 = true ∨ (s.tgt t.val).svc ≠ .online →
    exec (.rankDecision t x) s = .next s)

/-- R160: QUEUE_REPAIR_COMPLETE of a set under repair, with D4 and D2 released, makes the bitmap and the counters again from the queues, which
stay, and lets the set be ranked; a level found broken is emptied and its list repair starts. R148: LIST_REPAIR_COMPLETE of a repair that
has passed every record, with D2 released, ends the repair; of a group whose release waited for it, it makes that release with its cause.
R25, R146, R149, R414: REBUILD_SCAN_COMPLETE of a rebuild scan that has passed every record in REBUILD, with the ledgers in order, nothing
held by R26 or R461, K_ESC not at 2 and no parked rung to apply, ends the scan; with the walker's pass done it leads to START where no
configuration is sealed, to SERVICE where the CRC matches the reference, and to RECOVERY where it does not; before that REBUILD stands. A
set that is not under repair, a repair or a scan that is not complete, changes nothing. That nothing changes where the command's event
cannot occur is the model's choice (assumption log 6). It rests on assumption log 19 too, the model's choice. -/
def Obligations.RepairsAndRebuild : Prop :=
  (∀ (t : Fin 1536) (s : State), s.isHeld 4 = false → s.isHeld 2 = false → (s.tgt t.val).repair = true →
    ∃ u, exec (.queueRepairComplete ⟨t, []⟩) s = .next u ∧
      u.tgt t.val = { (s.tgt t.val).recount with repair := false, repairFresh := true } ∧
      (u.tgt t.val).queues = (s.tgt t.val).queues ∧ (∀ x, x ≠ t.val → u.tgt x = s.tgt x) ∧ u = { s with tgts := u.tgts }) ∧
  (∀ (t : Fin 1536) (k : Fin 64) (s : State), s.isHeld 4 = false → s.isHeld 2 = false → (s.tgt t.val).repair = true →
    ∃ u, exec (.queueRepairComplete ⟨t, [k]⟩) s = .next u ∧ (u.tgt t.val).repair = false ∧
      (u.tgt t.val).level k.val = [] ∧ u.repairing (.level t k) = true ∧ (∀ x, x ≠ t.val → u.tgt x = s.tgt x) ∧
      u = { s with tgts := u.tgts, sweeps := u.sweeps }) ∧
  (∀ (t : Fin 1536) (k : List (Fin 64)) (s : State), (s.tgt t.val).repair = false →
    exec (.queueRepairComplete ⟨t, k⟩) s = .next s) ∧
  (∀ (l : ListName) (s : State), (∀ g, l ≠ .moderated g) → s.isHeld 2 = false → s.sweepDone (.repair l) = true →
    ∃ u, exec (.listRepairComplete l) s = .next u ∧ u.repairing l = false ∧ u = { s with sweeps := u.sweeps }) ∧
  (∀ (g : Fin 65536) (s : State), s.isHeld 2 = false → s.sweepDone (.repair (.moderated g)) = true →
    (s.grp g.val).owed ≠ 0 → (s.grp g.val).held ≠ [] →
    ∃ u, exec (.listRepairComplete (.moderated g)) s = .next u ∧ u.repairing (.moderated g) = false ∧
      (u.grp g.val).held = [] ∧ (u.grp g.val).lastCause = (s.grp g.val).owed ∧ (u.grp g.val).owed = 0 ∧
      (∃ b, (u.grp g.val).batches = (s.grp g.val).batches ++ [b] ∧ b.members = (s.grp g.val).held)) ∧
  (∀ (l : ListName) (s : State), s.isHeld 2 = true ∨ s.sweepDone (.repair l) = false →
    exec (.listRepairComplete l) s = .next s) ∧
  (∀ (w : Sweep) (s : State), s.sweeps.find? (fun w => w.name == .rebuild || w.name == .rescan) = some w →
    w.name = .rebuild → w.complete = true → s.mode.mode = .rebuild → s.mode.heldUncont = false →
    s.mode.heldEsc = false → s.mode.heldCwr = false → s.pins.esc ≠ 2 → s.pwr.apply < 4 → s.ledgerFails w = [] →
    (∃ t, exec .rebuildScanComplete s = .next t ∧ t.sweeping .rebuild = false ∧
      t.mode.mode = (if s.cfg.walked = false then .rebuild else if s.cfg.sealed_ = false then .start
        else if s.cfg.crc = s.cfg.ref then .service else .recovery))) ∧
  (∀ s : State, (∀ w ∈ s.sweeps, w.name = .rebuild ∨ w.name = .rescan → w.complete = false) →
    exec .rebuildScanComplete s = .next s)

/-! ### Nib ports and links -/

/-- R55, R95, R106, R188, R192, R208: NIB_TAKE at a port that samples, outside PARK in rung 0, with a request standing: of the presented event
of a bank that opens rounds, with D7 released, it makes the source Active with this target as TAKER, counts DELIVERED, captures the
payload for its level, frees the port and sets the running level; of an event being withdrawn, it is kept for the answer; of the blot, it
frees the port; with D7 held or the bank closed it is captured. With no request standing it is notice 0. NIB_DONE waits in a holder of 16,
and beyond it is notice 4. R108, R191, R192, R199: DONE_APPLY of the oldest done, with D7 and D2 released and no take captured, at an open
bank: of the Active source in service there, whose level does not stand, it makes it Inactive and gives the running level back, and at a
Nib-2 target its credit is owed again; of a source not in service there it is notice 1. A port that does not sample, or an empty holder,
changes nothing. That nothing changes where the command's event cannot occur is the model's choice (assumption log 6). It rests on
assumption log 16 and 20 too, the model's choices. -/
def Obligations.TakesAndDones : Prop :=
  (∀ (n : Fin 1024) (e : Nat) (s : State), s.portLive n.val = true → s.mode.mode ≠ .park → s.pwr.rung = 0 →
    (s.tgt n.val).port.req = true → (s.tgt n.val).pres = some e → s.isHeld 7 = false → s.bankFull e = false →
    (s.source e).place = .presented → (s.source e).st = .pending → s.isStale e = false → s.bankQuiet e →
    ∃ t, exec (.nibTake n) s = .next t ∧ (t.source e).st = .active ∧ (t.source e).taker = n.val ∧
      (t.source e).place = .unplaced ∧ (t.source e).held = {} ∧ (t.tgt n.val).pres = none ∧
      (t.tgt n.val).port.req = false ∧ (t.tgt n.val).held = false ∧
      tget (fun _ => ({} : Capture)) (t.tgt n.val).pay (s.source e).prio =
        { payload := (s.source e).payload, eid := e, merged := (s.source e).merged, pseq := (s.tgt n.val).pseq } ∧
      (t.tgt n.val).runEff = min (s.tgt n.val).runRpt (s.tgt n.val).presLevel ∧
      t.ldg.block = s.ldg.block.move .deliver ∧ (∀ x, x ≠ e → t.source x = s.source x)) ∧
  (∀ (n : Fin 1024) (e : Nat) (s : State), s.portLive n.val = true → s.mode.mode ≠ .park → s.pwr.rung = 0 →
    (s.tgt n.val).port.req = true → (s.tgt n.val).pres = some e →
    ((s.source e).place = .withdrawing → ∃ t, exec (.nibTake n) s = .next t ∧ (t.tgt n.val).port.taken = true ∧
      (t.tgt n.val).port.req = false ∧ t.src = s.src ∧ t.ldg = s.ldg) ∧
    ((s.source e).place ≠ .withdrawing → s.isHeld 7 = true ∨ s.bankFull e = true →
      ∃ t, exec (.nibTake n) s = .next t ∧ (t.tgt n.val).port.takenCut = true ∧
        (t.tgt n.val).port.takeAfter = (s.tgt n.val).port.dones.length ∧ (t.tgt n.val).port.req = false ∧
        t.src = s.src ∧ t.ldg = s.ldg)) ∧
  (∀ (n : Fin 1024) (s : State), s.portLive n.val = true → s.mode.mode ≠ .park → s.pwr.rung = 0 →
    (s.tgt n.val).port.req = true → (s.tgt n.val).pres = none → s.isHeld 7 = false →
    ∃ t, exec (.nibTake n) s = .next t ∧ (t.tgt n.val).port.req = false ∧ (t.tgt n.val).held = false ∧
      (t.tgt n.val).blot = false ∧ t.src = s.src ∧ t.ldg = s.ldg) ∧
  (∀ (n : Fin 1024) (s : State), s.portLive n.val = true → s.mode.mode ≠ .park → s.pwr.rung = 0 →
    (s.tgt n.val).port.req = false →
    ∃ t, exec (.nibTake n) s = .next t ∧ (t.tgt n.val).port.stat = (s.tgt n.val).port.stat ||| 1 ∧
      (t.tgt n.val).port.statSeq = seqUp (s.tgt n.val).port.statSeq ∧ (∀ x, x ≠ n.val → t.tgt x = s.tgt x)) ∧
  (∀ (n : Fin 1024) (eid : BitVec 20) (s : State), s.portLive n.val = true → s.mode.mode ≠ .park → s.pwr.rung = 0 →
    s.pwr.parking = false →
    ((s.tgt n.val).port.dones.length < 16 →
      ∃ t, exec (.nibDone n eid) s = .next t ∧ (t.tgt n.val).port.dones = (s.tgt n.val).port.dones ++ [eid.toNat] ∧
      (∀ x, x ≠ n.val → t.tgt x = s.tgt x) ∧ t = { s with tgts := t.tgts }) ∧
    (16 ≤ (s.tgt n.val).port.dones.length →
      ∃ t, exec (.nibDone n eid) s = .next t ∧ (t.tgt n.val).port.stat = (s.tgt n.val).port.stat ||| 16 ∧
      (t.tgt n.val).port.dones = (s.tgt n.val).port.dones)) ∧
  (∀ (n : Fin 1024) (eid : BitVec 20) (s : State), s.portLive n.val = false →
    exec (.nibTake n) s = .next s ∧ exec (.nibDone n eid) s = .next s) ∧
  (∀ (n : Fin 1536) (e : Nat) (es : List Nat) (s : State),
    (s.tgt n.val).port.dones = e :: es → s.isHeld 7 = false → s.isHeld 2 = false → e < 0x41000 → s.bankFull e = false →
    (∀ p ∈ s.tgts, p.2.port.takenCut = false) → (s.source e).st = .active → (s.source e).place = .unplaced →
    (s.source e).taker = n.val → (s.source e).level = false → (s.source e).drain = false → s.isStale e = false →
    ∃ t, exec (.doneApply n) s = .next t ∧ (t.source e).st = .inactive ∧ (t.tgt n.val).port.dones = es ∧ t.ldg = s.ldg ∧
      ((s.tgt n.val).effEid = some e → (t.tgt n.val).runEff = (s.tgt n.val).runRpt ∧ (t.tgt n.val).effEid = none) ∧
      ((s.tgt n.val).effEid ≠ some e → (t.tgt n.val).runEff = (s.tgt n.val).runEff) ∧
      (s.isNib2 n.val = true → (t.link (n.val / 32)).credOwed = (s.link (n.val / 32)).credOwed + 1) ∧
      (∀ x, x ≠ e → t.source x = s.source x)) ∧
  (∀ (n : Fin 1536) (e : Nat) (es : List Nat) (s : State), (s.tgt n.val).port.dones = e :: es → s.isHeld 7 = false →
    s.isHeld 2 = false → e < 0x41000 → s.bankFull e = false → (∀ p ∈ s.tgts, p.2.port.takenCut = false) →
    (s.source e).place ≠ .withdrawing → (s.source e).inService = false ∨ (s.source e).taker ≠ n.val → s.isStale e = false →
    ∃ t, exec (.doneApply n) s = .next t ∧ (t.tgt n.val).port.dones = es ∧
      (t.tgt n.val).port.stat = (s.tgt n.val).port.stat ||| 2) ∧
  (∀ (n : Fin 1536) (s : State), (s.tgt n.val).port.dones = [] → exec (.doneApply n) s = .next s)

/-- R55, R192, R193, R204, R245: at a port that samples, outside PARK in rung 0, NIB_RUNLVL_CHANGE to 0 to 64 is kept, and is the running
level in use of a target outside the register path; above 64 it counts as 0, with notice 2 at the first sample. NIB_IDLE_CHANGE to 0 to 2
is the idle value; 1 or 2 releases the held list of a group that watches the target with cause 3 in a mode with the bypass. A port that
does not sample changes nothing. R56, R194: NIB_CLK_OK_FALL of a clock that stands follows it; an event presented at a Nib-1 port, and not
taken, is queued again with no ledger or other source changed. R111, R112, R114, R204: WITHDRAWAL_ANSWER of a Nib-1 port, the front file
or a far channel ends the withdrawal there: without a take, preemption leaves the event queued, and a disable ends it as DISCARD_DISABLED
with the blot at a nib target that showed it; with a take sampled the event is Active and DELIVERED. Where nothing is withdrawing, nothing
changes. That nothing changes where the command's event cannot occur is the model's choice (assumption log 6). It rests on assumption log
48 and 50 too, the model's choices. -/
def Obligations.NibReportsLossAndWithdrawal : Prop :=
  (∀ (n : Fin 1024) (v : BitVec 7) (s : State), s.portLive n.val = true → s.mode.mode ≠ .park → s.pwr.rung = 0 →
    s.pwr.parking = false → v.toNat ≤ 64 →
    ∃ t, exec (.nibRunlvlChange n v) s = .next t ∧ (t.tgt n.val).port.runIn = v.toNat ∧
      ((s.tgt n.val).path = false → (t.tgt n.val).runRpt = v.toNat ∧
        ((s.tgt n.val).runRpt ≠ v.toNat → (t.tgt n.val).runEff = v.toNat)) ∧
      ((s.tgt n.val).path = true → (t.tgt n.val).runRpt = (s.tgt n.val).runRpt) ∧
      t = { s with tgts := t.tgts } ∧ (∀ x, x ≠ n.val → t.tgt x = s.tgt x)) ∧
  (∀ (n : Fin 1024) (v : BitVec 7) (s : State), s.portLive n.val = true → s.mode.mode ≠ .park → s.pwr.rung = 0 →
    64 < v.toNat → (s.tgt n.val).path = false → (s.tgt n.val).port.runBad = false →
    ∃ t, exec (.nibRunlvlChange n v) s = .next t ∧ (t.tgt n.val).runRpt = 0 ∧ (t.tgt n.val).port.runBad = true ∧
      (t.tgt n.val).port.stat = (s.tgt n.val).port.stat ||| 4) ∧
  (∀ (n : Fin 1024) (v : BitVec 2) (s : State), s.portLive n.val = true → s.mode.mode ≠ .park → s.pwr.rung = 0 →
    s.pwr.parking = false → v.toNat < 3 →
    ∃ t, exec (.nibIdleChange n v) s = .next t ∧ (t.tgt n.val).port.idle = v.toNat ∧
      (∀ x, x ≠ n.val → t.tgt x = s.tgt x) ∧ t.src = s.src ∧
      (v.toNat = 0 ∨ s.bypasses = false → t = { s with tgts := t.tgts }) ∧
      (v.toNat ≠ 0 → s.bypasses = true → (s.tgt n.val).path = false → ∀ g, (s.grp g).bypTgt = n.val → (s.grp g).held ≠ [] →
        s.listHeld g = false → (t.grp g).held = [] ∧ (t.grp g).lastCause = 3)) ∧
  (∀ (n : Fin 1024) (v : BitVec 7) (w : BitVec 2) (s : State), s.portLive n.val = false →
    exec (.nibRunlvlChange n v) s = .next s ∧ exec (.nibIdleChange n w) s = .next s) ∧
  (∀ (n : Fin 1024) (s : State), tget (fun _ => false) s.pins.nibOk n.val = true →
    ∃ t, exec (.nibClkOkFall n) s = .next t ∧ tget (fun _ => false) t.pins.nibOk n.val = false ∧
      Boundary.nib n ∉ t.pins.absent) ∧
  (∀ (n : Fin 1024) (e : Nat) (s : State), tget (fun _ => false) s.pins.nibOk n.val = true → s.isNib2 n.val = false →
    (s.tgt n.val).path = false → (s.tgt n.val).pres = some e → (s.source e).place = .presented → s.isStale e = false →
    (∀ p ∈ s.tgts, p.2.port.takenCut = false) → s.bankFull e = false → s.bankQuiet e →
    ∃ t, exec (.nibClkOkFall n) s = .next t ∧
      (t.source e).place = .queued ∧ (t.source e).st = (s.source e).st ∧ (t.tgt n.val).pres = none ∧
      (t.tgt n.val).port.req = false ∧ (t.tgt n.val).runEff = (s.tgt n.val).runRpt ∧ t.ldg = s.ldg ∧
      (∀ x, x ≠ e → t.source x = s.source x)) ∧
  (∀ (n : Fin 1024) (s : State), tget (fun _ => false) s.pins.nibOk n.val = false → exec (.nibClkOkFall n) s = .next s) ∧
  (∀ (n : Fin 1536) (e : Nat) (never : Bool) (s : State), (s.tgt n.val).pres = some e → s.portAnswers n.val e →
    (s.source e).place = .withdrawing → s.isStale e = false → (s.tgt n.val).port.taken = false →
    ((s.source e).wcause = .preemption → (s.source e).drain = false →
      ∃ t, exec (.withdrawalAnswer n never) s = .next t ∧ (t.source e).place = .queued ∧
        (t.source e).st = (s.source e).st ∧ (t.tgt n.val).pres = none ∧ (t.tgt n.val).wdrBusy = false ∧ t.ldg = s.ldg) ∧
    ((s.source e).wcause = .disable → (s.source e).drain = true → (s.source e).en = false → s.cmd.deferred = [] →
      ∃ t, exec (.withdrawalAnswer n never) s = .next t ∧ (t.source e).st = .inactive ∧ (t.source e).drain = false ∧
        (t.tgt n.val).pres = none ∧ (t.tgt n.val).wdrBusy = false ∧ t.ldg.block = s.ldg.block.move .disabled ∧
        (n.val < 1024 → never = false → (s.tgt n.val).port.due = none → (t.tgt n.val).blot = true))) ∧
  (∀ (n : Fin 1536) (e : Nat) (never : Bool) (s : State), n.val < 1024 → (s.tgt n.val).pres = some e →
    s.portAnswers n.val e → (s.source e).place = .withdrawing → s.isStale e = false → (s.tgt n.val).port.taken = true →
    (s.source e).wcause = .preemption → (s.source e).drain = false →
    ∃ t, exec (.withdrawalAnswer n never) s = .next t ∧ (t.source e).st = .active ∧ (t.source e).taker = n.val ∧
      (t.tgt n.val).pres = none ∧ t.ldg.block = s.ldg.block.move .deliver) ∧
  (∀ (n : Fin 1536) (never : Bool) (s : State), (∀ e, (s.tgt n.val).pres = some e → (s.source e).place ≠ .withdrawing) →
    exec (.withdrawalAnswer n never) s = .next s)

/-- R57, R199, R202: N2_LINK_UP of a link that is down, of a group that is not Nib-2, keeps its level and the instant; of a Nib-2 group with
D7 released it opens the link with 32 credits given or owed. N2_LINK_DOWN closes the link from the present tick; an event presented by it
is queued again. N2_LINK_DOWN_TIMEOUT, 2^20 ticks later, discards its flits and RESET is due. N2_LINK_KEEPALIVE, 64 ticks after the last
flit with flits not acknowledged, sends one LINK flit. R58, R198: N2_FLIT_BAD without a credit changes no link and is a fault; with one it
asks for a replay by NAK. R195, R200 to R204: a flit that comes in order, with a credit, outside PARK in rung 0, advances LSEQ. N2_DONE
waits at its target; N2_STATE_LINK ends the wait for a replay; N2_STATE_LEVEL of 0 to 64 is the running level of a target outside the
register path, and confirms the PSEQ held; N2_STATE_WACK of the present PSEQ ends a withdrawal for preemption, the event queued; N2_TAKE
of what is presented, or of the last presentation of an event queued again there, makes it Active and DELIVERED. But for a done, the
credit is owed again at once. A link as it stands changes nothing. That nothing changes where the command's event cannot occur is the
model's choice (assumption log 6). It rests on assumption log 29 too, the model's choice. -/
def Obligations.Nib2LinkLevelAndFlits : Prop :=
  (∀ (g : Fin 32) (s : State), (s.link g.val).up = false → s.isNib2 (32 * g.val) = false →
    exec (.n2LinkUp g) s = .next ((s.onLink g.val fun l => { l with up := true }).rises (.link g))) ∧
  (∀ (g : Fin 32) (s : State), (s.link g.val).up = false → s.isNib2 (32 * g.val) = true → s.isHeld 7 = false →
    ∃ t, exec (.n2LinkUp g) s = .next t ∧ (t.link g.val).up = true ∧ (t.link g.val).open_ = true ∧
      (t.link g.val).everUp = true ∧ (t.link g.val).resetDue = false ∧
      (t.link g.val).agentCredits + (t.link g.val).credOwed = 32 ∧ (∀ x, x ≠ g.val → t.link x = s.link x) ∧
      t.src = s.src) ∧
  (∀ (g : Fin 32) (s : State), (s.link g.val).up = true → exec (.n2LinkUp g) s = .next s) ∧
  (∀ (g : Fin 32) (s : State), (s.link g.val).up = false → exec (.n2LinkDown g) s = .next s) ∧
  (∀ (g : Fin 32) (s : State), (s.link g.val).up = true →
    ∃ t, exec (.n2LinkDown g) s = .next t ∧ (t.link g.val).up = false ∧ (t.link g.val).open_ = false ∧
      (t.link g.val).downSince = s.tick ∧
      (s.isNib2 (32 * g.val) = false → t.src = s.src ∧ t.ldg = s.ldg ∧ t.tgts = s.tgts)) ∧
  (∀ (g : Fin 32) (k : Fin 32) (e : Nat) (s : State), (s.link g.val).up = true → s.isNib2 (32 * g.val) = true →
    (s.tgt (32 * g.val + k.val)).path = false → (s.tgt (32 * g.val + k.val)).pres = some e →
    (∀ j, j ≠ k.val → (s.tgt (32 * g.val + j)).pres = none) → (∀ p ∈ s.tgts, p.2.port.takenCut = false) →
    (s.source e).place = .presented → s.isStale e = false → s.bankFull e = false → s.bankQuiet e →
    ∃ t, exec (.n2LinkDown g) s = .next t ∧ (t.source e).place = .queued ∧ (t.source e).st = (s.source e).st ∧
      (t.tgt (32 * g.val + k.val)).pres = none ∧ t.ldg = s.ldg) ∧
  (∀ (g : Fin 32) (s : State), s.rxOn g.val = true →
    ∃ t, exec (.n2FlitBad g .noCredit) s = .next t ∧ t.links = s.links ∧ s.sameButFault t) ∧
  (∀ (g : Fin 32) (why : FlitFlaw) (s : State), s.rxOn g.val = true → why ≠ .noCredit → (s.link g.val).agentCredits ≠ 0 →
    (s.link g.val).rxDiscard = false → (s.link g.val).nakRun < 7 →
    ∃ t, exec (.n2FlitBad g why) s = .next t ∧ (t.link g.val).rxDiscard = true ∧
      (t.link g.val).nakRun = (s.link g.val).nakRun + 1 ∧
      (∃ f, (t.link g.val).sent = (s.link g.val).sent ++ [f] ∧ f.nak = true)) ∧
  (∀ (g : Fin 32) (s : State), s.isNib2 (32 * g.val) = true → (s.link g.val).up = false → (s.link g.val).everUp = true →
    (s.link g.val).resetDue = false → s.tb.good = true → (s.link g.val).downSince + 2 ^ 20 ≤ s.tick →
    ∃ t, exec (.n2LinkDownTimeout g) s = .next t ∧ (t.link g.val).sent = [] ∧ (t.link g.val).txNext = 0 ∧
      (t.link g.val).rxNext = 0 ∧ (t.link g.val).resetDue = true) ∧
  (∀ (g : Fin 32) (s : State), s.rxOn g.val = true → (s.link g.val).sent ≠ [] → (s.link g.val).sent.length < 32 →
    s.tb.good = true → (s.link g.val).lastSend + 64 ≤ s.tick →
    ∃ t, exec (.n2LinkKeepalive g) s = .next t ∧
      (∃ f, (t.link g.val).sent = (s.link g.val).sent ++ [f] ∧ f.kind = 5 ∧ f.lseq = (s.link g.val).txNext) ∧ (t.link g.val).txNext = wrap 8 ((s.link g.val).txNext + 1) ∧
      (t.link g.val).lastSend = s.tick ∧ t = { s with links := t.links }) ∧
  (∀ (g : Fin 32) (s : State), s.tb.good = false ∨ s.isNib2 (32 * g.val) = false →
    exec (.n2LinkKeepalive g) s = .next s ∧ exec (.n2LinkDownTimeout g) s = .next s) ∧
  (∀ (g : Fin 32) (h : FlitHead) (s : State), s.rxOn g.val = true → s.mode.mode ≠ .park → s.pwr.rung = 0 →
    s.pwr.parking = false → (s.link g.val).agentCredits ≠ 0 → h.lseq.val = (s.link g.val).rxNext → h.nak = false →
    (s.link g.val).nakIn < 8 →
    (∀ eid : BitVec 20, ∃ t, exec (.n2Done g h eid) s = .next t ∧
      (t.tgt (32 * g.val + h.tgt.val)).port.dones = (s.tgt (32 * g.val + h.tgt.val)).port.dones ++ [eid.toNat] ∧
      (t.link g.val).rxNext = wrap 8 ((s.link g.val).rxNext + 1) ∧
      (t.link g.val).agentCredits = (s.link g.val).agentCredits - 1 ∧ (t.link g.val).credOwed = (s.link g.val).credOwed ∧
      t = { s with tgts := t.tgts, links := t.links }) ∧
    (∀ replayEnd : Bool, (s.link g.val).resetDue = false →
      ∃ t, exec (.n2StateLink g h replayEnd) s = .next t ∧
      (t.link g.val).awaitReplay = ((s.link g.val).awaitReplay && !replayEnd) ∧
      (t.link g.val).rxNext = wrap 8 ((s.link g.val).rxNext + 1) ∧
      (t.link g.val).credOwed = (s.link g.val).credOwed + 1 ∧ t = { s with links := t.links }) ∧
    (∀ (v : BitVec 7) (held : Bool) (p : Fin 256), v.toNat ≤ 64 → (s.tgt (32 * g.val + h.tgt.val)).path = false →
      ∃ t, exec (.n2StateLevel g h v 0 held p) s = .next t ∧ (t.tgt (32 * g.val + h.tgt.val)).runRpt = v.toNat ∧
      (t.tgt (32 * g.val + h.tgt.val)).port.idle = 0 ∧
      (t.tgt (32 * g.val + h.tgt.val)).port.confirmed = (held && p.val == (s.tgt (32 * g.val + h.tgt.val)).pseq) ∧
      (t.link g.val).rxNext = wrap 8 ((s.link g.val).rxNext + 1) ∧
      (t.link g.val).credOwed = (s.link g.val).credOwed + 1 ∧ t = { s with tgts := t.tgts, links := t.links }) ∧
    (∀ e : Nat, (s.tgt (32 * g.val + h.tgt.val)).pres = some e → (s.source e).place = .withdrawing →
      (s.source e).wcause = .preemption → (s.source e).drain = false → s.isStale e = false →
      (s.tgt (32 * g.val + h.tgt.val)).path = false → (s.tgt (32 * g.val + h.tgt.val)).pseq = h.pseq.val →
      (s.tgt (32 * g.val + h.tgt.val)).spliceDue = false → s.bankQuiet e → (∀ x ∈ s.tgts, x.2.port.takenCut = false) →
      ∃ t, exec (.n2StateWack g h) s = .next t ∧ (t.source e).place = .queued ∧
        (t.tgt (32 * g.val + h.tgt.val)).pres = none ∧ t.ldg = s.ldg ∧
        (t.link g.val).rxNext = wrap 8 ((s.link g.val).rxNext + 1) ∧
        (t.link g.val).credOwed = (s.link g.val).credOwed + 1) ∧
    (∀ (e : Nat) (eid : BitVec 20), (s.tgt (32 * g.val + h.tgt.val)).pres = some e →
      (s.tgt (32 * g.val + h.tgt.val)).path = false → (s.tgt (32 * g.val + h.tgt.val)).pseq = h.pseq.val →
      (s.tgt (32 * g.val + h.tgt.val)).held = true →
      (s.tgt (32 * g.val + h.tgt.val)).port.takenCut = false → (s.source e).place = .presented →
      (s.source e).st = .pending → s.isStale e = false → s.bankFull e = false → s.bankQuiet e →
      ∃ t, exec (.n2Take g h eid) s = .next t ∧ (t.source e).st = .active ∧
        (t.source e).taker = 32 * g.val + h.tgt.val ∧ t.ldg.block = s.ldg.block.move .deliver ∧
        (t.link g.val).rxNext = wrap 8 ((s.link g.val).rxNext + 1) ∧
        (t.tgt (32 * g.val + h.tgt.val)).pres = none ∧ (t.link g.val).credOwed = (s.link g.val).credOwed + 1) ∧
    (∀ eid : BitVec 20, (s.tgt (32 * g.val + h.tgt.val)).pseq ≠ h.pseq.val → eid.toNat < 0x41000 →
      s.bankFull eid.toNat = false → (s.source eid.toNat).st = .pending → (s.source eid.toNat).place = .queued →
      (s.source eid.toNat).serving = 32 * g.val + h.tgt.val →
      (s.source eid.toNat).shownAt = some (32 * g.val + h.tgt.val, h.pseq.val) → s.isStale eid.toNat = false →
      ∃ t, exec (.n2Take g h eid) s = .next t ∧ (t.source eid.toNat).st = .active ∧
        (t.source eid.toNat).taker = 32 * g.val + h.tgt.val ∧ t.ldg.block = s.ldg.block.move .deliver ∧
        (t.link g.val).credOwed = (s.link g.val).credOwed + 1))

/-! ### Far delivery -/

/-- R213, R214, R218: FAR_OFFER of an ONLINE far set with no event presented, the far domain open, D4 and D2 at work, the rung below 2 and a
mode that presents: its offerable winner, with a pool cell where a stall timer runs, forms its write with the settings of the set, on the
channel of the set or, moved, on the next; it is presented with the next PSEQ, and the timer starts. R60, R137: FAR_CREDIT at an open
channel is counted; beyond 32 it is a fault and no credit. R215, R216: FAR_WRITE_TRANSFER of the next ready write, with a credit, an open
bank and the channel's clock, is the take of its event: Active with INSERV of its level set, or with AUTO its done as well, and one credit
used. R218, R219: STALL_TIMER_EXPIRY of a due timer whose write is ready moves TRIES, and the event is withdrawn for preemption to the
next channel of ALT_MASK, or, with no other channel and tries left, the timer starts again; a timer without its write is freed. Closed
channels, an empty set, no credit, or a timer that is not due leave all as it was. That nothing changes where the command's event cannot
occur is the model's choice (assumption log 6). It rests on assumption log 22, 35, 58, 82 and 85 too, the model's choices. -/
def Obligations.FarDeliveryAndStallTimer : Prop :=
  (∀ (j : Fin 512) (p e : Nat) (s : State), s.isIdle 4 = false → s.isHeld 2 = false → s.isIdle 8 = false → s.farOpen = true →
    s.pwr.rung < 2 → (s.tgt (1024 + j.val)).svc = .online → (s.tgt (1024 + j.val)).repair = false →
    (s.tgt (1024 + j.val)).wdrBusy = false → (s.tgt (1024 + j.val)).pres = none → s.presents = true →
    s.offerable (1024 + j.val) = some (p, e) → (s.tgt (1024 + j.val)).agrees = true → s.isStale e = false →
    (s.tgt (1024 + j.val)).far.timed = false ∨ (s.freePool).isSome = true →
    ∃ t, exec (.farOffer j) s = .next t ∧ (t.tgt (1024 + j.val)).pres = some e ∧ (t.source e).place = .presented ∧
      (t.tgt (1024 + j.val)).pseq = wrap 8 ((s.tgt (1024 + j.val)).pseq + 1) ∧
      (t.tgt (1024 + j.val)).far.ready =
        some ((s.tgt (1024 + j.val)).far.form_ (s.source e) e s.strap.blockNum s.now) ∧
      (t.tgt (1024 + j.val)).far.atChan =
        (((s.tgt (1024 + j.val)).far.moveTo.filter fun m => m.1 == e).map (·.2)).getD (s.tgt (1024 + j.val)).far.chan ∧
      ((s.tgt (1024 + j.val)).far.timed = true →
        (t.tgt (1024 + j.val)).far.retryDue = some (s.tick + (s.tgt (1024 + j.val)).far.stallLimit) ∧
        some (t.tgt (1024 + j.val)).far.retryCell = s.freePool) ∧
      t.ldg = s.ldg ∧ (∀ x, x ≠ e → t.source x = s.source x)) ∧
  (∀ (j : Fin 512) (s : State), s.farOpen = false ∨ (s.tgt (1024 + j.val)).svc ≠ .online ∨
    s.offerable (1024 + j.val) = none → exec (.farOffer j) s = .next s) ∧
  (∀ (f : Fin 4) (s : State), s.farOpen = true → (s.farChan f.val).credits < 32 →
    ∃ t, exec (.farCredit f) s = .next t ∧ (t.farChan f.val).credits = (s.farChan f.val).credits + 1 ∧
      (t.farChan f.val).granted = (s.farChan f.val).granted + 1 ∧ (∀ x, x ≠ f.val → t.farChan x = s.farChan x) ∧
      t = { s with farch := t.farch }) ∧
  (∀ (f : Fin 4) (s : State), s.farOpen = true → 32 ≤ (s.farChan f.val).credits →
    ∃ t, exec (.farCredit f) s = .next t ∧ t.farch = s.farch ∧ s.sameButFault t) ∧
  (∀ (f : Fin 4) (s : State), s.farOpen = false → exec (.farCredit f) s = .next s) ∧
  (∀ (f : Fin 4) (t : Nat) (w : FarWrite) (c : FarChan) (s : State), s.farOpen = true → s.fabOn = true → s.isHeld 2 = false →
    (s.farChan f.val).credits ≠ 0 → s.nextWrite f.val = some (t, w, c) → s.bankFull w.eid = false → 1024 ≤ t →
    (s.source w.eid).place = .presented → (s.source w.eid).st = .pending → s.isStale w.eid = false →
    ∃ u, exec (.farWriteTransfer f) s = .next u ∧
      (u.tgt t).pres = none ∧ (u.tgt t).far.ready = none ∧ (u.tgt t).far.tries = 0 ∧
      (w.auto = false → (u.source w.eid).st = .active ∧ (u.source w.eid).taker = t ∧
        (u.tgt t).far.inserv.testBit (s.source w.eid).prio = true) ∧
      (w.auto = true → (s.source w.eid).level = false → (s.source w.eid).drain = false → (u.source w.eid).st = .inactive) ∧
      (u.farChan f.val).credits = c.credits - 1 ∧ (u.farChan f.val).sentCount = c.sentCount + 1 ∧
      (w.auto = false ∨ (s.source w.eid).level = false ∧ (s.source w.eid).drain = false →
        u.ldg.block = s.ldg.block.move .deliver) ∧ (∀ x, x < 0xE00 ∨ 0x1000 ≤ x → x ≠ w.eid → u.source x = s.source x)) ∧
  (∀ (f : Fin 4) (s : State), s.farOpen = false ∨ (s.farChan f.val).credits = 0 ∨ s.nextWrite f.val = none →
    exec (.farWriteTransfer f) s = .next s) ∧
  (∀ (c : Fin 16) (l : List (Fin 512)) (j : Fin 512) (e due : Nat) (w : FarWrite) (s : State), s.isHeld 8 = false → s.engineOn = true → s.pwr.rung = 0 → s.tb.good = true →
    (s.tgt (1024 + j.val)).far.retryDue = some due → (s.tgt (1024 + j.val)).pres = some e → due ≤ s.tick →
    (s.tgt (1024 + j.val)).far.retryPseq = (s.tgt (1024 + j.val)).pseq → (s.tgt (1024 + j.val)).far.ready = some w → s.picks c l (s.source e).inst →
    (s.tgt (1024 + j.val)).far.retryGen = (s.ctx (s.source e).inst).parity →
    sat 15 ((s.tgt (1024 + j.val)).far.tries + 1) ≠ w.retryMax →
    (s.source e).place = .presented → (s.source e).serving = 1024 + j.val → s.isStale e = false →
    ∃ t, exec (.stallTimerExpiry ⟨c, l, j⟩) s = .next t ∧
      (t.tgt (1024 + j.val)).far.tries = sat 15 ((s.tgt (1024 + j.val)).far.tries + 1) ∧ t.ldg = s.ldg ∧
      (∀ k, nextChan w.altMask (s.tgt (1024 + j.val)).far.atChan = some k →
        (t.source e).place = .withdrawing ∧ (t.source e).wcause = .preemption ∧
        (t.tgt (1024 + j.val)).far.moveTo = some (e, k) ∧ (t.tgt (1024 + j.val)).wdrBusy = true) ∧
      (nextChan w.altMask (s.tgt (1024 + j.val)).far.atChan = none →
        sat 15 ((s.tgt (1024 + j.val)).far.tries + 1) < w.retryMax →
        (t.tgt (1024 + j.val)).far.retryDue = some (due + w.stallLimit) ∧ t.src = s.src)) ∧
  (∀ (c : Fin 16) (l : List (Fin 512)) (j : Fin 512) (due : Nat) (s : State), s.isHeld 8 = false → s.engineOn = true → s.pwr.rung = 0 → s.tb.good = true →
    (s.tgt (1024 + j.val)).far.retryDue = some due → due ≤ s.tick →
    (s.tgt (1024 + j.val)).pres = none ∨ (s.tgt (1024 + j.val)).far.ready = none →
    ∃ t, exec (.stallTimerExpiry ⟨c, l, j⟩) s = .next t ∧ (t.tgt (1024 + j.val)).far.retryDue = none ∧ t = { s with tgts := t.tgts }) ∧
  (∀ (c : Fin 16) (l : List (Fin 512)) (j : Fin 512) (s : State), (∀ due, (s.tgt (1024 + j.val)).far.retryDue = some due → s.tick < due) →
    exec (.stallTimerExpiry ⟨c, l, j⟩) s = .next s)

/-! ### Completions of sweeps, audits and scans -/

/-- R165, R166: TAKER_SWEEP_COMPLETE, once the sweep has passed every record and no withdrawal runs at the target, ends the sweep: a DRAINING
target becomes OFFLINE, one whose online was deferred becomes ONLINE, and no deferred TGT_STATE of it waits any more. R273:
STALE_SWEEP_COMPLETE, once no withdrawal of the retired generation is left, ends the sweep and clears OLD_GEN, with no source changed
where no command waits. R282: FREEZE_COMPLETE, once no source of the instance is placed and no pool work is left, gives PHASE FROZEN.
R270, R271: INSTANCE_DRAIN_COMPLETE, once every source of it is Inactive and unplaced, of an instance not enabled again clears DRAIN and
keeps the generation; enabled again, with OLD_GEN 0, it also moves the generation on. R257: DESTROY_SWEEP_COMPLETE leaves the instance
FREE, with no page of its run VALID. R285, R335: PREPARE_SWEEP_COMPLETE of a save moves HSEQ on and opens the window outward. Before its
sweep has passed every record each of them changes nothing. That nothing changes where the command's event cannot occur is the model's
choice (assumption log 6). -/
def Obligations.SweepsCompleteAndSavesOpen : Prop :=
  (∀ (t : Fin 1536) (s : State), s.sweepDone (.taker t) = true → (s.tgt t.val).wdrBusy = false →
    ∃ u, exec (.takerSweepComplete t) s = .next u ∧ (u.tgt t.val).sweep = false ∧ u.sweeping (.taker t) = false ∧
      (∀ d ∈ u.cmd.deferred, d.work ≠ .targetOnline t.val ∧ d.work ≠ .targetOffline t.val) ∧
      ((s.tgt t.val).onlineDefer = true → (u.tgt t.val).svc = .online ∧ (u.tgt t.val).fcause = 0 ∧
        (u.tgt t.val).onlineDefer = false) ∧
      ((s.tgt t.val).onlineDefer = false →
        (u.tgt t.val).svc = (if (s.tgt t.val).svc = .draining then .offline else (s.tgt t.val).svc) ∧
        ({ s with tgts := u.tgts }).sameButReply u)) ∧
  (∀ (i : Fin 512) (s : State), s.sweepDone (.stale i) = true →
    (∀ p ∈ s.src, p.2.inst = i.val → p.2.place ≠ .withdrawing) → (s.ctx i.val).drain = false →
    ∃ u, exec (.staleSweepComplete i) s = .next u ∧ (u.ctx i.val).oldGen = false ∧ u.sweeping (.stale i) = false ∧
      (∀ d ∈ u.cmd.deferred, d.work ≠ .instReset i.val) ∧
      (s.cmd.deferred = [] → u.src = s.src ∧ u.ldg = s.ldg)) ∧
  (∀ (i : Fin 512) (s : State), s.sweepDone (.freeze i) = true → s.poolWork i.val = false →
    (∀ p ∈ s.src, p.2.inst = i.val → p.2.placed = false) →
    ∃ u, exec (.freezeComplete i) s = .next u ∧ (u.ctx i.val).phase = .frozen ∧ u.sweeping (.freeze i) = false ∧
      (u.ctx i.val).frozen = (s.ctx i.val).frozen ∧ (∀ d ∈ u.cmd.deferred, d.work ≠ .freeze i.val) ∧
      ({ s with insts := u.insts }).sameButReply u) ∧
  (∀ (i : Fin 512) (s : State), s.sweepDone (.drain i) = true → s.busySources i.val = false → s.poolWork i.val = false →
    ((s.ctx i.val).en = false →
      ∃ u, exec (.instanceDrainComplete i) s = .next u ∧ (u.ctx i.val).drain = false ∧ (u.ctx i.val).en = false ∧
        (u.ctx i.val).gen = (s.ctx i.val).gen ∧ u.sweeping (.drain i) = false ∧
        (∀ d ∈ u.cmd.deferred, d.work ≠ .instEnable i.val ∧ d.work ≠ .instDisable i.val) ∧
        ({ s with insts := u.insts }).sameButReply u) ∧
    ((s.ctx i.val).en = true → (s.ctx i.val).oldGen = false →
      ∃ u, exec (.instanceDrainComplete i) s = .next u ∧ (u.ctx i.val).drain = false ∧ (u.ctx i.val).en = true ∧
        (u.ctx i.val).gen = wrap 8 ((s.ctx i.val).gen + 1) ∧ (u.ctx i.val).oldGen = false)) ∧
  (∀ (i : Fin 512) (s : State), s.sweepDone (.destroy i) = true →
    ∃ u, exec (.destroySweepComplete i) s = .next u ∧ (u.ctx i.val).created = false ∧ (u.ctx i.val).en = false ∧
      (u.ctx i.val).phase = .thawed ∧ u.sweeping (.destroy i) = false ∧
      (∀ n, (s.ctx i.val).pageBase ≤ n → n < (s.ctx i.val).pageBase + (s.ctx i.val).pageCount → (u.page n).valid = false) ∧
      (∀ d ∈ u.cmd.deferred, d.work ≠ .instDestroy i.val) ∧
      (s.cmd.deferred = [] → u.src = s.src ∧ u.ldg = s.ldg) ∧ (s.cmd.reverts = [] → u.trans = s.trans)) ∧
  (∀ (i : Fin 512) (w : Sweep) (h : HuskOut) (s : State), s.sweeps.find? (fun w => w.name == .prepare i) = some w →
    s.cmd.cdw.xfer = some (.huskOut h) → w.complete = true → h.inst = i.val →
    ∃ u, exec (.prepareSweepComplete i) s = .next u ∧ (u.ctx i.val).hseq = seqUp (s.ctx i.val).hseq ∧
      u.cmd.cdw.open_ = true ∧ u.cmd.cdw.outward = true ∧ u.cmd.cdw.pos = 0 ∧ u.cmd.cdw.q = s.cmd.cdw.q ∧
      u.tgts = s.tgts ∧ u.trans = s.trans ∧ u.pages = s.pages ∧ u.groups = s.groups) ∧
  (∀ (t : Fin 1536) (i : Fin 512) (s : State),
    (s.sweepDone (.taker t) = false → exec (.takerSweepComplete t) s = .next s) ∧
    (s.sweepDone (.stale i) = false → exec (.staleSweepComplete i) s = .next s) ∧
    (s.sweepDone (.freeze i) = false → exec (.freezeComplete i) s = .next s) ∧
    (s.sweepDone (.drain i) = false → exec (.instanceDrainComplete i) s = .next s) ∧
    (s.sweepDone (.destroy i) = false → exec (.destroySweepComplete i) s = .next s) ∧
    ((∀ w ∈ s.sweeps, w.name = .prepare i → w.complete = false) → exec (.prepareSweepComplete i) s = .next s))

/-- R136: AUDIT_START, where no audit, scan or list repair runs, the mode runs sweeps, D2 and D5 are released and the rung is below 2, starts
the sweep of an audit that is due or was asked for; it takes with it what asked for it, and a periodic one that starts in rung 0 counts
its next period from here. Otherwise it changes nothing. R134, R138, R143, R144: AUDIT_COMPLETE of a sweep that has passed every record
counts in COUNT and ends the sweep. With every ledger and checked credit account in order it leaves the mismatch flags, FIRST and SEQ and
the faults, and where nobody waits for it no source but house source 16 changes. A ledger check that fails sets MISMATCH, a credit check
CREDIT_MISMATCH; either moves SEQ and leaves the failures in FIRST. A sweep that is not complete changes nothing. That nothing changes
where the command's event cannot occur is the model's choice (assumption log 6). It rests on assumption log 37 and 73 too, the model's
choices. -/
def Obligations.Audits : Prop :=
  (∀ s : State, s.auditMay = true → s.ldg.auditDue = true ∨ s.ldg.wanted ≠ [] ∨ (s.periodDue = true ∧ s.pwr.rung = 0) →
    ∃ t, exec .auditStart s = .next t ∧ t.sweeping .audit = true ∧ t.ldg.auditDue = false ∧ t.ldg.wanted = [] ∧
      t.ldg.riding = s.ldg.riding ++ s.ldg.wanted ∧
      t.ldg.periodStart = (if s.periodDue = true ∧ s.pwr.rung = 0 then s.tick else s.ldg.periodStart) ∧
      t.ldg.block = s.ldg.block ∧ t.ldg.inst = s.ldg.inst ∧ t = { s with sweeps := t.sweeps, ldg := t.ldg }) ∧
  (∀ s : State, s.auditMay = false ∨
      (s.ldg.auditDue = false ∧ s.ldg.wanted = [] ∧ (s.periodDue = false ∨ s.pwr.rung ≠ 0)) →
    exec .auditStart s = .next s) ∧
  (∀ (w : Sweep) (s : State), s.sweeps.find? (fun w => w.name == .audit) = some w → w.complete = true →
    s.ledgerFails w = [] → (s.cfg.auditCredit = true → s.creditFails = []) → s.ldg.badWords = [] →
    ∃ t, exec .auditComplete s = .next t ∧ t.ldg.count = wrap 32 (s.ldg.count + 1) ∧ t.sweeping .audit = false ∧
      t.ldg.mismatch = s.ldg.mismatch ∧ t.ldg.creditMismatch = s.ldg.creditMismatch ∧ t.ldg.first = s.ldg.first ∧
      t.ldg.statSeq = s.ldg.statSeq ∧ t.ldg.riding = [] ∧ t.flt = s.flt ∧ t.tgts = s.tgts ∧
      (s.ldg.riding = [] → ∀ e, e ≠ houseEid 16 → t.source e = s.source e)) ∧
  (∀ (w : Sweep) (s : State), s.sweeps.find? (fun w => w.name == .audit) = some w → w.complete = true →
    s.ledgerFails w ≠ [] →
    ∃ t, exec .auditComplete s = .next t ∧ t.ldg.count = wrap 32 (s.ldg.count + 1) ∧ t.ldg.mismatch = true ∧
      t.ldg.statSeq = seqUp s.ldg.statSeq ∧
      t.ldg.first = auditWord (s.ledgerFails w ++ (if s.cfg.auditCredit then s.creditFails else [])) ∧ t.tgts = s.tgts) ∧
  (∀ (w : Sweep) (s : State), s.sweeps.find? (fun w => w.name == .audit) = some w → w.complete = true →
    s.cfg.auditCredit = true → s.creditFails ≠ [] →
    ∃ t, exec .auditComplete s = .next t ∧ t.ldg.count = wrap 32 (s.ldg.count + 1) ∧ t.ldg.creditMismatch = true ∧
      t.ldg.statSeq = seqUp s.ldg.statSeq) ∧
  (∀ s : State, (∀ w ∈ s.sweeps, w.name = .audit → w.complete = false) → exec .auditComplete s = .next s)

/-! ### The block's own watch -/

/-- R128, R129, R130: SCRUB_TICK of a bank whose next word is due, with D2 released and the rung below 2, moves on to the next of its 32,768
words; without an error nothing else changes but an unrestored cell; a corrected error is a fault that changes no register of the block;
an uncorrectable one is a fault with the effect of its region (R130): a translation or page entry loses VALID, a source record goes back
to its reset values but for INSTANCE, a target is faulted, a group is disabled, an instance is frozen, and every other word stays; a read
of a word by another access finds the same errors and leaves the scrub where it is. R175, R177, R471: WITNESS_WINDOW_END, 500 ticks of a
good timebase after the last, with D4 released and the rung below 2, ends the window with its count in the registers and starts the next;
where it counted revolutions, LAT_BOUND is published from the worst of the last four windows, at most 100. R361, R363, R365:
WALKER_PASS_END, with D2 and D3 released and the rung below 2, leaves the CRC of the pass in CFG_CRC and counts it; after a COMMIT it
becomes CFG_REF, the configuration is valid, and START gives way to SERVICE; sealed and equal to CFG_REF it sets MATCH; sealed and
different where it matched, it clears MATCH and leads to RECOVERY. R25, R414: In REBUILD after the scan, with nothing held, the pass ends
REBUILD: SERVICE where sealed and equal, START where not sealed. R364: UNSEAL_WINDOW_EXPIRY of a window that is over clears TIMED, sets
EXPIRED and leads to RECOVERY in rung 0. Held, not due, or in rung 2 or 3, each of them changes nothing. That nothing changes where the
command's event cannot occur is the model's choice (assumption log 6). It rests on assumption log 39, 67 and 76 too, the model's choices. -/
def Obligations.ScrubWitnessWalkerAndSeal : Prop :=
  (∀ (bank : Fin 64) (s : State), s.isHeld 2 = false → s.pwr.rung < 2 → s.scrubDue bank.val = true →
    (∃ t, exec (.scrubTick bank (.scrub .none)) s = .next t ∧
      tget (fun _ => 0) t.scrub bank.val = (tget (fun _ => 0) s.scrub bank.val + 1) % 32768 ∧ t.scrubDue bank.val = false ∧
      t = { s with scrub := t.scrub, scrubbed := t.scrubbed, lost := t.lost }) ∧
    (∃ t, exec (.scrubTick bank (.scrub .single)) s = .next t ∧
      tget (fun _ => 0) t.scrub bank.val = (tget (fun _ => 0) s.scrub bank.val + 1) % 32768 ∧
      ({ s with scrub := t.scrub, scrubbed := t.scrubbed }).sameButFault t) ∧
    (∃ t, exec (.scrubTick bank (.scrub .double)) s = .next t ∧
      tget (fun _ => 0) t.scrub bank.val = (tget (fun _ => 0) s.scrub bank.val + 1) % 32768)) ∧
  (∀ (bank : Fin 64) (n : Nat) (s : State), s.isHeld 2 = false → s.pwr.rung < 2 → s.scrubDue bank.val = true → s.holdsNoMode →
    (s.scrubWord bank.val = .trans n →
      ∃ t, exec (.scrubTick bank (.scrub .double)) s = .next t ∧ t.transEntry n = { s.transEntry n with valid := false } ∧
        (∀ x, x ≠ n → t.transEntry x = s.transEntry x) ∧
        ({ s with scrub := t.scrub, scrubbed := t.scrubbed, trans := t.trans }).sameButFault t) ∧
    (s.scrubWord bank.val = .page n 0 →
      ∃ t, exec (.scrubTick bank (.scrub .double)) s = .next t ∧ t.page n = { s.page n with valid := false } ∧
        (∀ x, x ≠ n → t.page x = s.page x) ∧
        ({ s with scrub := t.scrub, scrubbed := t.scrubbed, pages := t.pages }).sameButFault t) ∧
    (s.scrubWord bank.val = .spare →
      ∃ t, exec (.scrubTick bank (.scrub .double)) s = .next t ∧
        ({ s with scrub := t.scrub, scrubbed := t.scrubbed }).sameButFault t) ∧
    (s.scrubWord bank.val = .record n 0 → n < 0xE00 ∨ 0x1000 ≤ n → (s.source n).st = .inactive → (s.source n).place = .unplaced →
      (s.source n).drain = false → s.bankQuiet n → s.cellLost n = false →
      ∃ t, exec (.scrubTick bank (.scrub .double)) s = .next t ∧ t.source n = { inst := (s.source n).inst } ∧
        (∀ x, x ≠ n → x < 0xE00 ∨ 0x1000 ≤ x → t.source x = s.source x) ∧
        ({ s with scrub := t.scrub, scrubbed := t.scrubbed, tgts := t.tgts, insts := t.insts }).sameButFault t) ∧
    (s.scrubWord bank.val = .target n 0 → (s.tgt n).svc = .online →
      ∃ t, exec (.scrubTick bank (.scrub .double)) s = .next t ∧ (t.tgt n).svc = .faulted ∧ (t.tgt n).fcause = 2) ∧
    (s.scrubWord bank.val = .group n 0 → s.listHeld n = false →
      ∃ t, exec (.scrubTick bank (.scrub .double)) s = .next t ∧ (t.grp n).en = false ∧ (t.grp n).inst = 0 ∧ (t.grp n).thresh = 1 ∧ (t.grp n).timer = 1 ∧
        (t.grp n).open_ = false ∧ (t.grp n).count = 0 ∧
        (∀ x, x ≠ n → t.grp x = s.grp x) ∧ t.mode.mode = s.mode.mode) ∧
    (s.scrubWord bank.val = .inst n 0 → s.mode.mode = .start ∨ s.mode.mode = .service →
      ∃ t, exec (.scrubTick bank (.scrub .double)) s = .next t ∧ (t.ctx n).frozen = true ∧ (t.ctx n).corrupt = true ∧
        (∀ x, x ≠ n → t.ctx x = s.ctx x) ∧ t.mode.mode = .recovery)) ∧
  (∀ (bank : Fin 64) (x : EccError) (s : State),
    s.isHeld 2 = true ∨ 2 ≤ s.pwr.rung ∨ s.scrubDue bank.val = false → exec (.scrubTick bank (.scrub x)) s = .next s) ∧
  (∀ (bank : Fin 64) (w : Fin 32768) (s : State), s.isHeld 2 = false → s.pwr.rung < 2 →
    exec (.scrubTick bank (.access w .none)) s = .next s ∧
    (∃ t, exec (.scrubTick bank (.access w .single)) s = .next t ∧ s.sameButFault t)) ∧
  (∀ (bank : Fin 64) (w : Fin 32768) (n : Nat) (s : State), s.isHeld 2 = false → s.pwr.rung < 2 → s.holdsNoMode →
    inkAt (bankAddr bank.val w.val) = .trans n →
    ∃ t, exec (.scrubTick bank (.access w .double)) s = .next t ∧ t.transEntry n = { s.transEntry n with valid := false } ∧
      (∀ x, x ≠ n → t.transEntry x = s.transEntry x) ∧ ({ s with trans := t.trans }).sameButFault t) ∧
  (∀ (bank : Fin 64) (w : Fin 32768) (x : EccError) (s : State), s.isHeld 2 = true ∨ 2 ≤ s.pwr.rung →
    exec (.scrubTick bank (.access w x)) s = .next s) ∧
  (∀ (revs : Fin 65536) (tc : Int) (s : State), -128 ≤ tc → tc ≤ 127 → s.isHeld 4 = false → s.pwr.rung < 2 →
    s.tb.good = true → s.rank.windowStart + 500 ≤ s.tick →
    let win := (ceilDiv 1000000 revs.val :: s.rank.window).take 4
    ∃ t, exec (.witnessWindowEnd revs tc) s = .next t ∧ t.rank.published = true ∧ t.rank.revs = revs.val ∧
      (revs.val ≠ 0 → t.rank.window = win ∧ t.rank.boundNs = min 100 (ceilDiv (80 * win.foldl max 0 + 12000) 1000) ∧
        t.rank.exceeded = decide (100 < ceilDiv (80 * win.foldl max 0 + 12000) 1000)) ∧
      t.rank.windowStart = s.rank.windowStart + 500 ∧ t.rcd.tempC = tc ∧ t.rcd.tempBin = tempBin tc ∧ t.tgts = s.tgts) ∧
  (∀ (revs : Fin 65536) (tc : Int) (s : State), -128 ≤ tc → tc ≤ 127 →
    s.isHeld 4 = true ∨ 2 ≤ s.pwr.rung ∨ s.tb.good = false ∨ s.tick < s.rank.windowStart + 500 →
    exec (.witnessWindowEnd revs tc) s = .next s) ∧
  (∀ s : State, s.walks = true → s.cfg.latchPend = false → s.cfg.sealed_ = false ∨ s.passCrc = s.cfg.ref →
    s.mode.mode ≠ .rebuild ∨ s.sweeping .rebuild = true →
    ∃ t, exec .walkerPassEnd s = .next t ∧ t.cfg.crc = s.passCrc ∧ t.cfg.passes = wrap 16 (s.cfg.passes + 1) ∧
      t.cfg.walked = true ∧ t.cfg.walkPos = 0 ∧ t.cfg.ref = s.cfg.ref ∧ t.mode = s.mode ∧
      t.cfg.matched = (s.cfg.matched || s.cfg.sealed_)) ∧
  (∀ s : State, s.walks = true → s.cfg.latchPend = false → s.cfg.sealed_ = false ∨ s.passCrc = s.cfg.ref →
    s.mode.mode = .rebuild → s.sweeping .rebuild = false → s.mode.heldUncont = false → s.mode.heldEsc = false →
    s.mode.heldCwr = false → s.pins.esc ≠ 2 → s.pwr.apply < 4 →
    ∃ t, exec .walkerPassEnd s = .next t ∧ t.cfg.crc = s.passCrc ∧
      t.mode.mode = (if s.cfg.sealed_ = true then .service else .start)) ∧
  (∀ s : State, s.walks = true → s.cfg.latchPend = false → s.cfg.sealed_ = true → s.passCrc ≠ s.cfg.ref →
    ∃ t, exec .walkerPassEnd s = .next t ∧ t.cfg.crc = s.passCrc ∧ t.cfg.ref = s.cfg.ref ∧ t.cfg.matched = false ∧
      t.cfg.walked = true ∧ (s.cfg.matched = true → s.mode.heldUncont = false →
        s.mode.mode ∈ [Mode.start, Mode.service, Mode.test, Mode.quiesce] → t.mode.mode = .recovery)) ∧
  (∀ s : State, s.walks = true → s.cfg.latchPend = true → s.mode.mode = .start →
    s.mode.heldUncont = false → s.mode.heldEsc = false → s.mode.heldCwr = false → s.pins.esc ≠ 2 → s.pwr.apply < 4 →
    ∃ t, exec .walkerPassEnd s = .next t ∧ t.cfg.crc = s.passCrc ∧ t.cfg.ref = s.passCrc ∧ t.cfg.refValid = true ∧
      t.cfg.matched = true ∧ t.cfg.latchPend = false ∧ t.mode.mode = .service) ∧
  (∀ s : State, s.walks = false → exec .walkerPassEnd s = .next s) ∧
  (∀ s : State, s.unsealOver = true → s.pwr.rung = 0 →
    ∃ t, exec .unsealWindowExpiry s = .next t ∧ t.cfg.timed = false ∧ t.cfg.expired = true ∧
      (s.mode.heldUncont = false → s.mode.mode ∈ [Mode.start, Mode.service, Mode.test, Mode.quiesce] →
        t.mode.mode = .recovery)) ∧
  (∀ s : State, s.unsealOver = false ∨ s.pwr.rung ≠ 0 → exec .unsealWindowExpiry s = .next s)

/-! ### Faults -/

/-- R18, R449, R450: with the core powered, DATAPATH_CODE_ERROR and DUALRAIL_INCOMPLETE_TIMEOUT count in the run of their stage, up to three,
and the third leads to FAILSAFE, and BANK_PARITY_FAULT, with D2 released, is a fault of severity 3, which leads to FAILSAFE from START,
SERVICE, TEST, QUIESCE, RECOVERY, REBUILD and WAKE; with the core unpowered they change nothing. R61, R62: FAULT_RECORD_TRANSFER at an
open fault port hands over the oldest record; where records were dropped, one record with their count takes its place; at an empty or
closed port it changes nothing. R451: LOCKSTEP_MISMATCH of a pair that runs a complete command whose reply is not withheld ends the
command and restarts the pair; soon after its last restart it disables the pair; where the pair runs nothing it changes nothing.
LOCKSTEP_RESTART_COMPLETE that passes gives the pair back; one that fails, or a failed self-test after the release of D3, disables it; a
pass of a pair that does not restart changes nothing. R396: EPOCH_DRAINED with D3 released completes a GATE_RULES that waited and whose
earlier accesses have all drained; with D3 held, or an earlier access left, it changes no gate. That nothing changes where the command's
event cannot occur is the model's choice (assumption log 6). It rests on assumption log 39 too, the model's choice. -/
def Obligations.DatapathFaultsPortAndLockstep : Prop :=
  (∀ (part : Fin 8) (unit : BitVec 12) (s : State), s.corePowered = true →
    (∃ t, exec (.datapathCodeError part unit) s = .next t ∧ exec (.dualrailIncompleteTimeout part unit) s = .next t ∧
      tget (fun _ => 0) t.flt.runs (stageKey (part.val + 1) unit.toNat) =
        min 3 (tget (fun _ => 0) s.flt.runs (stageKey (part.val + 1) unit.toNat) + 1) ∧
      (s.holdsNoMode → tget (fun _ => 0) s.flt.runs (stageKey (part.val + 1) unit.toNat) < 2 →
        part.val ≠ 5 ∨ s.promotes 1 = false → s.sameButFault t) ∧
      (2 ≤ tget (fun _ => 0) s.flt.runs (stageKey (part.val + 1) unit.toNat) →
        s.mode.mode ∈ [Mode.start, Mode.service, Mode.test, Mode.quiesce, Mode.recovery, Mode.rebuild, Mode.wake] →
        t.mode.mode = .failsafe))) ∧
  (∀ (bank : Fin 64) (s : State), s.corePowered = true → s.isHeld 2 = false →
    s.mode.mode ∈ [Mode.start, Mode.service, Mode.test, Mode.quiesce, Mode.recovery, Mode.rebuild, Mode.wake] →
    ∃ t, exec (.bankParityFault bank) s = .next t ∧ t.mode.mode = .failsafe ∧ t.mode.heldUncont = false) ∧
  (∀ (part : Fin 8) (unit : BitVec 12) (bank : Fin 64) (s : State), s.corePowered = false →
    exec (.datapathCodeError part unit) s = .next s ∧ exec (.dualrailIncompleteTimeout part unit) s = .next s ∧
    exec (.bankParityFault bank) s = .next s) ∧
  (∀ (r : FaultRec) (rest : List FaultRec) (s : State), s.fabOn = true → s.flt.queue = r :: rest → s.flt.dropsOwed = 0 →
    exec .faultRecordTransfer s = .next { s with flt := { s.flt with queue := rest, dropsOwed := 0 } }) ∧
  (∀ (r : FaultRec) (rest : List FaultRec) (s : State), s.fabOn = true → s.flt.queue = r :: rest → 0 < s.flt.dropsOwed →
    rest.length < 16 →
    ∃ t x, exec .faultRecordTransfer s = .next t ∧ t.flt.queue = rest ++ [x] ∧ x.cls = 0x17 ∧
      x.info = sat 65535 s.flt.dropsOwed ∧ t.flt.dropsOwed = 0) ∧
  (∀ s : State, s.fabOn = false ∨ s.flt.queue = [] → exec .faultRecordTransfer s = .next s) ∧
  (∀ (q : Fin 8) (pair : Fin 4) (p : Packet) (s : State), s.pairOf q.val = some pair.val → s.pairReady q.val = true →
    s.withheld q.val = false → (s.queue q.val).cur = some p → p.complete = true → (s.queue q.val).fifo = [] →
    (s.soonAgain pair.val = false →
      ∃ t, ∃ x : Nat × Nat, exec (.lockstepMismatch pair q) s = .next t ∧
        t.cmd.pairsRestarting = s.cmd.pairsRestarting ++ [x] ∧ x.1 = pair.val ∧ (t.queue q.val).cur = none ∧
        t.cmd.restarts = sat 15 (s.cmd.restarts + 1) ∧ t.cmd.pairsDisabled = s.cmd.pairsDisabled) ∧
    (s.soonAgain pair.val = true →
      ∃ t, exec (.lockstepMismatch pair q) s = .next t ∧ t.cmd.pairsDisabled = addOnce pair.val s.cmd.pairsDisabled ∧
        t.cmd.pairsRestarting = s.cmd.pairsRestarting ∧ (t.queue q.val).cur = none)) ∧
  (∀ (q : Fin 8) (pair : Fin 4) (s : State), (s.queue q.val).cur = none ∨ s.pairOf q.val ≠ some pair.val ∨
      s.pairReady q.val = false ∨ s.withheld q.val = true →
    exec (.lockstepMismatch pair q) s = .next s) ∧
  (∀ (pair : Fin 4) (x : Nat × Nat) (s : State), s.cmd.pairsRestarting = [x] → x.1 = pair.val →
    (∃ t, exec (.lockstepRestartComplete pair true) s = .next t ∧ t.cmd.pairsRestarting = [] ∧
      t.cmd.pairsDisabled = s.cmd.pairsDisabled ∧ tget (fun _ => 0) t.cmd.lastRestart pair.val = s.tick + 1) ∧
    (∃ t, exec (.lockstepRestartComplete pair false) s = .next t ∧ t.cmd.pairsRestarting = [] ∧
      t.cmd.pairsDisabled = addOnce pair.val s.cmd.pairsDisabled)) ∧
  (∀ (pair : Fin 4) (s : State), (∀ x ∈ s.cmd.pairsRestarting, x.1 ≠ pair.val) →
    exec (.lockstepRestartComplete pair true) s = .next s ∧
    (s.isHeld 3 = false → s.cmd.fwReady = false → pair.val ∉ s.cmd.pairsDisabled →
      ∃ t, exec (.lockstepRestartComplete pair false) s = .next t ∧
        t.cmd.pairsDisabled = addOnce pair.val s.cmd.pairsDisabled)) ∧
  (∀ (g : Nat × Nat × Nat × Nat) (s : State), s.isHeld 3 = false → s.cmd.gates = [g] →
    ((∀ x ∈ s.undrained, g.2.2.1 ≤ x) →
      ∃ t, exec .epochDrained s = .next t ∧ t.cmd.gates = [] ∧ t.acc = s.acc ∧ t.mode = s.mode) ∧
    ((∃ x ∈ s.undrained, x < g.2.2.1) → ∃ t, exec .epochDrained s = .next t ∧ t.cmd.gates = [g])) ∧
  (∀ s : State, s.isHeld 3 = true → exec .epochDrained s = .next s)

/-! ### Lifetime record -/

/-- R473, R475, R476: RECORD_WRITE_START with D1 and D2 at work, no write running and a cause that asks takes one snapshot of the working
copies into the copy that is not the chosen one; at step 4 of a park entry the sources pending and active that the entry ended go into
PWR_LOSS first. R33: without the supply the write is skipped, counted and reported. RECORD_WRITE_COMPLETE of a write that no reset cuts
leaves that copy valid and chosen, with what its registers report. R478: PATCH_PROGRAM_COMPLETE keeps the programmed patch in its copy,
and one that was loaded meanwhile is programmed next. With nothing to start or to end, each of them changes nothing. That nothing changes
where the command's event cannot occur is the model's choice (assumption log 6). -/
def Obligations.RecordWrites : Prop :=
  (∀ s : State, s.isIdle 1 = false → s.isHeld 2 = false → s.rcd.writing = none → s.writeAsked = true →
    s.parkWriteDue = false →
    ∃ t, exec (.recordWriteStart true) s = .next t ∧
      t.rcd.writing = some (s.rcd.nextB, { seq := s.rcd.nextSeq, writes := s.rcd.nextWrites, tick := s.tick,
                                           data := s.rcd.work }) ∧
      t.rcd.writeStart = s.tick ∧ t.rcd.causeWaits = false ∧ t.rcd.flushRun = s.rcd.flushRun ++ s.rcd.flushWait ∧ t.rcd.flushWait = [] ∧
      t = { s with rcd := t.rcd }) ∧
  (∀ (w : Sweep) (s : State), s.isIdle 1 = false → s.isHeld 2 = false → s.rcd.writing = none → s.parkWriteDue = true →
    s.sweeps.find? (fun w => w.name == .park) = some w →
    ∃ t, exec (.recordWriteStart true) s = .next t ∧ t.rcd.writing.isSome = true ∧ t.rcd.parkWrite = true ∧
      t.pwr = { s.pwr with lossPend := tget (fun _ => 0) w.tally 0, lossActive := tget (fun _ => 0) w.tally 1,
                           lossInst := (s.insts.filter fun p => p.1 != 0 && p.2.created).length } ∧
      t.sweeping .park = false ∧ t = { s with rcd := t.rcd, pwr := t.pwr, sweeps := t.sweeps }) ∧
  (∀ s : State, s.isIdle 1 = false → s.isHeld 2 = false → s.rcd.writing = none → s.writeAsked = true →
    s.parkWriteDue = false → s.rcd.flushWait = [] →
    ∃ t, exec (.recordWriteStart false) s = .next t ∧ t.rcd.writing = none ∧ t.rcd.skipped = true ∧
      t.rcd.statSeq = seqUp s.rcd.statSeq ∧ t.rcd.copyA = s.rcd.copyA ∧ t.rcd.copyB = s.rcd.copyB ∧ s.sameButFault t) ∧
  (∀ (b : Bool) (s : State), s.isIdle 1 = true ∨ s.isHeld 2 = true ∨ s.rcd.writing ≠ none ∨ s.writeAsked = false →
    exec (.recordWriteStart b) s = .next s) ∧
  (∀ (toB : Bool) (i : Image) (s : State), s.rcd.writing = some (toB, i) → s.rcd.cutPulse = false →
    ∃ t, exec .recordWriteComplete s = .next t ∧ t.rcd.writing = none ∧ t.rcd.chosenB = toB ∧ t.rcd.last = i.tick ∧
      (if toB then t.rcd.copyB = .valid i ∧ t.rcd.copyA = s.rcd.copyA else t.rcd.copyA = .valid i ∧ t.rcd.copyB = s.rcd.copyB) ∧
      t.rcd.regSeq = i.seq) ∧
  (∀ s : State, s.rcd.writing = none ∨ s.rcd.cutPulse = true → exec .recordWriteComplete s = .next s) ∧
  (∀ (toB : Bool) (p : Patch) (n : Nat) (s : State), s.rcd.patchBusy = some (toB, p, n) →
    ∃ t, exec .patchProgramComplete s = .next t ∧ (if toB then t.rcd.patchB else t.rcd.patchA) = some p ∧
      (if toB then t.rcd.patchA = s.rcd.patchA else t.rcd.patchB = s.rcd.patchB) ∧ t = { s with rcd := t.rcd } ∧
      (s.rcd.patchWait = [] → t.rcd.patchBusy = none) ∧
      (s.rcd.patchWait ≠ [] → t.rcd.patchWait = s.rcd.patchWait.drop 1 ∧ t.rcd.patchBusy.isSome = true)) ∧
  (∀ s : State, s.rcd.patchBusy = none → exec .patchProgramComplete s = .next s)

/-! ### Quiesce, rungs and parks -/

/-- R28, R427, R435: QUIESCE_DRAIN_COMPLETE of a quiesce whose work is drained notes it, and leads on to a park that is asked for, which level
1 of escalation holds back (R460): the channels close, the intake drain and the park sweep run. QUIESCE_TIMEOUT, QUIESCE_LIMIT after the
entry, is counted with a quiesce-timeout fault, and the mode stays. R435: PARK_ENTRY_COMPLETE of an entry that has written the record goes
to PARK, or to WAKE where a wake source came meanwhile, with every domain but D0 held, the inkwell at its reset values, the configuration
open and the firmware stopped. R440: PARK_WAKE of a source that wakes from the rung goes to WAKE with the ductus at D1 and the core supply
asked for; in rung 5, of one that does not, and outside PARK, it changes nothing. R442: K_POK_CORE_RISE, of a supply that was down and
holds no cold reset, starts the power-up check where one is due; POWER_UP_CHECK_COMPLETE ends the check: a bad bank in WAKE leads to
FAILSAFE, a bad stage counts in its run. Without a drain done, a record written or a check running, they change nothing. That nothing
changes where the command's event cannot occur is the model's choice (assumption log 6). It rests on assumption log 31 too, the model's
choice. -/
def Obligations.QuiesceAndPark : Prop :=
  (∀ s : State, s.mode.mode = .quiesce → s.pwr.parking = false → s.mode.quiesceTimedOut = false → s.drainDone = true →
    (s.pwr.apply < 4 ∨ s.pins.esc = 1 →
      exec .quiesceDrainComplete s = .next { s with mode := { s.mode with drained := true } }) ∧
    (4 ≤ s.pwr.apply → s.pins.esc ≠ 1 →
      ∃ t, exec .quiesceDrainComplete s = .next t ∧ t.pwr.parking = true ∧ t.pwr.parkRung = s.pwr.apply ∧
        t.sweeping .park = true ∧ t.rst.drainStart = some s.now ∧ (∀ c, c < 16 → (t.chan c).switchCredits = 0))) ∧
  (∀ s : State, s.mode.mode ≠ .quiesce ∨ s.pwr.parking = true ∨ s.mode.quiesceTimedOut = true ∨ s.drainDone = false →
    exec .quiesceDrainComplete s = .next s) ∧
  (∀ s : State, s.mode.mode = .quiesce → s.mode.drained = false → s.mode.quiesceTimedOut = false →
    s.elapsed s.mode.quiesceStart (500 * s.cfg.quiesceLimit) = true →
    ∃ t, exec .quiesceTimeout s = .next t ∧ t.mode.quiesceTimedOut = true ∧ t.mode.mode = .quiesce ∧
      t.rst = { s.rst with qtoMode := wrap 16 (s.rst.qtoMode + 1) } ∧
      ({ s with mode := { s.mode with quiesceTimedOut := true }, rst := t.rst, pwr := t.pwr }).sameButFault t) ∧
  (∀ s : State, s.mode.mode ≠ .quiesce ∨ s.mode.drained = true ∨ s.mode.quiesceTimedOut = true ∨
      s.elapsed s.mode.quiesceStart (500 * s.cfg.quiesceLimit) = false →
    exec .quiesceTimeout s = .next s) ∧
  (∀ s : State, s.mode.mode = .quiesce → s.pwr.parking = true → s.rcd.parkWrite = true → s.rcd.writing = none →
    ∃ t, exec .parkEntryComplete s = .next t ∧ t.rst.held = [1, 2, 3, 4, 5, 6, 7, 8] ∧ t.cfg.sealed_ = false ∧
      t.insts = [] ∧ t.src = [] ∧ t.groups = [] ∧ t.trans = [] ∧ t.pages = [] ∧ t.bus = {} ∧ t.cmd.fwReady = false ∧
      (s.pwr.wakeDue = none → t.mode.mode = .park ∧ t.pwr.coreEn = false ∧
        (s.pwr.apply = s.pwr.parkRung ∨ s.pwr.apply < 4 → t.pwr.rung = (if s.pwr.parkRung = 5 then 5 else 4))) ∧
      (s.pwr.wakeDue = some .wakeLine → t.mode.mode = .wake ∧ t.pwr.coreEn = true)) ∧
  (∀ s : State, s.pwr.parking = false ∨ s.rcd.parkWrite = false ∨ s.rcd.writing ≠ none →
    exec .parkEntryComplete s = .next s) ∧
  (∀ (k : WakeSrc) (s : State), s.mode.mode = .park → wakesFrom s.pwr.rung k = true →
    ∃ t, exec (.parkWake k) s = .next t ∧ t.mode.mode = .wake ∧ t.pwr.coreEn = true ∧ t.rst.running = true ∧
      t.rst.next = 1 ∧ t.rst.needCheck = true ∧ t.rst.needInit = true ∧
      t.pwr.wakeCount = sat 255 (s.pwr.wakeCount + 1) ∧ t.pwr.wakeSeq = seqUp s.pwr.wakeSeq) ∧
  (∀ (k : WakeSrc) (s : State), s.mode.mode ≠ .park ∨ wakesFrom s.pwr.rung k = false → exec (.parkWake k) s = .next s) ∧
  (∀ s : State, s.pwr.pokCore = false → ColdSrc.pokCore ∉ s.rst.cold →
    exec .kPokCoreRise s = .next { s with pwr := { s.pwr with pokCore := true },
                                          rst := { s.rst with checking := s.rst.needCheck && s.rst.running } }) ∧
  (∀ s : State, s.pwr.pokCore = true ∨ ColdSrc.pokCore ∈ s.rst.cold → exec .kPokCoreRise s = .next s) ∧
  (∀ s : State, s.rst.checking = true →
    exec (.powerUpCheckComplete .pass) s = .next { s with rst := { s.rst with checking := false, needCheck := false } } ∧
    (∀ b : Fin 64, s.mode.mode = .wake →
      ∃ t, exec (.powerUpCheckComplete (.badBank b)) s = .next t ∧ t.rst.checking = false ∧ t.mode.mode = .failsafe) ∧
    (∀ (p : Fin 8) (u : BitVec 12),
      ∃ t, exec (.powerUpCheckComplete (.badStage p u)) s = .next t ∧ t.rst.checking = false ∧
        tget (fun _ => 0) t.flt.runs (stageKey (p.val + 1) u.toNat) =
          min 3 (tget (fun _ => 0) s.flt.runs (stageKey (p.val + 1) u.toNat) + 1))) ∧
  (∀ (r : CheckResult) (s : State), s.rst.checking = false → exec (.powerUpCheckComplete r) s = .next s)

/-- R431, R432: RUNG_ENTER of an idle block in rung 0 enters the rung from 1 to 3 that is asked for and acknowledges it. R433: RUNG_WAKE of a
source that wakes from the rung ends the stay with an excursion. R434: RUNG_ALARM ends it as an alarm when a due tick, or the END of an
open window, is within the exit time. R437, R447: SOFTWARE_ALARM whose tick has come, with a good timebase, fires once; in rung 0 outside
PARK and a park entry it does nothing else. A busy block, another rung, a source that does not wake and a tick that has not come change
nothing. That nothing changes where the command's event cannot occur is the model's choice (assumption log 6). It rests on assumption log
31 too, the model's choice. -/
def Obligations.Rungs : Prop :=
  (∀ s : State, s.pwr.rung = 0 → 1 ≤ s.pwr.apply → s.pwr.apply ≤ 3 → s.mayEnter s.pwr.apply = true →
    ∃ t, exec .rungEnter s = .next t ∧ t.pwr.rung = s.pwr.apply ∧ t.pwr.ack = s.pwr.apply ∧ t.pwr.excursion = false ∧
      t.mode = s.mode ∧ t.tgts = s.tgts) ∧
  (∀ s : State, s.pwr.rung ≠ 0 ∨ s.pwr.apply = 0 ∨ 3 < s.pwr.apply ∨ s.mayEnter s.pwr.apply = false →
    exec .rungEnter s = .next s) ∧
  (∀ (k : WakeSrc) (s : State), 1 ≤ s.pwr.rung → s.pwr.rung ≤ 3 → wakesFrom s.pwr.rung k = true →
    ∃ t, exec (.rungWake k) s = .next t ∧ t.pwr.rung = 0 ∧ t.pwr.excursion = true ∧ t.mode = s.mode ∧ t.tgts = s.tgts ∧
      t.pwr.wakeCount = sat 255 (s.pwr.wakeCount + 1) ∧ t.pwr.wakeSeq = seqUp s.pwr.wakeSeq) ∧
  (∀ (k : WakeSrc) (s : State), s.pwr.rung = 0 ∨ 3 < s.pwr.rung ∨ wakesFrom s.pwr.rung k = false →
    exec (.rungWake k) s = .next s) ∧
  (∀ s : State, 1 ≤ s.pwr.rung → s.pwr.rung ≤ 3 → s.tb.good = true →
    s.endWithin (exitTicks s.pwr.rung) = true ∨ (∃ d ∈ s.dueTicks, d ≤ s.tick + exitTicks s.pwr.rung) →
    ∃ t, exec .rungAlarm s = .next t ∧ t.pwr.rung = 0 ∧ t.pwr.excursion = true ∧ t.mode = s.mode) ∧
  (∀ s : State, s.pwr.rung = 0 ∨ 3 < s.pwr.rung ∨ s.tb.good = false ∨
      (s.endWithin (exitTicks s.pwr.rung) = false ∧ ∀ d ∈ s.dueTicks, s.tick + exitTicks s.pwr.rung < d) →
    exec .rungAlarm s = .next s) ∧
  (∀ s : State, s.pwr.alarmEn = true → s.tb.good = true → s.pwr.stopped = false → s.pwr.alarm ≤ s.tick →
    ∃ t, exec .softwareAlarm s = .next t ∧ t.pwr.alarmEn = false ∧ t.pwr.alarmFired = true ∧
      (s.mode.mode ≠ .park → s.pwr.rung = 0 → s.pwr.parking = false → t = { s with pwr := t.pwr })) ∧
  (∀ s : State, s.pwr.alarmEn = false ∨ s.tb.good = false ∨ s.pwr.stopped = true ∨ s.tick < s.pwr.alarm →
    exec .softwareAlarm s = .next s)

/-! ### The register port -/

/-- R349, R354, R391: REGISTER_READ, admitted, answers with what the register reads, of a masked-write alias with 0, and nothing else changes
but the requests under way. R172, R402, R486: TGT_OCC_LO_READ, TB_COUNT_LO_READ and ACC_SLOT_LO_READ capture the whole value first. Each
leaves a register of another row to its own row and changes nothing. R49, R391, R392: a read that the checker refuses is answered ERROR
with data 0, and leaves a precise record where none waits. R52: while D3 is held, a read is answered NOT_READY and changes nothing else.
R50: while the port takes no request, a read changes nothing. It rests on assumption log 25 and 52, the model's choices. -/
def Obligations.RegisterReadsAndRefusals : Prop :=
  (∀ (b : BusReq) (r : RegAt) (s : State), s.grants b false false r → readIs b ownRead = false →
    (b.size8 = true ∨ r.wideOnly = false) →
    exec (.registerRead b) s = .next { s.entered with
      bus := s.busAfter b false (hotReg false r) 0 (w64 (s.readReg r + (if b.size8 then s.readReg r.upper else 0) * 2 ^ 32)) }) ∧
  (∀ (b : BusReq) (r : RegAt) (s : State), s.grants b false true r →
    exec (.registerRead b) s = .next { s.entered with bus := s.busAfter b false (hotReg true r) 0 0 }) ∧
  (∀ (b : BusReq) (n : Nat) (s : State), s.grants b false false (.target n 0x104) → b.size8 = false →
    exec (.tgtOccLoRead b) s = .next { s.entered.onTgt n (fun c => { c with occ := c.bitmap }) with
      bus := s.busAfter b false false 0 (w64 ((s.tgt n).bitmap % 2 ^ 32)) }) ∧
  (∀ (b : BusReq) (s : State), s.grants b false false (.global 7 0) →
    exec (.tbCountLoRead b) s = .next { s.entered with
      tb := { s.tb with cap := if s.tb.good then s.tb.count else 0 },
      bus := s.busAfter b false false 0 (w64 ((if s.tb.good then s.tb.count else 0) % 2 ^ 32 +
        (if b.size8 then (if s.tb.good then s.tb.count else 0) / 2 ^ 32 % 2 ^ 32 else 0) * 2 ^ 32)) }) ∧
  (∀ (b : BusReq) (s : State), s.grants b false false (.global 2 0x54) → b.size8 = false →
    exec (.accSlotLoRead b) s = .next { s.entered with
      acc := { s.entered.acc with slotCap := s.slot s.acc.slotSel },
      bus := s.busAfter b false false 0 (w64 (fld (s.slot s.acc.slotSel) 0 32)) }) ∧
  (∀ (b : BusReq) (r : RegAt) (s : State), (decodeAddr (reqAddr b)).reg = r → (decodeAddr (reqAddr b)).masked = false →
    (b.size8 = false → ownRead r = false → exec (.tgtOccLoRead b) s = .next s ∧
      exec (.tbCountLoRead b) s = .next s ∧ exec (.accSlotLoRead b) s = .next s) ∧
    (ownRead r = true → exec (.registerRead b) s = .next s)) ∧
  (∀ (b : BusReq) (s : State), s.portOn = true → s.portShut = false → s.pwr.rung = 0 →
    (∀ x ∈ s.bus.outstanding, x.1 ≠ b.tag.toNat) → s.accepts 0 = true →
    readIs b ownRead = false → badShape b false (decodeAddr (reqAddr b)) = false →
    (s.judge b.master.toNat b.priv false false (reqAddr b) (decodeAddr (reqAddr b)).slot
      (defaultWritable (decodeAddr (reqAddr b)).reg)).ok = false →
    ∃ t, exec (.registerRead b) s = .next t ∧
      t.bus = s.busAfter b false (hotReg (decodeAddr (reqAddr b)).masked (decodeAddr (reqAddr b)).reg) 1 0 ∧
      t.acc.violSeq = seqUp s.acc.violSeq ∧ t.acc.violCount = wrap 32 (s.acc.violCount + 1) ∧ t.acc.violValid = true ∧
      (s.acc.violValid = false → t.acc.violAddr = reqAddr b ∧ t.acc.violMaster = b.master.toNat ∧
        t.acc.violTag = b.tag.toNat ∧ t.acc.violWrite = false ∧ t.acc.violMore = s.acc.violMore) ∧
      (s.acc.violValid = true → t.acc.violAddr = s.acc.violAddr ∧ t.acc.violMore = sat 255 (s.acc.violMore + 1)) ∧
      ({ s with bus := t.bus, acc := t.acc }).sameButFault t) ∧
  (∀ (b : BusReq) (s : State), s.portOn = true → s.portShut = true → readIs b ownRead = false →
    exec (.registerRead b) s = .next { s with
      bus := { s.bus with hot := some { tag := b.tag.toNat, data := 0, status := 2 }, split := none } }) ∧
  (∀ (b : BusReq) (s : State), s.portOn = false ∨ (s.portShut = false ∧ s.accepts 0 = false) →
    exec (.registerRead b) s = .next s)

/-- R353, R355, R357, R360, R446: REGISTER_WRITE of 4 bytes puts its data into the writable bits, clamped to the range of the field; a
register without writable bits keeps its value. R362: a configuration register takes no write while the configuration is sealed. R353:
MASKED_WRITE keeps the bits that its mask does not select. R355: SEQUENCE_WRITE acts only where its number matches. An 8-byte write of any
row writes its lower and then its upper register. A write of a row that its address does not reach changes nothing. It rests on assumption
log 25 and 52, the model's choices. -/
def Obligations.RegisterWrites : Prop :=
  (∀ (b : BusReq) (s : State), s.takesWrite b (.global 4 8) →
    ∃ t, exec (.registerWrite b) s = .next t ∧ t.bus = s.wrote b ∧ t.cfg.gap = near 16 4096 (fld b.data 0 13) ∧
      (t.cfg.gap = fld b.data 0 13 → t = { s.entered with bus := t.bus, cfg := { s.cfg with gap := fld b.data 0 13 } }) ∧
      (t.cfg.gap ≠ fld b.data 0 13 → t.cfg.clampCount = wrap 32 (s.cfg.clampCount + 1))) ∧
  (∀ (b : BusReq) (s : State), s.takesWrite b (.global 4 0xC) →
    ∃ t, exec (.registerWrite b) s = .next t ∧ t.cfg.quiesceLimit = near 1 1000 (fld b.data 0 10) ∧
      (t.cfg.quiesceLimit = fld b.data 0 10 →
        t = { s.entered with bus := s.wrote b, cfg := { s.cfg with quiesceLimit := fld b.data 0 10 } })) ∧
  (∀ (b : BusReq) (s : State), s.takesWrite b (.global 6 0x14) →
    ∃ t, exec (.registerWrite b) s = .next t ∧ t.cfg.hold = near 1 1000 (fld b.data 0 10) ∧
      (t.cfg.hold = fld b.data 0 10 → t = { s.entered with bus := s.wrote b, cfg := { s.cfg with hold := fld b.data 0 10 } })) ∧
  (∀ (b : BusReq) (c : Nat) (s : State), c ∈ promoting → s.takesWrite b (.global 6 (0x180 + 4 * c)) →
    ∃ t, exec (.registerWrite b) s = .next t ∧
      tget (fun _ => {}) t.flt.pre c = { (tget (fun _ => {}) s.flt.pre c : Pre) with
        n := max 1 (fld b.data 0 8), win := max 1 (fld b.data 8 16) } ∧
      (1 ≤ fld b.data 0 8 → 1 ≤ fld b.data 8 16 → t = { s.entered with bus := s.wrote b, flt := t.flt })) ∧
  (∀ (b : BusReq) (s : State), s.takesWrite b (.global 5 0x60) →
    ∃ t, exec (.registerWrite b) s = .next t ∧ t.cfg.auditPeriod = near 16 40 (fld b.data 0 6) ∧
      t.cfg.auditPeriodic = (fld b.data 6 1 == 1) ∧ t.cfg.auditCredit = (fld b.data 7 1 == 1) ∧
      t.ldg.periodStart = (if fld b.data 6 1 = 1 ∧ s.cfg.auditPeriodic = false then s.tick else s.ldg.periodStart)) ∧
  (∀ (b : BusReq) (s : State), s.takesWrite b (.global 5 0x80) →
    ∃ t, exec (.registerWrite b) s = .next t ∧ t.cfg.recPeriod = near 36 46 (fld b.data 0 6) ∧
      t.cfg.recPeriodic = (fld b.data 6 1 == 1)) ∧
  (∀ (b : BusReq) (s : State), s.takesWrite b (.global 4 0x90) →
    exec (.registerWrite b) s = .next { s.entered with
      bus := s.wrote b, pwr := { s.pwr with alarm := s.pwr.alarm / 2 ^ 32 * 2 ^ 32 + fld b.data 0 32 } }) ∧
  (∀ (b : BusReq) (s : State), s.takesWrite b (.global 4 0x94) →
    exec (.registerWrite b) s = .next { s.entered with
      bus := s.wrote b, pwr := { s.pwr with alarm := s.pwr.alarm % 2 ^ 32 + fld b.data 0 32 * 2 ^ 32 } }) ∧
  (∀ (b : BusReq) (s : State), s.takesWrite b (.global 4 0x98) →
    exec (.registerWrite b) s = .next { s.entered with
      bus := s.wrote b, pwr := { s.pwr with alarmEn := fld b.data 0 1 == 1,
                                            alarmFired := s.pwr.alarmFired && !(fld b.data 0 1 == 1) } }) ∧
  (∀ (b : BusReq) (s : State), s.takesWrite b (.global 2 0x50) →
    exec (.registerWrite b) s = .next { s.entered with bus := s.wrote b, acc := { s.entered.acc with slotSel := fld b.data 0 15 } }) ∧
  (∀ (b : BusReq) (s : State), s.takesWrite b (.global 5 0) →
    exec (.registerWrite b) s = .next { s.entered with
      bus := s.wrote b, ldg := { s.ldg with selInst := fld b.data 0 9, selBlock := fld b.data 9 1 == 1 } }) ∧
  (∀ (b : BusReq) (r : RegAt) (s : State), s.takesWrite b r → r.row = .plain → r.configMask = 0 →
    r ∉ [RegAt.global 4 0x90, .global 4 0x94, .global 4 0x98, .global 2 0x50, .global 5 0] →
    exec (.registerWrite b) s = .next { s.entered with bus := s.wrote b }) ∧
  (∀ (b : BusReq) (r : RegAt) (s : State), s.grants b true false r → b.size8 = false → r.row = .plain →
    s.cfg.sealed_ = true → r.configMask ≠ 0 →
    ∃ t, exec (.registerWrite b) s = .next t ∧ t.bus = s.busAfter b b.posted false 1 0 ∧
      t.cfg = { s.cfg with violCount := sat 65535 (s.cfg.violCount + 1), violSeq := seqUp s.cfg.violSeq }) ∧
  (∀ (b : BusReq) (s : State), s.grants b true true (.global 4 0x90) →
    exec (.maskedWrite b) s = .next { s.entered with
      bus := s.wrote b,
      pwr := { s.pwr with alarm := s.pwr.alarm / 2 ^ 32 * 2 ^ 32 +
        ((s.pwr.alarm % 2 ^ 32 &&& (0xFFFFFFFF - fld b.data 32 32)) ||| (fld b.data 0 32 &&& fld b.data 32 32)) } }) ∧
  (∀ (b : BusReq) (r : RegAt) (s : State), s.grants b true true r → s.cfg.sealed_ = true →
    r.configMask &&& fld b.data 32 32 ≠ 0 →
    ∃ t, exec (.maskedWrite b) s = .next t ∧ t.bus = s.busAfter b b.posted (hotReg true r) 1 0 ∧
      t.cfg = { s.cfg with violCount := sat 65535 (s.cfg.violCount + 1), violSeq := seqUp s.cfg.violSeq }) ∧
  (∀ (b : BusReq) (s : State), s.takesWrite b (.global 2 0x14) →
    exec (.sequenceWrite b) s = .next { s.entered with
      bus := s.wrote b,
      acc := if fld b.data 24 8 = s.acc.violSeq then { s.entered.acc with violValid := false, violMore := 0 } else s.entered.acc }) ∧
  (∀ (b : BusReq) (s : State), s.takesWrite b (.global 2 0x30) →
    exec (.sequenceWrite b) s = .next { s.entered with
      bus := s.wrote b,
      acc := if fld b.data 24 8 = s.acc.noteSeq then { s.entered.acc with notePending := false, noteNew := 0 } else s.entered.acc }) ∧
  (∀ (b : BusReq) (s : State), s.takesWrite b (.global 6 0) →
    exec (.sequenceWrite b) s = .next { s.entered with
      bus := s.wrote b,
      flt := if fld b.data 24 8 = s.flt.seq then
          { s.flt with corr := false, cont := false, cwr := false, uncont := false, new_ := 0 } else s.flt }) ∧
  (∀ (b : BusReq) (s : State), s.takesWrite b (.global 4 0) →
    exec (.sequenceWrite b) s = .next { s.entered with
      bus := s.wrote b, rst := if fld b.data 24 8 = s.rst.causeSeq then { s.rst with cause := 0 } else s.rst }) ∧
  (∀ (b : BusReq) (s : State), s.takesWrite b (.global 4 0x84) →
    exec (.sequenceWrite b) s = .next { s.entered with
      bus := s.wrote b,
      pwr := if fld b.data 24 8 = s.pwr.wakeSeq then { s.pwr with wakeBits := 0, wakeCount := 0, wakeLines := 0 } else s.pwr }) ∧
  (∀ (b : BusReq) (s : State), s.takesWrite b (.global 5 0x64) →
    exec (.sequenceWrite b) s = .next { s.entered with
      bus := s.wrote b,
      ldg := if fld b.data 24 8 = s.ldg.statSeq then
          { s.ldg with mismatch := false, creditMismatch := false, rebased := false } else s.ldg }) ∧
  (∀ (b : BusReq) (k : Nat) (s : State), s.takesWrite b (.lineStat k) →
    ∃ t, exec (.sequenceWrite b) s = .next t ∧ t = { s.entered with bus := s.wrote b, lines := t.lines } ∧
      t.line k = (if fld b.data 24 8 = (s.line k).seq then { s.line k with overrun := false, ovrCount := 0 } else s.line k) ∧
      (∀ j, j ≠ k → t.line j = s.line j)) ∧
  (∀ (b : BusReq) (n : Nat) (s : State), s.takesWrite b (.target n 0x110) →
    ∃ t, exec (.sequenceWrite b) s = .next t ∧ t = { s.entered with bus := s.wrote b, tgts := t.tgts } ∧
      t.tgt n = (if fld b.data 24 8 = (s.tgt n).port.statSeq then
          { s.tgt n with port := { (s.tgt n).port with stat := 0, statCount := 0 } } else s.tgt n) ∧
      (∀ x, x ≠ n → t.tgt x = s.tgt x)) ∧
  (∀ (b : BusReq) (i : Nat) (s : State), s.takesWrite b (.inst i 0x20) →
    ∃ t, exec (.sequenceWrite b) s = .next t ∧ t = { s.entered with bus := s.wrote b, insts := t.insts } ∧
      t.ctx i = (if fld b.data 24 8 = (s.ctx i).statSeq then
          { s.ctx i with statRate := false, statQuota := false, statStale := false, statShare := false } else s.ctx i) ∧
      (∀ j, j ≠ i → t.ctx j = s.ctx j)) ∧
  (∀ (c : Instr) (k : WriteRow) (b : BusReq) (r : RegAt) (s : State),
    (c, k) ∈ [(Instr.registerWrite b, WriteRow.plain), (.sequenceWrite b, .sequence), (.glbModeReqWrite b, .modeReq),
      (.lineCfgWrite b, .lineCfg), (.unsealLimitWrite b, .unsealLimit), (.ldgSnapTake b, .ldgSnap), (.tgtTakeWrite b, .take),
      (.tgtDoneWrite b, .done), (.tgtRunlvlWrite b, .runlvl), (.tgtResInstWrite b, .resInst), (.instDoorbellWrite b, .doorbell),
      (.cqResync b, .resync)] →
    (writeIs b k = true → s.grants b true false r → b.size8 = true → r.cmdFifo = none → r.isCdw = false →
      s.cfg.sealed_ = false →
      exec c s = .next ((((s.enterAccess b (hotReg false r)).writeReg b r (fld b.data 0 32) 0xFFFFFFFF).writeReg b r.upper (fld b.data 32 32) 0xFFFFFFFF).respond
        b (hotReg false r) 0 0)) ∧
    (writeIs b k = false → exec c s = .next s))

/-- R24, R25: GLB_MODE_REQ_WRITE of a mode that the table permits changes the mode; of one that it does not permit it is clamped and changes
none; of 15 it changes nothing. R76, R80, R105: LINE_CFG_WRITE of a line whose bank takes orders sets SENSE and POL, with SENSE 0b11 as
0b00 and a clamp, and clears the latch of a caught change; during a withdrawal of the line's event, or at a full bank, it waits. R364:
UNSEAL_LIMIT_WRITE sets the limit, clamped to 1 to 1,000,000, and ends a window whose end has then passed. R140: LDG_SNAP_TAKE with TAKE 1
copies all nine counters of the selected ledger at once, and with TAKE 0 changes nothing. Each of 4 bytes. It rests on assumption log 9,
25 and 52, the model's choices. -/
def Obligations.ModeLineAndLedgerWrites : Prop :=
  (∀ (b : BusReq) (m : Mode) (s : State), s.takesWrite b (.global 0 4) →
    fld b.data 4 4 ∈ [3, 4, 5, 7] → s.modeFor (fld b.data 4 4) = some m → m ≠ s.mode.mode →
    s.mode.heldUncont = false → s.mode.heldEsc = false → s.mode.heldCwr = false → s.pins.esc ≠ 2 → s.pwr.apply < 4 →
    ∃ t, exec (.glbModeReqWrite b) s = .next t ∧ t.mode.mode = m ∧ t.mode.req = 15 ∧
      (m = .quiesce → t.mode.prior = s.mode.mode ∧ t.mode.quiesceStart = s.instant) ∧ t.rst = s.rst ∧ t.trans = s.trans) ∧
  (∀ (b : BusReq) (s : State), s.takesWrite b (.global 0 4) → fld b.data 4 4 ≠ 15 →
    (fld b.data 4 4 ∈ [3, 4, 5, 7] → s.modeFor (fld b.data 4 4) = none) →
    ∃ t, exec (.glbModeReqWrite b) s = .next t ∧ t.mode = s.mode ∧ t.cfg.clampCount = wrap 32 (s.cfg.clampCount + 1) ∧
      ({ s.entered with bus := t.bus, cfg := t.cfg }).sameButHouse t) ∧
  (∀ (b : BusReq) (s : State), s.takesWrite b (.global 0 4) → fld b.data 4 4 = 15 →
    exec (.glbModeReqWrite b) s = .next { s.entered with bus := s.wrote b }) ∧
  (∀ (b : BusReq) (k : Nat) (s : State), s.takesWrite b (.lineCfg k) →
    s.bankFull k = false → s.withdrawing k = false → s.isStale k = false →
    ∃ t, exec (.lineCfgWrite b) s = .next t ∧
      t.lineCfg k = { sense := if fld b.data 0 2 = 3 then 0 else fld b.data 0 2, pol := fld b.data 2 1 == 1,
                      clamped := fld b.data 0 2 == 3 } ∧
      t.cfg.clampCount = (if fld b.data 0 2 = 3 then wrap 32 (s.cfg.clampCount + 1) else s.cfg.clampCount) ∧
      (∀ j, j ≠ k → t.lineCfg j = s.lineCfg j) ∧
      ((s.lineCfg k).sense ≠ (if fld b.data 0 2 = 3 then 0 else fld b.data 0 2) ∨
        (s.lineCfg k).pol ≠ (fld b.data 2 1 == 1) → (t.line k).latch = false)) ∧
  (∀ (b : BusReq) (k : Nat) (s : State), s.takesWrite b (.lineCfg k) → s.isStale k = false →
    let o : Nat × Order := (k, .lineCfg { data := fld b.data 0 32, mask := 0xFFFFFFFF, by_ := s.entered.judged })
    (s.bankFull k = false → s.withdrawing k = true →
      ∃ t, exec (.lineCfgWrite b) s = .next t ∧ t.parked = s.parked ++ [o] ∧ t.cfg = s.cfg) ∧
    (s.bankFull k = true →
      exec (.lineCfgWrite b) s = .next { s.entered with bus := s.wrote b, waiting := s.waiting ++ [o] })) ∧
  (∀ (b : BusReq) (s : State), s.takesWrite b (.global 0 0x2C) →
    let v := near 1 1000000 (fld b.data 0 20)
    ∃ t, exec (.unsealLimitWrite b) s = .next t ∧ t.cfg.unsealLimit = v ∧
      (s.cfg.timed = false → v = fld b.data 0 20 → t = { s.entered with bus := s.wrote b, cfg := { s.cfg with unsealLimit := v } }) ∧
      (v ≠ fld b.data 0 20 → t.cfg.clampCount = wrap 32 (s.cfg.clampCount + 1)) ∧
      (s.cfg.timed = true → s.tb.good = true → s.cfg.unsealStart + 500 * v ≤ s.tick → t.cfg.timed = false ∧
        t.cfg.expired = true)) ∧
  (∀ (b : BusReq) (s : State), s.takesWrite b (.global 5 4) →
    exec (.ldgSnapTake b) s = .next { s.entered with
      bus := s.wrote b,
      ldg := if fld b.data 0 1 = 1 then
          { s.ldg with snap := if s.ldg.selBlock then s.ldg.block else s.ledger s.ldg.selInst }
        else s.ldg })

/-- R205, R351, R352: TGT_TAKE_WRITE with the presentation number of a presentation that stands, TGT_DONE_WRITE and INST_DOORBELL_WRITE are
answered at once and wait in the hot write queue with the epoch under which they were judged; a take without a standing presentation, or
with another number, is answered and changes nothing. R207, R275: TGT_RUNLVL_WRITE of a nib target of the register path, clamped to 64,
and TGT_RES_INST_WRITE of a virtual target wait in the same way, and the front file shows their values; at another target they change
nothing. Each of 4 bytes. It rests on assumption log 25 and 52, the model's choices. -/
def Obligations.HotWrites : Prop :=
  (∀ (b : BusReq) (n : Nat) (s : State), s.takesWrite b (.target n 0) →
    (s.shownReg n).2 = true → fld b.data 24 8 = (s.tgt n).pseq →
    exec (.tgtTakeWrite b) s = .next { s.entered.onPort n (fun p => { p with taken := true }) with
      bus := { s.busAfter b b.posted true 0 0 with hotq := s.bus.hotq ++ [.take n (s.tgt n).pseq s.entered.judged] } }) ∧
  (∀ (b : BusReq) (n : Nat) (s : State), s.takesWrite b (.target n 0) →
    (s.shownReg n).2 = false ∨ fld b.data 24 8 ≠ (s.tgt n).pseq →
    exec (.tgtTakeWrite b) s = .next { s.entered with bus := s.busAfter b b.posted true 0 0 }) ∧
  (∀ (b : BusReq) (n : Nat) (s : State), s.takesWrite b (.target n 4) →
    exec (.tgtDoneWrite b) s = .next { s.entered with
      bus := { s.busAfter b b.posted true 0 0 with hotq := s.bus.hotq ++ [.done n (fld b.data 0 20) s.entered.judged] } }) ∧
  (∀ (b : BusReq) (n : Nat) (s : State), s.takesWrite b (.target n 8) → n < 1024 → (s.tgt n).path = true →
    ∃ t, exec (.tgtRunlvlWrite b) s = .next t ∧ t.shownRun n = min 64 (fld b.data 0 7) ∧
      t.bus.hotq = s.bus.hotq ++ [.runlvl n (min 64 (fld b.data 0 7)) s.entered.judged] ∧ t.tgts = s.tgts ∧
      t.cfg.clampCount = (if fld b.data 0 7 ≤ 64 then s.cfg.clampCount else wrap 32 (s.cfg.clampCount + 1))) ∧
  (∀ (b : BusReq) (n : Nat) (s : State), s.takesWrite b (.target n 8) → 1024 ≤ n ∨ (s.tgt n).path = false →
    exec (.tgtRunlvlWrite b) s = .next { s.entered with bus := s.busAfter b b.posted true 0 0 }) ∧
  (∀ (b : BusReq) (n : Nat) (s : State), s.takesWrite b (.target n 0xC) → (s.tgt n).virt = true →
    ∃ t, exec (.tgtResInstWrite b) s = .next t ∧ t.shownRes n = fld b.data 0 9 ∧
      t.bus.hotq = s.bus.hotq ++ [.resInst n (fld b.data 0 9) s.entered.judged] ∧ t = { s.entered with bus := t.bus }) ∧
  (∀ (b : BusReq) (n : Nat) (s : State), s.takesWrite b (.target n 0xC) → (s.tgt n).virt = false →
    exec (.tgtResInstWrite b) s = .next { s.entered with bus := s.busAfter b b.posted true 0 0 }) ∧
  (∀ (b : BusReq) (i : Nat) (s : State), s.takesWrite b (.inst i 0x40) →
    exec (.instDoorbellWrite b) s = .next { s.entered with
      bus := { s.busAfter b b.posted true 0 0 with
        hotq := s.bus.hotq ++ [.doorbell i (fld b.data 0 10) b.master.toNat b.priv s.entered.judged] } })

/-- R352: HOT_WRITE_APPLY with D3 released takes the oldest hot write. R192, R207: a running level becomes the reported and the effective one,
and at PATH 0 it is ignored. R262, R263: a resident instance of a virtual target starts the switch work at step 1 with the pool cell that
the target's switch work has, or a free one, or none, which is then counted as waiting. R106, R192, R207: a take with the number of the
presented event makes its source Active and sets TAKEN_SEQ; a take of an event being withdrawn is kept for the answer of the withdrawal
(R112, R204). R108: a done of the Active source in service there, whose level does not stand, makes it Inactive. R85, R492: a doorbell is
a pulse of its source, and while intake is closed it waits in the holder of 32, and in the queue where that is full. With D3 held, or no
hot write waiting, it changes nothing. That nothing changes where the command's event cannot occur is the model's choice (assumption log
6). It rests on assumption log 20, 21 and 44 too, the model's choices. -/
def Obligations.HotWriteApplies : Prop :=
  (∀ (n v : Nat) (j : Judged) (hs : List HotWrite) (s : State), s.isHeld 3 = false → s.pwr.rung < 2 → s.cmd.gates = [] →
    s.bus.hotq = .runlvl n v j :: hs →
    ((s.tgt n).path = true →
      ∃ t, exec .hotWriteApply s = .next t ∧ t.bus.hotq = hs ∧ (t.tgt n).runRpt = v ∧
        ((s.tgt n).runRpt ≠ v → (t.tgt n).runEff = v ∧ (t.tgt n).effEid = none) ∧ (∀ x, x ≠ n → t.tgt x = s.tgt x) ∧
        t = { s with bus := t.bus, tgts := t.tgts }) ∧
    ((s.tgt n).path = false → ∃ t, exec .hotWriteApply s = .next t ∧ t.bus.hotq = hs ∧ t = { s with bus := t.bus })) ∧
  (∀ (n i : Nat) (j : Judged) (hs : List HotWrite) (s : State), s.isHeld 3 = false → s.pwr.rung < 2 → s.cmd.gates = [] →
    s.bus.hotq = .resInst n i j :: hs → (s.tgt n).virt = true →
    ∃ t, exec .hotWriteApply s = .next t ∧ t.bus.hotq = hs ∧
      t.tgt n = { s.tgt n with resInst := i, switching := (t.tgt n).switching } ∧
      (∃ w, (t.tgt n).switching = some w ∧ w.step = 1 ∧ w.inst = i ∧ w.gen = (s.ctx i).parity) ∧
      (∀ x, x ≠ n → t.tgt x = s.tgt x) ∧ t.src = s.src ∧
      (((s.tgt n).switching.bind (·.cell)).isSome = true →
        (t.tgt n).switching.bind (·.cell) = (s.tgt n).switching.bind (·.cell) ∧ t = { s with bus := t.bus, tgts := t.tgts }) ∧
      ((s.tgt n).switching = none → (t.tgt n).switching.bind (·.cell) = s.freePool ∧
        t.cfg.poolWait = (if s.freePool = none then wrap 32 (s.cfg.poolWait + 1) else s.cfg.poolWait))) ∧
  (∀ (n i : Nat) (j : Judged) (hs : List HotWrite) (s : State), s.isHeld 3 = false → s.pwr.rung < 2 → s.cmd.gates = [] →
    s.bus.hotq = .resInst n i j :: hs → (s.tgt n).virt = false →
    ∃ t, exec .hotWriteApply s = .next t ∧ t.bus.hotq = hs ∧ t = { s with bus := t.bus }) ∧
  (∀ (n e sq : Nat) (j : Judged) (hs : List HotWrite) (s : State), s.isHeld 3 = false → s.pwr.rung < 2 → s.cmd.gates = [] →
    s.bus.hotq = .take n sq j :: hs → n < 1024 → (s.tgt n).pseq = sq → (s.tgt n).held = true → (s.tgt n).pres = some e →
    ((s.source e).place = .presented → (s.source e).st = .pending → s.isStale e = false → s.bankFull e = false → s.bankQuiet e →
      ∃ t, exec .hotWriteApply s = .next t ∧ t.bus.hotq = hs ∧ (t.source e).st = .active ∧ (t.source e).taker = n ∧
        (t.tgt n).pres = none ∧ (t.tgt n).held = false ∧ (t.tgt n).runEff = min (s.tgt n).runRpt (s.tgt n).presLevel ∧
        (t.tgt n).effEid = some e ∧ ((s.tgt n).path = true → (t.tgt n).port.takenSeq = sq) ∧
        t.ldg.block = s.ldg.block.move .deliver ∧ (∀ x, x ≠ e → t.source x = s.source x)) ∧
    ((s.source e).place = .withdrawing →
      ∃ t, exec .hotWriteApply s = .next t ∧ t.bus.hotq = hs ∧
        t.tgt n = { s.tgt n with port := { (s.tgt n).port with takenCut := true, takeAfter := 0 } } ∧
        (∀ x, x ≠ n → t.tgt x = s.tgt x) ∧ t = { s.stageOk 6 n with bus := t.bus, tgts := t.tgts })) ∧
  (∀ (n e : Nat) (j : Judged) (hs : List HotWrite) (s : State), s.isHeld 3 = false → s.pwr.rung < 2 → s.cmd.gates = [] →
    s.bus.hotq = .done n e j :: hs → e < 0x41000 → s.bankFull e = false → (s.source e).st = .active →
    (s.source e).place = .unplaced → (s.source e).taker = n → (s.source e).level = false → (s.source e).drain = false →
    s.isStale e = false →
    ∃ t, exec .hotWriteApply s = .next t ∧ t.bus.hotq = hs ∧ (t.source e).st = .inactive ∧ t.ldg = s.ldg ∧
      (∀ x, x ≠ e → t.source x = s.source x)) ∧
  (∀ (i n m : Nat) (j : Judged) (p : Bool) (hs : List HotWrite) (s : State), s.isHeld 3 = false → s.pwr.rung < 2 → s.cmd.gates = [] →
    s.bus.hotq = .doorbell i n m p j :: hs → s.intakeShut = true →
    (s.bus.bells.length < 32 → exec .hotWriteApply s = .next { s with bus := { s.bus with
      hotq := hs, bells := s.bus.bells ++ [{ inst := i, swev := n, master := m, priv := p }] } }) ∧
    (32 ≤ s.bus.bells.length → exec .hotWriteApply s = .next s)) ∧
  (∀ (i n m : Nat) (j : Judged) (p : Bool) (hs : List HotWrite) (s : State), s.isHeld 3 = false → s.pwr.rung < 2 → s.cmd.gates = [] →
    s.bus.hotq = .doorbell i n m p j :: hs → s.intakeShut = false → s.bankFull (0xA00 + n) = false →
    s.isStale (0xA00 + n) = false → (s.source (0xA00 + n)).st = .inactive → (s.source (0xA00 + n)).place = .unplaced →
    (s.source (0xA00 + n)).inst = i → (s.source (0xA00 + n)).enabled = true → (s.ctx i).serving = true →
    ∃ t, exec .hotWriteApply s = .next t ∧ t.bus.hotq = hs ∧ (t.source (0xA00 + n)).st = .pending ∧
      (t.source (0xA00 + n)).payload = 0 ∧ (t.source (0xA00 + n)).stamp = s.tick ∧
      t.ldg.block = s.ldg.block.move .accept ∧ (∀ x, x ≠ 0xA00 + n → t.source x = s.source x) ∧ t.tgts = s.tgts) ∧
  (∀ s : State, s.isHeld 3 = true ∨ s.bus.hotq = [] → exec .hotWriteApply s = .next s)

/-- R308, R309: CQ_CMD_FIFO_WRITE of 8 bytes in rung 0 enters its queue: a header of a queue that runs commands is taken, a body word joins
its packet; it is dropped while the queue discards, sets OVF at a full FIFO and cuts a packet short, and an unknown opcode is answered
BAD_OPCODE (R310). R304: a posted one of 4 bytes is dropped and sets PROTO. R304, R308: CQ_RPL_FIFO_READ takes the oldest word of the
reply FIFO, and reads 0 from an empty one. R306: CQ_RESYNC with RESYNC 1 empties the command FIFO, ends DISCARDING and answers a packet
that it cuts with BAD_LENGTH; with RESYNC 0 it changes nothing. It rests on assumption log 25 and 52, the model's choices. -/
def Obligations.QueuePorts : Prop :=
  (∀ (b : BusReq) (q : Nat) (s : State), q < 8 → s.grants b true false (.global 1 (16 * q)) → b.size8 = true →
    s.pwr.rung = 0 → s.mode.mode ≠ .park → s.pwr.parking = false → (s.queue q).discarding = false → (s.queue q).fifo = [] → (s.queue q).cur = none → s.pairReady q = true →
    s.quiescing 3 = false → (s.queue q).late = [] → (s.queue q).rpl.length < 512 →
    s.cmd.cdw.owned = false ∨ s.cmd.cdw.q ≠ q →
    ((catRow (hdrOpcode b.data)).isSome = true ∨ 0 < hdrLen b.data →
      ∃ t, exec (.cqCmdFifoWrite b) s = .next t ∧
        t.queue q = { s.queue q with cur := some { hdr := b.data } } ∧ (∀ x, x ≠ q → t.queue x = s.queue x) ∧
        t = { s.entered with bus := s.wrote b, cmd := t.cmd }) ∧
    ((catRow (hdrOpcode b.data)).isSome = false → hdrLen b.data = 0 →
      ∃ t, exec (.cqCmdFifoWrite b) s = .next t ∧ s.answered t q { hdr := b.data } stBadOpcode [] ∧ t.bus = s.wrote b)) ∧
  (∀ (b : BusReq) (q : Nat) (p : Packet) (s : State), q < 8 → s.grants b true false (.global 1 (16 * q)) → b.size8 = true →
    s.pwr.rung = 0 → s.mode.mode ≠ .park → s.pwr.parking = false → (s.queue q).discarding = false → (s.queue q).fifo = [] → (s.queue q).cur = some p →
    p.complete = false → (catRow (hdrOpcode p.hdr)).isSome = true →
    ∃ t, exec (.cqCmdFifoWrite b) s = .next t ∧
      t.queue q = { s.queue q with cur := some { p with words := p.words ++ [b.data] } } ∧
      t = { s.entered with bus := s.wrote b, cmd := t.cmd }) ∧
  (∀ (b : BusReq) (q : Nat) (s : State), q < 8 → s.grants b true false (.global 1 (16 * q)) → b.size8 = true →
    s.pwr.rung = 0 → s.mode.mode ≠ .park → s.pwr.parking = false → (s.queue q).discarding = true →
    exec (.cqCmdFifoWrite b) s = .next { s.entered with bus := s.wrote b }) ∧
  (∀ (b : BusReq) (q : Nat) (s : State), q < 8 → s.grants b true false (.global 1 (16 * q)) → b.size8 = true →
    s.pwr.rung = 0 → s.mode.mode ≠ .park → s.pwr.parking = false → (s.queue q).discarding = false → 512 ≤ (s.queue q).fifo.length →
    ((s.queue q).cur = none →
      ∃ t, exec (.cqCmdFifoWrite b) s = .next t ∧
        t.queue q = { s.queue q with ovf := true, discarding := true, seq := seqUp (s.queue q).seq } ∧
        (∀ x, x ≠ q → t.queue x = s.queue x)) ∧
    (∀ p : Packet, (s.queue q).cur = some p → p.complete = false → (s.queue q).late = [] → (s.queue q).rpl.length < 512 →
      ∃ t, exec (.cqCmdFifoWrite b) s = .next t ∧ s.answered t q p stBadLength [] ∧ (t.queue q).ovf = true ∧
        (t.queue q).discarding = true)) ∧
  (∀ (b : BusReq) (q : Nat) (s : State), q < 8 → s.grants b true false (.global 1 (16 * q)) → b.size8 = false →
    b.posted = true → s.pwr.rung = 0 → s.mode.mode ≠ .park → s.pwr.parking = false →
    ∃ t, exec (.cqCmdFifoWrite b) s = .next t ∧
      t.queue q = { s.queue q with proto := true, seq := seqUp (s.queue q).seq } ∧
      t = { s.entered with bus := s.busAfter b true false 1 0, cmd := t.cmd }) ∧
  (∀ (b : BusReq) (q : Nat) (w : BitVec 64) (ws : List (BitVec 64)) (s : State), q < 8 →
    s.grants b false false (.global 1 (16 * q + 8)) → b.size8 = true → (s.queue q).rpl = w :: ws → (s.queue q).late = [] →
    (s.queue q).fifo = [] → (s.queue q).cur = none →
    ∃ t, exec (.cqRplFifoRead b) s = .next t ∧ t.bus = s.busAfter b false false 0 w ∧
      t.queue q = { s.queue q with rpl := ws } ∧ (∀ x, x ≠ q → t.queue x = s.queue x) ∧
      t = { s.entered with bus := t.bus, cmd := t.cmd }) ∧
  (∀ (b : BusReq) (q : Nat) (s : State), q < 8 → s.grants b false false (.global 1 (16 * q + 8)) → b.size8 = true →
    (s.queue q).rpl = [] → exec (.cqRplFifoRead b) s = .next { s.entered with bus := s.busAfter b false false 0 0 }) ∧
  (∀ (b : BusReq) (q : Nat) (s : State), q < 8 → s.takesWrite b (.global 1 (0xA0 + 4 * q)) →
    (fld b.data 0 1 = 0 → exec (.cqResync b) s = .next { s.entered with bus := s.wrote b }) ∧
    (fld b.data 0 1 = 1 → (s.queue q).cur = none →
      ∃ t, exec (.cqResync b) s = .next t ∧ t.queue q = { s.queue q with fifo := [], discarding := false } ∧
        (∀ x, x ≠ q → t.queue x = s.queue x) ∧ t = { s.entered with bus := s.wrote b, cmd := t.cmd }) ∧
    (∀ p : Packet, fld b.data 0 1 = 1 → (s.queue q).cur = some p → p.complete = false → (s.queue q).late = [] →
      (s.queue q).rpl.length < 512 →
      ∃ t, exec (.cqResync b) s = .next t ∧ s.answered t q p stBadLength [] ∧ (t.queue q).fifo = [] ∧
        (t.queue q).discarding = false))

/-- R316 to R318, R327: CDW_WRITE of 8 bytes to an open inward window with an empty buffer goes to its transfer, here a translation entry of
MAP_DEVICE; at the last word the window closes and the page is VALID. A record word of a load is an order at its bank, which waits while
the bank is full and is parked by a withdrawal, and a write at SPACE 0 is answered ERROR, sets PROTO and ends the transfer. CDW_READ of an
outward window gives its next word, and closes it at the last; a word whose bank takes no order is answered NOT_READY. An access against
the direction, or to a closed window, is answered ERROR. R319: CDW_ABANDON_TIMEOUT, 2^24 ticks of a good timebase after the last access,
closes the window, and an inward transfer ends TIMEOUT with its position; before that, or of a closed window, it changes nothing. It rests
on assumption log 25, 40 and 64, the model's choices. -/
def Obligations.DataWindow : Prop :=
  (∀ (b : BusReq) (i page next : Nat) (s : State), s.grants b true false (.global 1 0xC0) → b.size8 = true →
    s.cdwOpen = true → s.cmd.cdw.outward = false → s.cmd.cdw.buf = [] → s.cmd.cdw.atBank = false → s.cmd.cdw.failed = none → s.cmd.cdw.xfer = some (.map i page next) →
    zeroFrom b.data 19 = true →
    (1 < s.cmd.cdw.left →
      ∃ t, exec (.cdwWrite b) s = .next t ∧ t.transEntry next = transOf b.data ∧
        (∀ x, x ≠ next → t.transEntry x = s.transEntry x) ∧ t.pages = s.pages ∧
        t.cmd = { s.cmd with cdw := { s.cmd.cdw with pos := s.cmd.cdw.pos + 1, left := s.cmd.cdw.left - 1, last := s.tick,
                                                     xfer := some (.map i page (next + 1)) } } ∧
        t = { s.entered with bus := s.wrote b, trans := t.trans, cmd := t.cmd }) ∧
    (s.cmd.cdw.left = 1 →
      ∃ t, exec (.cdwWrite b) s = .next t ∧ t.transEntry next = transOf b.data ∧ (t.page page).valid = true ∧
        t.cmd.cdw.open_ = false ∧ t.cmd.cdw.pos = s.cmd.cdw.pos + 1 ∧ t.bus = s.wrote b)) ∧
  (∀ (b : BusReq) (addr e k : Nat) (s : State), s.grants b true false (.global 1 0xC0) → b.size8 = true →
    s.cdwOpen = true → s.cmd.cdw.outward = false → s.cmd.cdw.buf = [] → s.cmd.cdw.atBank = false → s.cmd.cdw.failed = none → 0 < s.cmd.cdw.left →
    s.cmd.cdw.xfer = some (.load addr) → inkAt addr = .record e k → s.isStale e = false →
    let u : State := { s.entered with
      bus := s.wrote b
      cmd := { s.cmd with
        cdw := { s.cmd.cdw with pos := s.cmd.cdw.pos + 1, left := s.cmd.cdw.left - 1, last := s.tick, atBank := true,
                                xfer := some (.load (addr + 8)) } } }
    let o : Nat × Order := (e, .word (s.cmd.cdw.owner.getD 0) s.cmd.cdw.q k b.data)
    (s.bankFull e = true → exec (.cdwWrite b) s = .next { u with waiting := s.waiting ++ [o] }) ∧
    (s.bankFull e = false → s.withdrawing e = true → exec (.cdwWrite b) s = .next { u with parked := s.parked ++ [o] })) ∧
  (∀ (b : BusReq) (s : State), s.grants b true false (.global 1 0xC0) → b.size8 = true →
    s.cdwOpen = true → s.cmd.cdw.outward = false → s.cmd.cdw.buf.length = 64 →
    ∃ t, exec (.cdwWrite b) s = .next t ∧ t.bus = s.busAfter b b.posted false 1 0 ∧ t.cmd.cdw.open_ = false ∧
      (t.queue s.cmd.cdw.q).proto = true) ∧
  (∀ (b : BusReq) (s : State), s.grants b true false (.global 1 0xC0) → b.size8 = true →
    s.cdwOpen = false ∨ s.cmd.cdw.outward = true →
    exec (.cdwWrite b) s = .next { s.entered with bus := s.busAfter b b.posted false 1 0 }) ∧
  (∀ (b : BusReq) (w : BitVec 64) (ws : List (BitVec 64)) (s : State), s.grants b false false (.global 1 0xC0) →
    b.size8 = true → s.cdwOpen = true → s.cmd.cdw.outward = true → s.cmd.cdw.xfer = some (.words (w :: ws)) →
    ∃ t, exec (.cdwRead b) s = .next t ∧ t.bus = s.busAfter b false false 0 w ∧
      (1 < s.cmd.cdw.left → t.cmd.cdw = { s.cmd.cdw with pos := s.cmd.cdw.pos + 1, left := s.cmd.cdw.left - 1, last := s.tick,
                                                          xfer := some (.words ws) }) ∧
      (s.cmd.cdw.left ≤ 1 → t.cmd.cdw.open_ = false ∧ t.cmd.cdw.xfer = none ∧ t.cmd.cdw.pos = s.cmd.cdw.pos + 1) ∧
      t = { s.entered with bus := t.bus, cmd := t.cmd }) ∧
  (∀ (b : BusReq) (addr e k : Nat) (s : State), s.grants b false false (.global 1 0xC0) → b.size8 = true →
    s.cdwOpen = true → s.cmd.cdw.outward = true → s.cmd.cdw.xfer = some (.bulk addr) → inkAt addr = .record e k →
    s.bankFull e = true →
    exec (.cdwRead b) s = .next { s.entered with
      bus := s.busAfter b false false 2 0
      cmd := { s.cmd with cdw := { s.cmd.cdw with last := s.tick } } }) ∧
  (∀ (b : BusReq) (s : State), s.grants b false false (.global 1 0xC0) → b.size8 = true →
    s.cdwOpen = false ∨ s.cmd.cdw.outward = false →
    exec (.cdwRead b) s = .next { s.entered with bus := s.busAfter b false false 1 0 }) ∧
  (∀ (d : Deferred) (addr : Nat) (s : State), s.cdwOpen = true → s.tb.good = true →
    s.cmd.cdw.last + 2 ^ 24 ≤ s.tick → s.cmd.cdw.xfer = some (.load addr) → s.cmd.deferred = [d] →
    s.cmd.cdw.owner = some d.id → (s.queue d.q).late = [] → (s.queue d.q).rpl.length < 511 →
    ∃ t, exec .cdwAbandonTimeout s = .next t ∧ t.cmd.cdw.open_ = false ∧ t.cmd.cdw.owner = none ∧ t.cmd.deferred = [] ∧
      (t.queue d.q).rpl = (s.queue d.q).rpl ++
        [({ tag := d.tag, status := stTimeout, opcode := d.opcode, second := true, result := [w64 s.cmd.cdw.pos] } : Reply).word0
          (wrap 16 ((s.queue d.q).cseq + 1)), w64 s.cmd.cdw.pos] ∧
      (t.queue d.q).cseq = wrap 16 ((s.queue d.q).cseq + 1)) ∧
  (∀ s : State, s.cdwOpen = false ∨ s.tb.good = false ∨ s.tick < s.cmd.cdw.last + 2 ^ 24 →
    exec .cdwAbandonTimeout s = .next s)

/-- R286 to R297, R318, R344, R345: words through the open window. CDW_READ of a save gives word 0 and word 1 of each source entry, then the
trailer and the CRC, with which the window closes; a moving save takes the pending event of an entry with its last word, as DELIVERED and
in HUSK_OUT, and another save leaves the source. CDW_WRITE of a restore: header word 0 of a full husk creates the instance, FROZEN and
RESTORING; a translation entry is written at its place, rebased; an entry of a pending source at a fresh destination is pending and FROZEN
there, ACCEPTED; at one that is not fresh the window closes and the destroy sweep starts. Of BULK_LOAD: a translation entry, a page word
and a record word, of which only the routing is stored. Of a firmware patch: words gather, and the last one loads a correct image,
answered OK, and leaves the patch as it was where the image is wrong. The words that only gather change nothing but the window; the order
of the effects of one word is the model's choice (assumption log 21), as are the response's time (log 25) and log 68. It rests on
assumption log 40, 41, 42, 64 and 88, the model's choices. -/
def Obligations.WindowWords : Prop :=
  (∀ (b : BusReq) (h : HuskOut) (s : State), s.grants b false false (.global 1 0xC0) → b.size8 = true → s.cdwOpen = true →
    s.cmd.cdw.outward = true → s.cmd.cdw.xfer = some (.huskOut h) → h.version = 2 → h.pre = [] →
    let next : Nat → HuskOut → Cdw := fun w h' => { s.cmd.cdw with
      pos := s.cmd.cdw.pos + 1, left := s.cmd.cdw.left - 1, last := s.tick,
      xfer := some (.huskOut { h' with crc := w32 (crcWord h.crc.toNat w) }) }
    (∀ (e : Nat) (es : List Nat), 1 < s.cmd.cdw.left → h.half = none → h.srcs = e :: es → s.bankFull e = false →
      h.move = false ∨ s.withdrawing e = false →
      let w := (s.source e).huskWord0 e
      exec (.cdwRead b) s = .next { s.entered with
        bus := s.busAfter b false false 0 w
        cmd := { s.cmd with cdw := next w.toNat { h with srcs := es, half := some (e, w) } } }) ∧
    (∀ (e : Nat) (w0 : BitVec 64), 1 < s.cmd.cdw.left → h.half = some (e, w0) → s.bankFull e = false → h.move = false →
      let w := (s.source e).huskWord1
      exec (.cdwRead b) s = .next { s.entered with
        bus := s.busAfter b false false 0 w
        cmd := { s.cmd with cdw := next w.toNat { h with
          half := none, carried := h.carried + fld w0 20 2 % 2, active := h.active + fld w0 20 2 / 2 } } }) ∧
    (∀ (e : Nat) (w0 : BitVec 64), 1 < s.cmd.cdw.left → h.half = some (e, w0) → s.bankFull e = false → h.move = true →
      s.withdrawing e = false → fld w0 20 2 = 1 → (s.source e).st = .pending → (s.source e).place = .unplaced →
      (s.source e).drain = false → s.isStale e = false →
      ∃ t, exec (.cdwRead b) s = .next t ∧ t.bus = s.busAfter b false false 0 (s.source e).huskWord1 ∧
        (t.source e).st = .inactive ∧ t.ldg.block = s.ldg.block.move .deliver ∧
        (t.ctx (s.source e).inst).huskOut = wrap 32 ((s.ctx (s.source e).inst).huskOut + 1) ∧
        (∀ x, x ≠ e → t.source x = s.source x) ∧ t.tgts = s.tgts) ∧
    (1 < s.cmd.cdw.left → h.half = none → h.srcs = [] → h.tail = 0 →
      let w := w64 (pack [(0, h.carried), (32, h.active)])
      exec (.cdwRead b) s = .next { s.entered with
        bus := s.busAfter b false false 0 w, cmd := { s.cmd with cdw := next w.toNat { h with tail := 1 } } }) ∧
    (s.cmd.cdw.left = 1 → h.half = none → h.srcs = [] → h.tail = 1 →
      ∃ t, exec (.cdwRead b) s = .next t ∧ t.bus = s.busAfter b false false 0 (w64 (h.crc.toNat ^^^ 0xFFFFFFFF)) ∧
        t.cmd.cdw.open_ = false ∧ t.cmd.cdw.xfer = none ∧ t.ctx h.inst = { s.ctx h.inst with saving := false } ∧
        (∀ i, i ≠ h.inst → t.ctx i = s.ctx i) ∧ t.src = s.src ∧ t.ldg = s.ldg)) ∧
  (∀ (b : BusReq) (h : HuskIn) (s : State), s.grants b true false (.global 1 0xC0) → b.size8 = true → s.cdwOpen = true →
    s.cmd.cdw.outward = false → s.cmd.cdw.buf = [] → s.cmd.cdw.atBank = false → s.cmd.cdw.failed = none →
    s.cmd.cdw.xfer = some (.huskIn h) → h.delta = false → h.words.length < 3 ∨ 0 < s.cmd.cdw.left →
    let d := huskHead h.words
    let n := h.words.length
    (n = 0 → fld b.data 0 16 = 0x4B48 → fld b.data 16 8 = 2 → flag b.data 24 = false →
      ∃ t, exec (.cdwWrite b) s = .next t ∧ t.bus = s.wrote b ∧
        (t.ctx h.inst).created = true ∧ (t.ctx h.inst).frozen = true ∧ (t.ctx h.inst).phase = .restoring ∧
        (t.ctx h.inst).pageBase = h.pageBase ∧ (t.ctx h.inst).originBlock = fld b.data 26 6 ∧
        (t.ctx h.inst).originInst = fld b.data 32 9 ∧ (t.ctx h.inst).hseq = fld b.data 41 8 ∧
        (∀ i, i ≠ h.inst → t.ctx i = s.ctx i) ∧ t.cmd.cdw.xfer = some (.huskIn { h with words := [b.data] }) ∧
        t.cmd.cdw.open_ = true ∧ t.src = s.src ∧ t.trans = s.trans ∧ t.pages = s.pages) ∧
    (d.version = 2 → 8 ≤ n → d.transAt ≤ n → n < d.groupAt → n + 1 < d.total →
      ∃ t, exec (.cdwWrite b) s = .next t ∧ t.bus = s.wrote b ∧
        t.transEntry (h.transBase + (n - d.transAt)) =
          { transOf b.data with mid := ((transOf b.data).mid + h.midDelta) % 262144 } ∧
        (∀ x, x ≠ h.transBase + (n - d.transAt) → t.transEntry x = s.transEntry x) ∧
        t.cmd.cdw.xfer = some (.huskIn { h with words := h.words ++ [b.data] }) ∧
        t = { s.entered with bus := t.bus, cmd := t.cmd, trans := t.trans }) ∧
    (∀ e : Nat, d.version = 2 → 8 ≤ n → d.srcAt ≤ n → n < d.trailerAt → (n - d.srcAt) % 2 = 1 →
      let x := huskSrc 2 (h.words.getD (n - 1) 0) b.data
      h.placeEid x.eid = e → x.ok = true → s.bankFull e = false → s.withdrawing e = false → s.isStale e = false →
      ((s.source e).fresh = true → x.state = 1 →
        ∃ t, exec (.cdwWrite b) s = .next t ∧ (t.source e).st = .pending ∧ (t.source e).held = { frozen := true } ∧
          (t.source e).inst = h.inst ∧ (t.source e).en = x.en ∧ (t.source e).payload = x.payload ∧
          (t.source e).vector = x.vector ∧ (t.source e).prio = x.prio ∧ (t.source e).stamp = s.tick ∧
          t.ldg.block = s.ldg.block.move .accept ∧ (t.ctx h.inst).frozenList = (s.ctx h.inst).frozenList ++ [e] ∧
          (∀ y, y ≠ e → t.source y = s.source y) ∧ t.tgts = s.tgts) ∧
      ((s.source e).fresh = false →
        ∃ t, exec (.cdwWrite b) s = .next t ∧ t.cmd.cdw.open_ = false ∧ t.src = s.src ∧ t.ldg = s.ldg ∧
          t.sweeping (.destroy (Fin.ofNat 512 h.inst)) = true ∧ (t.ctx h.inst).en = false ∧
          (∃ x ∈ t.cmd.reverts, x.inst = h.inst ∧ x.failed = some (0x18, n))))) ∧
  (∀ (b : BusReq) (addr : Nat) (s : State), s.grants b true false (.global 1 0xC0) → b.size8 = true → s.cdwOpen = true →
    s.cmd.cdw.outward = false → s.cmd.cdw.buf = [] → s.cmd.cdw.atBank = false → s.cmd.cdw.failed = none → 1 < s.cmd.cdw.left →
    s.cmd.cdw.xfer = some (.load addr) →
    let c : Cdw := { s.cmd.cdw with pos := s.cmd.cdw.pos + 1, left := s.cmd.cdw.left - 1, last := s.tick,
                                    xfer := some (.load (addr + 8)) }
    (∀ n : Nat, inkAt addr = .trans n → s.bankFull n = false →
      ∃ t, exec (.cdwWrite b) s = .next t ∧ t.transEntry n = transOf b.data ∧
        (∀ x, x ≠ n → t.transEntry x = s.transEntry x) ∧
        t = { s.entered with bus := s.wrote b, trans := t.trans, cmd := { s.cmd with cdw := c } }) ∧
    (∀ n k : Nat, inkAt addr = .page n k → s.bankFull n = false →
      ∃ t, exec (.cdwWrite b) s = .next t ∧
        t.page n = (if k = 0 then (s.page n).load0 b.data else (s.page n).load1 b.data) ∧
        (∀ x, x ≠ n → t.page x = s.page x) ∧
        t = { s.entered with bus := s.wrote b, pages := t.pages, cmd := { s.cmd with cdw := c } }) ∧
    (∀ e o : Nat, inkAt addr = .record e 1 → s.cmd.cdw.owner = some o → s.bankFull e = false → s.withdrawing e = false → s.isStale e = false →
      (s.source e).st = .inactive → (s.source e).place = .unplaced → (s.source e).held = {} →
      ∃ t, exec (.cdwWrite b) s = .next t ∧ t.source e = { s.source e with
          payload := 0, group := fld b.data 32 16, vector := fld b.data 48 8, prio := fld b.data 56 6,
          changes := (t.source e).changes } ∧
        (∀ x, x ≠ e → t.source x = s.source x) ∧ t.ldg = s.ldg ∧ t.cmd = { s.cmd with cdw := c } ∧ t.tgts = s.tgts)) ∧
  (∀ (b : BusReq) (ws : List (BitVec 64)) (persist : Bool) (s : State), s.grants b true false (.global 1 0xC0) →
    b.size8 = true → s.cdwOpen = true → s.cmd.cdw.outward = false → s.cmd.cdw.buf = [] → s.cmd.cdw.atBank = false →
    s.cmd.cdw.failed = none → s.cmd.cdw.xfer = some (.patch ws persist) →
    (1 < s.cmd.cdw.left →
      exec (.cdwWrite b) s = .next { s.entered with
        bus := s.wrote b
        cmd := { s.cmd with cdw := { s.cmd.cdw with pos := s.cmd.cdw.pos + 1, left := s.cmd.cdw.left - 1, last := s.tick,
                                                    xfer := some (.patch (ws ++ [b.data]) persist) } } }) ∧
    (s.cmd.cdw.left = 1 → fld ((ws ++ [b.data]).getD 0 0) 32 32 = ws.length + 1 → patchOk (ws ++ [b.data]) = true →
      ∃ t, exec (.cdwWrite b) s = .next t ∧ t.cmd.patch = some (patchOf (ws ++ [b.data]) 0) ∧ t.cmd.patchFail = false ∧
        t.cmd.cdw.open_ = false ∧ (persist = false → t.rcd.patchA = s.rcd.patchA ∧ t.rcd.patchBusy = s.rcd.patchBusy) ∧
        (persist = true → s.rcd.patchBusy = none → s.rcd.patchWait = [] → t.rcd.patchBusy.isSome = true)) ∧
    (s.cmd.cdw.left = 1 → patchOk (ws ++ [b.data]) = false ∨ fld ((ws ++ [b.data]).getD 0 0) 32 32 ≠ ws.length + 1 →
      ∃ t, exec (.cdwWrite b) s = .next t ∧ t.cmd.patch = s.cmd.patch ∧ t.cmd.cdw.open_ = false ∧ t.bus = s.wrote b ∧
        ({ s.entered with bus := t.bus }).sameButReply t))

/-! ### Commands in packets -/

/-- R321, R322: ECHO without FENCE returns its words. With FENCE it is deferred behind the deferred commands of its queue; where its queue
has none it gives its first and its second reply at once; with 16 deferred it is answered BUSY. QUERY_CAPS returns its eight words.
None of them changes anything but the queue and what its reply raises. -/
def Obligations.EchoAndCaps : Prop :=
  (∀ (q : Fin 8) (p : Packet) (s : State), s.runs q.val 0x01 p p.words.length → hdrFlag p.hdr 0 = false →
    ∃ t, exec (.echo q) s = .next t ∧ s.answered t q.val p stOk p.words ∧ s.sameButReply t) ∧
  (∀ (q : Fin 8) (p : Packet) (x : Deferred) (s : State), s.runs q.val 0x01 p 0 → hdrFlag p.hdr 0 = true →
    s.deferFull q.val = false → (∀ d ∈ s.cmd.deferred, d.isFence = false) → x ∈ s.cmd.deferred → x.q = q.val →
    x.id < s.cmd.nextId →
    ∃ t, exec (.echo q) s = .next t ∧ s.deferred t q.val p false (.fence p.words) [] ∧ s.sameButReply t) ∧
  (∀ (q : Fin 8) (p : Packet) (s : State), s.runs q.val 0x01 p (p.words.length + 1) → hdrFlag p.hdr 0 = true →
    s.deferFull q.val = false → (∀ d ∈ s.cmd.deferred, d.isFence = false ∧ d.q ≠ q.val ∧ d.id < s.cmd.nextId) →
    ∃ t, exec (.echo q) s = .next t ∧ t.cmd.deferred = s.cmd.deferred ∧
      (t.queue q.val).cseq = wrap 16 (wrap 16 ((s.queue q.val).cseq + 1) + 1) ∧
      (t.queue q.val).rpl = (s.queue q.val).rpl ++
        [({ tag := hdrTag p.hdr, status := stDeferred, opcode := hdrOpcode p.hdr, second := false, result := [] } : Reply).word0
          (wrap 16 ((s.queue q.val).cseq + 1)),
         ({ tag := hdrTag p.hdr, status := stOk, opcode := hdrOpcode p.hdr, second := true, result := p.words } : Reply).word0
          (wrap 16 (wrap 16 ((s.queue q.val).cseq + 1) + 1))] ++ p.words ∧ s.sameButReply t) ∧
  (∀ (q : Fin 8) (p : Packet) (s : State), s.runs q.val 0x01 p 0 → hdrFlag p.hdr 0 = true → s.deferFull q.val = true →
    ∃ t, exec (.echo q) s = .next t ∧ s.answered t q.val p stBusy [] ∧ s.sameButReply t) ∧
  (∀ (q : Fin 8) (p : Packet) (s : State), s.runs q.val 0x02 p 8 →
    ∃ t, exec (.queryCaps q) s = .next t ∧ s.answered t q.val p stOk s.caps ∧ s.sameButReply t)

/-- R103, R105, R119, R323, R324: SRC_CONFIG writes the selected fields of a DISABLED, Inactive source at its bank and returns the two
words of its record; a parameter out of range is answered BAD_PARAM, and a source that it may not set gives the status of the rule. Its
order is parked while the source has a withdrawal, and waits while its bank is full. SRC_READ returns the words of the sources that
it names, of a guest's queue only its own, and changes no target. -/
def Obligations.SourceConfigAndRead : Prop :=
  (∀ (q : Fin 8) (p : Packet) (e : Nat) (s : State), s.runs q.val 0x10 p 2 → e = fld (p.word 1) 0 20 →
    s.srcSetOk p (srcSet p).1 = true → s.isStale e = false → s.withdrawing e = false → s.bankFull e = false →
    s.configRefused q.val e (srcSet p).1 = none →
    ∃ t, exec (.srcConfig q) s = .next t ∧
      s.answered t q.val p (okOr (srcSet p).2) [(t.source e).word0, (t.source e).word1] ∧
      (t.source e).vector = (srcSet p).1.vector.getD (s.source e).vector ∧
      (t.source e).prio = (srcSet p).1.prio.getD (s.source e).prio ∧
      (t.source e).group = ((srcSet p).1.group.map (·.1)).getD (s.source e).group ∧
      (t.source e).groupEn = ((srcSet p).1.group.map (·.2)).getD (s.source e).groupEn ∧
      (t.source e).target = (srcSet p).1.target.getD (s.source e).target ∧
      (t.source e).inst = (srcSet p).1.inst.getD (s.source e).inst ∧
      (t.source e).st = .inactive ∧ (t.source e).en = false) ∧
  (∀ (q : Fin 8) (p : Packet) (e st : Nat) (s : State), s.runs q.val 0x10 p 0 → e = fld (p.word 1) 0 20 →
    s.srcSetOk p (srcSet p).1 = true → s.isStale e = false → s.withdrawing e = false → s.bankFull e = false →
    s.configRefused q.val e (srcSet p).1 = some st →
    ∃ t, exec (.srcConfig q) s = .next t ∧ s.answered t q.val p st [] ∧ t.tgts = s.tgts ∧ t.groups = s.groups ∧
      t.insts = s.insts) ∧
  (∀ (q : Fin 8) (p : Packet) (s : State), s.runs q.val 0x10 p 0 → s.srcSetOk p (srcSet p).1 = false →
    ∃ t, exec (.srcConfig q) s = .next t ∧ s.answered t q.val p stBadParam [] ∧ s.sameButReply t) ∧
  (∀ (q : Fin 8) (p : Packet) (e : Nat) (s : State), s.runs q.val 0x10 p 2 → e = fld (p.word 1) 0 20 →
    s.srcSetOk p (srcSet p).1 = true → s.isStale e = false →
    (s.bankFull e = true →
      ∃ t, exec (.srcConfig q) s = .next t ∧ (t.part q.val).isSome = true ∧
        t = { s with cmd := t.cmd, waiting := s.waiting ++ [(e, .command q.val)] }) ∧
    (s.bankFull e = false → s.withdrawing e = true →
      ∃ t, exec (.srcConfig q) s = .next t ∧ (t.part q.val).isSome = true ∧
        t = { s with cmd := t.cmd, parked := s.parked ++ [(e, .command q.val)] })) ∧
  (∀ (q : Fin 8) (p : Packet) (s : State), s.runs q.val 0x11 p 128 → zeroFrom (p.word 1) 27 = true →
    fld (p.word 1) 0 20 < 0x41000 →
    (∀ e ∈ readRun (p.word 1), s.isStale e = false ∧ s.withdrawing e = false ∧ s.bankFull e = false ∧ s.owns q.val e = true) →
    let cs := clampIf 1 20 7 (fld (p.word 1) 20 7) (near 1 64 (fld (p.word 1) 20 7))
    let u := s.recordClamps q.val 0x11 cs
    ∃ t, exec (.srcRead q) s = .next t ∧
      s.answered t q.val p (okOr cs) ((readRun (p.word 1)).flatMap fun e => [(u.source e).word0, (u.source e).word1]) ∧
      t.tgts = s.tgts ∧ t.groups = s.groups ∧ t.insts = s.insts) ∧
  (∀ (q : Fin 8) (p : Packet) (s : State), s.runs q.val 0x11 p 0 → zeroFrom (p.word 1) 27 = true →
    fld (p.word 1) 0 20 < 0x41000 → (∃ e ∈ readRun (p.word 1), s.owns q.val e = false) →
    ∃ t, exec (.srcRead q) s = .next t ∧ s.answered t q.val p stNotOwner [] ∧ s.sameButReply t)

/-- R86, R116, R118, R325, R326: SRC_ENABLE and SRC_DISABLE of one source. A source enabled or disabled at once counts as completed in
the reply; one that is draining, in service or presented has the command deferred, a presented event being withdrawn first. A run
outside the sources is answered BAD_PARAM, a frozen instance's source BUSY. SRC_INJECT is one pulse at its source, and its reply tells
whether it was new, merged or refused; outside TEST another source than a software event is answered DENIED, and with D6 held BUSY. -/
def Obligations.SourceEnableDisableAndInject : Prop :=
  (∀ (q : Fin 8) (p : Packet) (e : Nat) (s : State), s.runs q.val 0x12 p 1 → p.words.flatMap runEids = [e] →
    p.words.all runOk = true → s.isStale e = false → s.withdrawing e = false → s.bankFull e = false → s.owns q.val e = true →
    s.frozenAt e = false → (s.source e).en = false → (s.source e).drain = false →
    ∃ t, exec (.srcEnable q) s = .next t ∧ s.answered t q.val p (okOr (runClamps p)) [pairWord 1 0] ∧
      (t.source e).en = true ∧ (t.source e).drain = false) ∧
  (∀ (q : Fin 8) (p : Packet) (e : Nat) (s : State), s.runs q.val 0x12 p 1 → p.words.flatMap runEids = [e] →
    p.words.all runOk = true → s.deferFull q.val = false → s.isStale e = false → s.withdrawing e = false →
    s.bankFull e = false → s.owns q.val e = true → s.frozenAt e = false → (s.source e).drain = true →
    ∃ t, exec (.srcEnable q) s = .next t ∧
      s.deferred t q.val p (!(runClamps p).isEmpty) (.enableSources [e] [] 0 0) [pairWord 0 1] ∧
      (t.source e).en = true ∧ (t.source e).drain = true) ∧
  (∀ (q : Fin 8) (p : Packet) (e : Nat) (s : State), s.runs q.val 0x13 p 1 → p.words.flatMap runEids = [e] →
    p.words.all runOk = true → s.isStale e = false → s.withdrawing e = false → s.bankFull e = false → s.owns q.val e = true →
    s.frozenAt e = false → (s.source e).en = true → (s.source e).drain = false → (s.source e).st = .inactive →
    ∃ t, exec (.srcDisable q) s = .next t ∧ s.answered t q.val p (okOr (runClamps p)) [pairWord 1 0] ∧
      (t.source e).en = false ∧ (t.source e).st = .inactive ∧ t.tgts = s.tgts) ∧
  (∀ (q : Fin 8) (p : Packet) (e : Nat) (s : State), s.runs q.val 0x13 p 1 → p.words.flatMap runEids = [e] →
    p.words.all runOk = true → s.deferFull q.val = false → s.isStale e = false → s.withdrawing e = false →
    s.bankFull e = false → s.owns q.val e = true → s.frozenAt e = false → (s.source e).en = true →
    (s.source e).drain = false → (s.source e).st = .active →
    ∃ t, exec (.srcDisable q) s = .next t ∧
      s.deferred t q.val p (!(runClamps p).isEmpty) (.disableSources [e] 0) [pairWord 0 1] ∧
      (t.source e).en = false ∧ (t.source e).drain = true ∧ (t.source e).inService = true) ∧
  (∀ (q : Fin 8) (p : Packet) (e : Nat) (s : State), s.runs q.val 0x13 p 1 → p.words.flatMap runEids = [e] →
    p.words.all runOk = true → s.deferFull q.val = false → s.isStale e = false → s.bankFull e = false →
    s.owns q.val e = true → s.frozenAt e = false → (s.source e).en = true → (s.source e).drain = false →
    (s.source e).st = .pending → (s.source e).place = .presented →
    ∃ t, exec (.srcDisable q) s = .next t ∧
      s.deferred t q.val p (!(runClamps p).isEmpty) (.disableSources [e] 0) [pairWord 0 1] ∧ (t.source e).drain = true ∧
      (t.source e).place = .withdrawing ∧ (t.source e).wcause = .disable) ∧
  (∀ (q : Fin 8) (p : Packet) (c : Instr) (op : Nat) (s : State),
    (c = .srcEnable q ∧ op = 0x12 ∨ c = .srcDisable q ∧ op = 0x13) → s.runs q.val op p 0 → s.deferFull q.val = false →
    (p.words.all runOk = false →
      ∃ t, exec c s = .next t ∧ s.answered t q.val p stBadParam [] ∧ s.sameButReply t) ∧
    (p.words.all runOk = true → (∀ e ∈ p.words.flatMap runEids, s.owns q.val e = true) →
      (∃ e ∈ p.words.flatMap runEids, s.frozenAt e = true) →
      ∃ t, exec c s = .next t ∧ s.answered t q.val p stBusy [] ∧ s.sameButReply t)) ∧
  (∀ (q : Fin 8) (p : Packet) (e : Nat) (s : State), s.runs q.val 0x14 p 1 → e = fld (p.word 1) 0 20 →
    zeroFrom (p.word 1) 20 = true → e < 0x41000 → s.mode.mode = .test ∨ isSoftware e = true → s.intakeShut = false →
    s.isStale e = false → s.withdrawing e = false → s.bankFull e = false → s.owns q.val e = true → s.frozenAt e = false →
    ∃ t, exec (.srcInject q) s = .next t ∧ s.answered t q.val p stOk [w64 (s.outcome e)] ∧
      ((s.source e).st = .inactive → s.outcome e = 0 → (t.source e).pend = true ∧ (t.source e).stamp = s.tick) ∧
      ((s.source e).pend = true → (t.source e).pend = true ∧ (t.source e).stamp = (s.source e).stamp) ∧
      t.tgts = s.tgts ∧ t.trans = s.trans ∧ t.pages = s.pages) ∧
  (∀ (q : Fin 8) (p : Packet) (e : Nat) (s : State), s.runs q.val 0x14 p 0 → e = fld (p.word 1) 0 20 →
    zeroFrom (p.word 1) 20 = true → e < 0x41000 →
    (s.mode.mode ≠ .test → isSoftware e = false →
      ∃ t, exec (.srcInject q) s = .next t ∧ s.answered t q.val p stDenied [] ∧ s.sameButReply t) ∧
    (s.mode.mode = .test ∨ isSoftware e = true → s.owns q.val e = true → s.isHeld 6 = true →
      ∃ t, exec (.srcInject q) s = .next t ∧ s.answered t q.val p stBusy [] ∧ s.sameButReply t))

/-- R88, R235, R247, R248, R327 to R331: MAP_DEVICE writes a page entry, at once VALID, or with LOAD after its translation entries have come
through the window, which it opens; a run beyond the table is answered NO_SPACE. UNMAP_DEVICE clears VALID and RELAY, with its flag also
VALID of the page's translation entries; a relay page of a sealed configuration is answered SEALED. RELAY_CONFIG sets or clears RELAY
alone; a page that is not VALID is answered BAD_PARAM. LIG_CONFIG writes the selected settings of a group with no window open, and enables
it; a disable releases the held list with cause 5 and defers while its batch runs; a refused one gives the status of the rule. LIG_FLUSH
of a group releases its held list with cause 4, and changes nothing where the list is empty; with ALL, groups without members stay as they
are. Both wait for the repair of the list. It rests on assumption log 43, the model's choice. -/
def Obligations.PagesAndLigatureCommands : Prop :=
  (∀ (q : Fin 8) (p : Packet) (s : State), s.runs q.val 0x18 p 0 → s.deferFull q.val = false →
    zeroFrom (p.word 1) 21 = true → zeroFrom (p.word 3) 18 = true →
    s.pageParam (hdrInst p.hdr) (fld (p.word 1) 0 21) = true →
    (fld (p.word 2) 0 18 + mapWords (p.word 2) ≤ 262144 → s.husking (hdrInst p.hdr) = false →
      s.pageAway (hdrInst p.hdr) (fld (p.word 1) 0 21) = false → hdrFlag p.hdr 0 = false →
      ∃ t, exec (.mapDevice q) s = .next t ∧
        s.answered t q.val p (okOr (clampIf 2 18 12 (fld (p.word 2) 18 12) (mapStride (p.word 2)))) [] ∧
        t.page (s.pageEntry (hdrInst p.hdr) (fld (p.word 1) 0 21)) =
          mapEntry (s.page (s.pageEntry (hdrInst p.hdr) (fld (p.word 1) 0 21))) (p.word 2) (p.word 3) true ∧
        (∀ x, x ≠ s.pageEntry (hdrInst p.hdr) (fld (p.word 1) 0 21) → t.page x = s.page x) ∧ t.trans = s.trans) ∧
    (fld (p.word 2) 0 18 + mapWords (p.word 2) ≤ 262144 → s.husking (hdrInst p.hdr) = false →
      s.pageAway (hdrInst p.hdr) (fld (p.word 1) 0 21) = false → hdrFlag p.hdr 0 = true → s.cmd.cdw.owned = false →
      ∃ t, exec (.mapDevice q) s = .next t ∧ (t.page (s.pageEntry (hdrInst p.hdr) (fld (p.word 1) 0 21))).valid = false ∧
        s.deferred t q.val p (!(clampIf 2 18 12 (fld (p.word 2) 18 12) (mapStride (p.word 2))).isEmpty) .load [] ∧
        t.cmd.cdw.open_ = true ∧ t.cmd.cdw.outward = false ∧ t.cmd.cdw.left = mapWords (p.word 2) ∧ t.trans = s.trans) ∧
    (262144 < fld (p.word 2) 0 18 + mapWords (p.word 2) →
      ∃ t, exec (.mapDevice q) s = .next t ∧ s.answered t q.val p stNoSpace [] ∧ s.sameButReply t)) ∧
  (∀ (q : Fin 8) (p : Packet) (e : Nat) (s : State), s.runs q.val 0x19 p 0 →
    e = s.pageEntry (hdrInst p.hdr) (fld (p.word 1) 0 21) → zeroFrom (p.word 1) 21 = true →
    s.pageParam (hdrInst p.hdr) (fld (p.word 1) 0 21) = true → s.husking (hdrInst p.hdr) = false →
    s.pageAway (hdrInst p.hdr) (fld (p.word 1) 0 21) = false →
    ((s.page e).relay = false ∨ s.cfg.sealed_ = false →
      ∃ t, exec (.unmapDevice q) s = .next t ∧ s.answered t q.val p stOk [] ∧
        t.page e = { s.page e with valid := false, relay := false } ∧ (∀ x, x ≠ e → t.page x = s.page x) ∧
        (hdrFlag p.hdr 0 = false → t.trans = s.trans) ∧
        (hdrFlag p.hdr 0 = true → ∀ x, t.transEntry x =
          if (s.page e).tbase ≤ x ∧ x < (s.page e).tbase + ((s.page e).fnM1 + 1) * (s.page e).tstride then
            { s.transEntry x with valid := false } else s.transEntry x)) ∧
    ((s.page e).relay = true → s.cfg.sealed_ = true →
      ∃ t, exec (.unmapDevice q) s = .next t ∧ s.answered t q.val p stSealed [] ∧ s.sameButReply t)) ∧
  (∀ (q : Fin 8) (p : Packet) (e : Nat) (s : State), s.runs q.val 0x70 p 0 →
    e = s.pageEntry (hdrInst p.hdr) (fld (p.word 1) 0 21) → zeroFrom (p.word 1) 22 = true →
    s.pageParam (hdrInst p.hdr) (fld (p.word 1) 0 21) = true → s.pageAway (hdrInst p.hdr) (fld (p.word 1) 0 21) = false →
    ((s.page e).valid = true →
      ∃ t, exec (.relayConfig q) s = .next t ∧ s.answered t q.val p stOk [] ∧
        t.page e = { s.page e with relay := flag (p.word 1) 21 } ∧ (∀ x, x ≠ e → t.page x = s.page x)) ∧
    ((s.page e).valid = false →
      ∃ t, exec (.relayConfig q) s = .next t ∧ s.answered t q.val p stBadParam [] ∧ s.sameButReply t)) ∧
  (∀ (q : Fin 8) (p : Packet) (g : Nat) (s : State), s.runs q.val 0x20 p 0 → g = fld (p.word 1) 0 16 →
    s.deferFull q.val = false → zeroFrom (p.word 1) 16 = true → zeroFrom (p.word 2) 49 = true →
    (ligSet p).1.binding.all (fun v => (s.ctx v.2).created) = true →
    (s.ligRefused q.val g (ligSet p).1 = none → s.repairing (.moderated (Fin.ofNat 65536 g)) = false →
      (ligSet p).1.enable < 2 → (s.grp g).open_ = false → (s.grp g).drain = false →
      ∃ t, exec (.ligConfig q) s = .next t ∧ s.answered t q.val p (okOr (ligSet p).2) [] ∧
        t.grp g = { s.grp g with
          thresh := ((ligSet p).1.timing.map (·.1)).getD (s.grp g).thresh,
          timer := ((ligSet p).1.timing.map (·.2)).getD (s.grp g).timer,
          bypTgt := ((ligSet p).1.binding.map (·.1)).getD (s.grp g).bypTgt,
          inst := ((ligSet p).1.binding.map (·.2)).getD (s.grp g).inst,
          en := (s.grp g).en || (ligSet p).1.enable == 1 } ∧
        (∀ x, x ≠ g → t.grp x = s.grp x) ∧ t.tgts = s.tgts) ∧
    (s.ligRefused q.val g (ligSet p).1 = none → s.repairing (.moderated (Fin.ofNat 65536 g)) = false →
      (ligSet p).1.enable = 2 → (ligSet p).1.timing = none → (ligSet p).1.binding = none → (s.grp g).drain = false →
      (s.grp g).en = true → (s.grp g).held ≠ [] →
      ∃ t, exec (.ligConfig q) s = .next t ∧ s.deferred t q.val p (!(ligSet p).2.isEmpty) (.groupDisable g) [] ∧
        (t.grp g).en = false ∧ (t.grp g).drain = true ∧ (t.grp g).held = [] ∧ (t.grp g).lastCause = 5 ∧
        (∀ x, x ≠ g → t.grp x = s.grp x)) ∧
    (∀ st : Nat, s.ligRefused q.val g (ligSet p).1 = some st →
      ∃ t, exec (.ligConfig q) s = .next t ∧ s.answered t q.val p st [] ∧ s.sameButReply t) ∧
    (s.ligRefused q.val g (ligSet p).1 = none → s.repairing (.moderated (Fin.ofNat 65536 g)) = true →
      exec (.ligConfig q) s = .next s)) ∧
  (∀ (q : Fin 8) (p : Packet) (g : Nat) (s : State), s.runs q.val 0x21 p 0 → g = fld (p.word 1) 0 16 →
    zeroFrom (p.word 1) 16 = true → hdrFlag p.hdr 0 = false →
    (s.queue q.val).guest = false ∨ (s.grp g).inst = (s.queue q.val).bindInst →
    (s.repairing (.moderated (Fin.ofNat 65536 g)) = false → (s.grp g).en = true ∨ (s.grp g).drain = true →
      (s.grp g).held ≠ [] →
      ∃ t, exec (.ligFlush q) s = .next t ∧ s.answered t q.val p stOk [] ∧ (t.grp g).open_ = false ∧ (t.grp g).held = [] ∧
        (t.grp g).lastCause = 4 ∧ (t.grp g).lastSize = (s.grp g).held.length ∧
        (∃ b, (t.grp g).batches = (s.grp g).batches ++ [b] ∧ b.members = (s.grp g).held) ∧
        (∀ x, x ≠ g → t.grp x = s.grp x)) ∧
    (s.repairing (.moderated (Fin.ofNat 65536 g)) = false → (s.grp g).held = [] →
      ∃ t, exec (.ligFlush q) s = .next t ∧ s.answered t q.val p stOk [] ∧ s.sameButReply t) ∧
    (s.repairing (.moderated (Fin.ofNat 65536 g)) = true → exec (.ligFlush q) s = .next s)) ∧
  (∀ (q : Fin 8) (p : Packet) (s : State), s.runs q.val 0x21 p 0 → zeroFrom (p.word 1) 16 = true → hdrFlag p.hdr 0 = true →
    (∀ g, s.repairing (.moderated g) = false) →
    ∃ t, exec (.ligFlush q) s = .next t ∧ s.answered t q.val p stOk [] ∧
      (∀ g, (s.grp g).held = [] → t.grp g = s.grp g) ∧ t.tgts = s.tgts ∧ t.insts = s.insts)

/-- R165, R166, R185, R332, R333: TGT_CONFIG writes the settings that its flags select, after their clamps; a target of a clocked port or
a far target is otherwise as it was. A change of PATH or VIRT of a target that is not OFFLINE is answered BUSY, and bad parameters
BAD_PARAM. TGT_STATE online takes an OFFLINE target ONLINE at once and is deferred at a DRAINING one; offline takes an ONLINE one to
DRAINING, with its taker sweep at once where it presents nothing, and else withdraws what it presents first; both forms are deferred. A
query, and online of a target whose fault cause stands (BUSY), change nothing. -/
def Obligations.TargetCommands : Prop :=
  (∀ (q : Fin 8) (p : Packet) (n : Nat) (s : State), s.runs q.val 0x28 p 0 → n = fld (p.word 1) 0 11 → tgtSetOk p = true →
    ((s.tgtSet n p).1.path = (s.tgt n).path ∧ (s.tgtSet n p).1.virt = (s.tgt n).virt) ∨ (s.tgt n).svc = .offline →
    ∃ t, exec (.tgtConfig q) s = .next t ∧ s.answered t q.val p (okOr (s.tgtSet n p).2) [] ∧
      (t.tgt n).vbase = (s.tgtSet n p).1.vbase ∧ (t.tgt n).vshift = (s.tgtSet n p).1.vshift ∧
      (t.tgt n).path = (s.tgtSet n p).1.path ∧ (t.tgt n).blotVa = (s.tgtSet n p).1.blotVa ∧
      (t.tgt n).depEn = (s.tgtSet n p).1.depEn ∧ (t.tgt n).deputy = (s.tgtSet n p).1.deputy ∧
      (t.tgt n).virt = (s.tgtSet n p).1.virt ∧ (t.tgt n).far = (s.tgtSet n p).1.far ∧ (t.tgt n).svc = (s.tgt n).svc ∧
      (s.isNib2 n = false → (s.tgtSet n p).1.path = (s.tgt n).path →
        hdrFlag p.hdr 2 = false ∨ (s.tgt n).svc = .online ∨ (s.tgt n).svc = .draining →
        t.tgt n = (s.tgtSet n p).1 ∧ (∀ x, x ≠ n → t.tgt x = s.tgt x) ∧ t.groups = s.groups ∧ t.insts = s.insts)) ∧
  (∀ (q : Fin 8) (p : Packet) (n : Nat) (s : State), s.runs q.val 0x28 p 0 → n = fld (p.word 1) 0 11 →
    (tgtSetOk p = true → (s.tgtSet n p).1.path ≠ (s.tgt n).path ∨ (s.tgtSet n p).1.virt ≠ (s.tgt n).virt →
      (s.tgt n).svc ≠ .offline →
      ∃ t, exec (.tgtConfig q) s = .next t ∧ s.answered t q.val p stBusy [] ∧ s.sameButReply t) ∧
    (tgtSetOk p = false →
      ∃ t, exec (.tgtConfig q) s = .next t ∧ s.answered t q.val p stBadParam [] ∧ s.sameButReply t)) ∧
  (∀ (q : Fin 8) (p : Packet) (n : Nat) (s : State), s.runs q.val 0x29 p 1 → n = fld (p.word 1) 0 11 →
    zeroFrom (p.word 1) 13 = true → n < 1536 → s.deferFull q.val = false →
    (fld (p.word 1) 11 2 = 1 → (s.tgt n).svc = .offline →
      ∃ t, exec (.tgtState q) s = .next t ∧ s.answered t q.val p stOk (t.targetWord n) ∧ (t.tgt n).svc = .online ∧
        (t.tgt n).fcause = 0) ∧
    (fld (p.word 1) 11 2 = 1 → (s.tgt n).svc = .draining →
      ∃ t, exec (.tgtState q) s = .next t ∧ s.deferred t q.val p false (.targetOnline n) (t.targetWord n) ∧
        t.tgt n = { s.tgt n with onlineDefer := true }) ∧
    (fld (p.word 1) 11 2 = 2 → (s.tgt n).svc = .online → (s.tgt n).pres = none →
      ∃ t, exec (.tgtState q) s = .next t ∧ s.deferred t q.val p false (.targetOffline n) (t.targetWord n) ∧
        (t.tgt n).svc = .draining ∧ (t.tgt n).sweep = true ∧ (t.tgt n).spliceDue = false ∧
        t.sweeping (.taker (Fin.ofNat 1536 n)) = true) ∧
    (∀ e : Nat, fld (p.word 1) 11 2 = 2 → (s.tgt n).svc = .online → (s.tgt n).pres = some e → (s.source e).place = .presented →
      (s.source e).serving = n → s.isStale e = false →
      ∃ t, exec (.tgtState q) s = .next t ∧ s.deferred t q.val p false (.targetOffline n) (t.targetWord n) ∧
        (t.tgt n).svc = .draining ∧ (t.tgt n).spliceDue = true ∧ (t.tgt n).wdrBusy = true ∧
        (t.source e).place = .withdrawing ∧ (t.source e).wcause = .preemption ∧
        t.sweeping (.taker (Fin.ofNat 1536 n)) = s.sweeping (.taker (Fin.ofNat 1536 n))) ∧
    (fld (p.word 1) 11 2 = 2 → (s.tgt n).svc = .offline →
      ∃ t, exec (.tgtState q) s = .next t ∧ s.answered t q.val p stOk (s.targetWord n) ∧ s.sameButReply t) ∧
    (fld (p.word 1) 11 2 = 0 →
      ∃ t, exec (.tgtState q) s = .next t ∧ s.answered t q.val p stOk (s.targetWord n) ∧ s.sameButReply t) ∧
    (fld (p.word 1) 11 2 = 1 → (s.tgt n).svc = .faulted → s.causeStands n = true →
      ∃ t, exec (.tgtState q) s = .next t ∧ s.answered t q.val p stBusy (s.targetWord n) ∧ s.sameButReply t))

/-! ### Instances and husks -/

/-- R254 to R256, R264, R269, R270, R334: INST_CREATE makes a context with the settings given, after their clamps, from one that is free; one
that is created is answered BUSY, a run of pages that does not fit NO_SPACE, and bad parameters BAD_PARAM. INST_SHARE replaces the
settings that its flags select, after the clamps of R256 field by field, takes a DISABLED instance to ENABLED with a new generation, and
an ENABLED one to DRAINING with its sweep, the command being deferred; an enable of a DRAINING one is deferred. A FREE instance is
answered BAD_PARAM, and one with a save or restore under way BUSY. It rests on assumption log 33, the model's choice. -/
def Obligations.InstanceSettings : Prop :=
  (∀ (q : Fin 8) (p : Packet) (i : Nat) (s : State), s.runs q.val 0x30 p 0 → i = hdrInst p.hdr →
    (i ≠ 0 → zeroFrom (p.word 1) 29 = true → zeroFrom (p.word 2) 48 = true → zeroFrom (p.word 3) 27 = true →
      (s.ctx i).created = false → s.runFits i (fld (p.word 1) 0 14) (min (fld (p.word 1) 14 15) 16384) = true →
      ∃ t, exec (.instCreate q) s = .next t ∧
        s.answered t q.val p (okOr (clampIf 1 14 15 (fld (p.word 1) 14 15) (min (fld (p.word 1) 14 15) 16384) ++
          (rateSet (p.word 2) 2).2 ++ (weightSet (p.word 3) 3).2 ++ (quotaSet (p.word 3) 3).2)) [] ∧
        t.ctx i = (s.ctx i).fresh s.tick (fld (p.word 1) 0 14) (min (fld (p.word 1) 14 15) 16384) (rateSet (p.word 2) 2).1
          (weightSet (p.word 3) 3).1 (quotaSet (p.word 3) 3).1 ∧
        (∀ j, j ≠ i → t.ctx j = s.ctx j) ∧ t.tgts = s.tgts ∧ t.groups = s.groups) ∧
    (i ≠ 0 → zeroFrom (p.word 1) 29 = true → zeroFrom (p.word 2) 48 = true → zeroFrom (p.word 3) 27 = true →
      (s.ctx i).created = true →
      ∃ t, exec (.instCreate q) s = .next t ∧ s.answered t q.val p stBusy [] ∧ s.sameButReply t) ∧
    (i ≠ 0 → zeroFrom (p.word 1) 29 = true → zeroFrom (p.word 2) 48 = true → zeroFrom (p.word 3) 27 = true →
      (s.ctx i).created = false → s.runFits i (fld (p.word 1) 0 14) (min (fld (p.word 1) 14 15) 16384) = false →
      ∃ t, exec (.instCreate q) s = .next t ∧ s.answered t q.val p stNoSpace [] ∧ s.sameButReply t) ∧
    (i = 0 ∨ zeroFrom (p.word 1) 29 = false ∨ zeroFrom (p.word 2) 48 = false ∨ zeroFrom (p.word 3) 27 = false →
      ∃ t, exec (.instCreate q) s = .next t ∧ s.answered t q.val p stBadParam [] ∧ s.sameButReply t)) ∧
  (∀ (q : Fin 8) (p : Packet) (i : Nat) (s : State), s.runs q.val 0x31 p 0 → i = hdrInst p.hdr →
    (enField p.hdr 42).1 = 0 → (hdrFlag p.hdr 0 = true → zeroFrom (p.word 1) 48 = true) →
    (hdrFlag p.hdr 1 = true ∨ hdrFlag p.hdr 2 = true → zeroFrom (p.word 2) 27 = true) → (s.ctx i).created = true →
    s.husking i = false → s.tb.good = false ∨ s.tick < (s.ctx i).nextRefill →
    ∃ t, exec (.instShare q) s = .next t ∧
      s.answered t q.val p (okOr ((enField p.hdr 42).2 ++ (s.instShare i p).2)) [] ∧
      t.ctx i = { s.ctx i with
        newRate := if hdrFlag p.hdr 0 then (rateSet (p.word 1) 1).1.rate else (s.ctx i).newRate,
        newBurst := if hdrFlag p.hdr 0 then (rateSet (p.word 1) 1).1.burst else (s.ctx i).newBurst,
        newRefill := if hdrFlag p.hdr 0 then (rateSet (p.word 1) 1).1.refill else (s.ctx i).newRefill,
        sharePend := hdrFlag p.hdr 0 || (s.ctx i).sharePend,
        weight := if hdrFlag p.hdr 1 then (weightSet (p.word 2) 2).1 else (s.ctx i).weight,
        quota := if hdrFlag p.hdr 2 then (quotaSet (p.word 2) 2).1 else (s.ctx i).quota } ∧
      (∀ j, j ≠ i → t.ctx j = s.ctx j)) ∧
  (∀ (q : Fin 8) (p : Packet) (i : Nat) (s : State), s.runs q.val 0x31 p 0 → i = hdrInst p.hdr →
    hdrFlag p.hdr 0 = false → hdrFlag p.hdr 1 = false → hdrFlag p.hdr 2 = false → i ≠ 0 → i < 512 →
    s.deferFull q.val = false → (s.ctx i).created = true → s.husking i = false →
    ((enField p.hdr 42).1 = 1 → (s.ctx i).frozen = false → (s.ctx i).drain = false → (s.ctx i).en = false →
      (s.ctx i).oldGen = false → s.busySources i = false → s.poolWork i = false →
      s.tb.good = false ∨ s.tick < (s.ctx i).nextRefill →
      ∃ t, exec (.instShare q) s = .next t ∧ s.answered t q.val p stOk [] ∧
        t.ctx i = { s.ctx i with en := true, gen := wrap 8 ((s.ctx i).gen + 1), oldGen := false }) ∧
    ((enField p.hdr 42).1 = 2 → (s.ctx i).frozen = false → (s.ctx i).drain = false → (s.ctx i).en = true →
      s.tb.good = false ∨ s.tick < (s.ctx i).nextRefill →
      ∃ t, exec (.instShare q) s = .next t ∧ s.deferred t q.val p false (.instDisable i) [] ∧
        t.ctx i = { s.ctx i with en := false, drain := true } ∧ t.sweeping (.drain (Fin.ofNat 512 i)) = true) ∧
    ((enField p.hdr 42).1 = 1 → (s.ctx i).frozen = false → (s.ctx i).drain = true →
      s.tb.good = false ∨ s.tick < (s.ctx i).nextRefill →
      ∃ t, exec (.instShare q) s = .next t ∧ s.deferred t q.val p false (.instEnable i) [] ∧
        t.ctx i = { s.ctx i with en := true }) ∧
    ((enField p.hdr 42).1 ≠ 0 → (s.ctx i).frozen = true →
      ∃ t, exec (.instShare q) s = .next t ∧ s.answered t q.val p stBusy [] ∧ s.sameButReply t)) ∧
  (∀ (q : Fin 8) (p : Packet) (i : Nat) (s : State), s.runs q.val 0x31 p 0 → i = hdrInst p.hdr → s.deferFull q.val = false →
    ((s.ctx i).created = false →
      ∃ t, exec (.instShare q) s = .next t ∧ s.answered t q.val p stBadParam [] ∧ s.sameButReply t) ∧
    ((hdrFlag p.hdr 0 = true → zeroFrom (p.word 1) 48 = true) →
      (hdrFlag p.hdr 1 = true ∨ hdrFlag p.hdr 2 = true → zeroFrom (p.word 2) 27 = true) → i ≠ 0 → (s.ctx i).created = true →
      s.husking i = true →
      ∃ t, exec (.instShare q) s = .next t ∧ s.answered t q.val p stBusy [] ∧ s.sameButReply t)) ∧
  (∀ (w : BitVec 64) (k : Nat),
    (weightSet w k).1 = (if fld w 0 8 = 0 then 1 else fld w 0 8) ∧
    (rateSet w k).1.rate = fld w 0 16 ∧
    (rateSet w k).1.refill = (if fld w 32 16 < 128 then 128 else if 32768 < fld w 32 16 then 32768 else fld w 32 16) ∧
    (rateSet w k).1.burst = (if fld w 16 16 < fld w 0 16 then fld w 0 16 else if fld w 16 16 = 0 then 1 else fld w 16 16) ∧
    (quotaSet w k).1 = (if fld w 8 19 = 0 then 1 else if 266240 < fld w 8 19 then 266240 else fld w 8 19) ∧
    ((weightSet w k).2 = [] ↔ (weightSet w k).1 = fld w 0 8) ∧
    ((quotaSet w k).2 = [] ↔ (quotaSet w k).1 = fld w 8 19) ∧
    ((rateSet w k).2 = [] ↔ (rateSet w k).1.burst = fld w 16 16 ∧ (rateSet w k).1.refill = fld w 32 16))

/-- R257, R272, R273: INST_RESET advances the generation of an instance, sets OLD_GEN, closes the windows of its groups, takes back the counts
on their way to them and starts the stale sweep; INST_DESTROY of a DISABLED instance starts its sweep; both are deferred. VI 0 and a FREE
instance are answered BAD_PARAM; INST_RESET of an instance with OLD_GEN 1 or FROZEN, and INST_DESTROY of one that is not DISABLED, is
FROZEN or has OLD_GEN 1, are answered BUSY, and either with 16 commands deferred. It rests on assumption log 45, the model's choice. -/
def Obligations.InstanceEnds : Prop :=
  (∀ (q : Fin 8) (p : Packet) (i : Nat) (s : State), s.runs q.val 0x32 p 0 → i = hdrInst p.hdr → s.deferFull q.val = false →
    (i ≠ 0 → (s.ctx i).created = true → (s.ctx i).oldGen = false → (s.ctx i).frozen = false →
      ∃ t, exec (.instReset q) s = .next t ∧ s.deferred t q.val p false (.instReset i) [] ∧
        t.ctx i = { s.ctx i with gen := wrap 8 ((s.ctx i).gen + 1), oldGen := true } ∧ (∀ j, j ≠ i → t.ctx j = s.ctx j) ∧
        t.sweeping (.stale (Fin.ofNat 512 i)) = true ∧ t.counts = s.counts.filter (fun x => (s.grp x.group).inst != i) ∧
        (∀ g, (s.grp g).inst = i → (t.grp g).open_ = false) ∧ (∀ g, (s.grp g).inst ≠ i → t.grp g = s.grp g) ∧
        t.tgts = s.tgts) ∧
    (i = 0 ∨ (s.ctx i).created = false →
      ∃ t, exec (.instReset q) s = .next t ∧ s.answered t q.val p stBadParam [] ∧ s.sameButReply t) ∧
    (i ≠ 0 → (s.ctx i).created = true → (s.ctx i).oldGen = true ∨ (s.ctx i).frozen = true →
      ∃ t, exec (.instReset q) s = .next t ∧ s.answered t q.val p stBusy [] ∧ s.sameButReply t)) ∧
  (∀ (q : Fin 8) (p : Packet) (i : Nat) (s : State), s.runs q.val 0x33 p 0 → i = hdrInst p.hdr → s.deferFull q.val = false →
    (i ≠ 0 → (s.ctx i).created = true → (s.ctx i).en = false → (s.ctx i).drain = false → (s.ctx i).frozen = false →
      (s.ctx i).oldGen = false →
      ∃ t, exec (.instDestroy q) s = .next t ∧ s.deferred t q.val p false (.instDestroy i) [] ∧
        t.sweeping (.destroy (Fin.ofNat 512 i)) = true ∧ t.insts = s.insts ∧ t.groups = s.groups ∧ t.tgts = s.tgts) ∧
    (i = 0 ∨ (s.ctx i).created = false →
      ∃ t, exec (.instDestroy q) s = .next t ∧ s.answered t q.val p stBadParam [] ∧ s.sameButReply t) ∧
    (i ≠ 0 → (s.ctx i).created = true →
      (s.ctx i).en = true ∨ (s.ctx i).drain = true ∨ (s.ctx i).frozen = true ∨ (s.ctx i).oldGen = true →
      ∃ t, exec (.instDestroy q) s = .next t ∧ s.answered t q.val p stBusy [] ∧ s.sameButReply t)) ∧
  (∀ (q : Fin 8) (p : Packet) (c : Instr) (op : Nat) (s : State),
    (c = .instReset q ∧ op = 0x32 ∨ c = .instDestroy q ∧ op = 0x33) → s.runs q.val op p 0 → s.deferFull q.val = true →
    ∃ t, exec c s = .next t ∧ s.answered t q.val p stBusy [] ∧ s.sameButReply t)

/-- R281: HUSK_FREEZE of instance i, row by row of its table: BAD_PARAM where i is 0 or FREE, OK with no effect where i is
FROZEN, BUSY where i is DRAINING or OLD_GEN is 1, and otherwise FROZEN set, the freeze started and the command deferred. -/
def Obligations.FreezeFollowsItsTable : Prop :=
  ∀ (q : Fin 8) (p : Packet) (i : Nat) (s : State), s.runs q.val 0x38 p 0 → i = hdrInst p.hdr → s.deferFull q.val = false →
    (i = 0 ∨ (s.ctx i).created = false →
      ∃ t, exec (.huskFreeze q) s = .next t ∧ s.answered t q.val p stBadParam [] ∧ s.sameButReply t) ∧
    (i ≠ 0 → (s.ctx i).created = true → (s.ctx i).frozen = true →
      ∃ t, exec (.huskFreeze q) s = .next t ∧ s.answered t q.val p stOk [] ∧ s.sameButReply t) ∧
    (i ≠ 0 → (s.ctx i).created = true → (s.ctx i).frozen = false → (s.ctx i).drain = true ∨ (s.ctx i).oldGen = true →
      ∃ t, exec (.huskFreeze q) s = .next t ∧ s.answered t q.val p stBusy [] ∧ s.sameButReply t) ∧
    (i ≠ 0 → (s.ctx i).created = true → (s.ctx i).frozen = false → (s.ctx i).drain = false → (s.ctx i).oldGen = false →
      ∃ t, exec (.huskFreeze q) s = .next t ∧ s.deferred t q.val p false (.freeze i) [] ∧
        t.ctx i = { s.ctx i with frozen := true, phase := .freezing } ∧ (∀ j, j ≠ i → t.ctx j = s.ctx j) ∧
        t.sweeping (.freeze (Fin.ofNat 512 i)) = true)

/-- R285, R293, R294, R298, R299, R335, R336: HUSK_THAW of an instance that is not FROZEN is answered OK with no effect; during its
freeze, or a save or restore of it, BUSY; with CORRUPT, INTEGRITY; and otherwise it clears FROZEN, RESTORED and PHASE. With DISCARD it
makes the instance DISABLED, starts its drain and is deferred. HUSK_SAVE of a FROZEN instance takes the window, starts its sweep
and is deferred; of one that is not FROZEN it is answered BUSY, and of a corrupt one INTEGRITY. HUSK_RESTORE into a FREE instance opens
the window inward and is deferred; with the window in use it is answered BUSY. -/
def Obligations.ThawSaveAndRestore : Prop :=
  (∀ (q : Fin 8) (p : Packet) (i : Nat) (s : State), s.runs q.val 0x3B p 0 → i = hdrInst p.hdr → hdrFlag p.hdr 0 = false →
    ((s.ctx i).frozen = true → s.husking i = false → (s.ctx i).phase ≠ .freezing → (s.ctx i).corrupt = false →
      ∃ t, exec (.huskThaw q) s = .next t ∧ s.answered t q.val p stOk [] ∧
        t.ctx i = { s.ctx i with frozen := false, phase := .thawed, restored := false } ∧ (∀ j, j ≠ i → t.ctx j = s.ctx j)) ∧
    ((s.ctx i).frozen = false →
      ∃ t, exec (.huskThaw q) s = .next t ∧ s.answered t q.val p stOk [] ∧ s.sameButReply t) ∧
    ((s.ctx i).frozen = true → s.husking i = true ∨ (s.ctx i).phase = .freezing →
      ∃ t, exec (.huskThaw q) s = .next t ∧ s.answered t q.val p stBusy [] ∧ s.sameButReply t) ∧
    ((s.ctx i).frozen = true → s.husking i = false → (s.ctx i).phase ≠ .freezing → (s.ctx i).corrupt = true →
      ∃ t, exec (.huskThaw q) s = .next t ∧ s.answered t q.val p stIntegrity [] ∧ s.sameButReply t)) ∧
  (∀ (q : Fin 8) (p : Packet) (i : Nat) (s : State), s.runs q.val 0x3B p 0 → i = hdrInst p.hdr → hdrFlag p.hdr 0 = true →
    (s.ctx i).frozen = true → s.husking i = false → s.deferFull q.val = false →
    (∀ d ∈ s.cmd.deferred, d.work ≠ .freeze i) →
    ∃ t, exec (.huskThaw q) s = .next t ∧ s.deferred t q.val p false (.thawDiscard i) [] ∧
      t.ctx i = { s.ctx i with frozen := false, phase := .thawed, corrupt := false, restored := false, en := false,
                               drain := true } ∧
      t.sweeping (.drain (Fin.ofNat 512 i)) = true) ∧
  (∀ (q : Fin 8) (p : Packet) (i : Nat) (s : State), s.runs q.val 0x39 p 0 → i = hdrInst p.hdr → i ≠ 0 →
    s.deferFull q.val = false → p.word 1 = 2 → (s.ctx i).created = true →
    ((s.ctx i).phase = .frozen → (s.ctx i).saving = false → s.husking i = false → s.cmd.cdw.owned = false →
      (s.ctx i).corrupt = false →
      ∃ t, exec (.huskSave q) s = .next t ∧ s.deferred t q.val p false (.save i) [] ∧
        t.ctx i = { s.ctx i with saving := true } ∧ t.sweeping (.prepare (Fin.ofNat 512 i)) = true ∧
        t.cmd.cdw = { q := q.val, owner := some s.cmd.nextId, xfer := some (.huskOut
          { inst := i, version := 2, move := hdrFlag p.hdr 0, delta := hdrFlag p.hdr 1, pre := [], srcs := [], half := none,
            crc := 0xFFFFFFFF, carried := 0, active := 0, tail := 0 }) }) ∧
    ((s.ctx i).phase ≠ .frozen →
      ∃ t, exec (.huskSave q) s = .next t ∧ s.answered t q.val p stBusy [] ∧ s.sameButReply t) ∧
    ((s.ctx i).phase = .frozen → (s.ctx i).saving = false → s.husking i = false → s.cmd.cdw.owned = false →
      (s.ctx i).corrupt = true →
      ∃ t, exec (.huskSave q) s = .next t ∧ s.answered t q.val p stIntegrity [] ∧ s.sameButReply t)) ∧
  (∀ (q : Fin 8) (p : Packet) (i : Nat) (s : State), s.runs q.val 0x3A p 0 → i = hdrInst p.hdr → i ≠ 0 →
    s.deferFull q.val = false → zeroFrom (p.word 1) 14 = true → zeroFrom (p.word 2) 18 = true →
    zeroFrom (p.word 3) 18 = true → zeroFrom (p.word 4) 16 = true → (s.ctx i).created = false → s.husking i = false →
    (s.cmd.cdw.owned = false →
      ∃ t, exec (.huskRestore q) s = .next t ∧ s.deferred t q.val p false (.restore i) [] ∧ t.insts = s.insts ∧
        t.cmd.cdw = { q := q.val, open_ := true, announce := some (hdrTag p.hdr, 0x3A), outward := false, pos := 0, left := 0, last := s.tick,
                      owner := some s.cmd.nextId, xfer := some (.huskIn
                        { inst := i, delta := false, pageBase := fld (p.word 1) 0 14, transBase := fld (p.word 2) 0 18,
                          midDelta := fld (p.word 3) 0 18, groupDelta := fld (p.word 4) 0 16, words := [], undo := [],
                          failed := none }) }) ∧
    (s.cmd.cdw.owned = true →
      ∃ t, exec (.huskRestore q) s = .next t ∧ s.answered t q.val p stBusy [] ∧ s.sameButReply t))

/-! ### Commands over the block -/

/-- R303, R337, R384, R385, R394, R396: GATE_RULES writes a slot, a region after its clamps or a binding, and opens an epoch; the reply with
the epoch's number goes out at once where nothing of an earlier epoch waits, and is withheld while an access judged under one has
not drained. A pair that is not right stops the whole command. -/
def Obligations.GateRulesOpenAnEpoch : Prop :=
  (∀ (q : Fin 8) (p : Packet) (s : State), s.runs q.val 0x40 p 1 → hdrLen p.hdr = 2 → pairOk (p.word 1) (p.word 2) = true →
    s.cmd.gates = [] → s.isHeld 3 = false → s.bus.hotq = [] → s.bus.outstanding = [] → s.relays = [] → s.parked = [] →
    s.waiting = [] →
    (pairKind (p.word 1) = 0 →
      ∃ t, exec (.gateRules q) s = .next t ∧ s.answered t q.val p stOk [w64 ((s.acc.epoch + 1) % 2 ^ 32)] ∧
        t.slot (pairIndex (p.word 1)) = p.word 2 ∧ (∀ n, n ≠ pairIndex (p.word 1) → t.slot n = s.slot n) ∧
        t.acc.epoch = s.acc.epoch + 1 ∧ t.acc.regions = s.acc.regions) ∧
    (pairKind (p.word 1) = 1 →
      ∃ t, exec (.gateRules q) s = .next t ∧ t.acc.epoch = s.acc.epoch + 1 ∧ t.acc.slots = s.acc.slots ∧
        t.region (pairIndex (p.word 1)) = (regionSet (p.word 2) 2).1 ∧
        (∀ n, n ≠ pairIndex (p.word 1) → t.region n = s.region n) ∧
        s.answered t q.val p (okOr (regionSet (p.word 2) 2).2) [w64 ((s.acc.epoch + 1) % 2 ^ 32)]) ∧
    (pairKind (p.word 1) = 2 →
      ∃ t, exec (.gateRules q) s = .next t ∧ t.acc = { s.acc with epoch := s.acc.epoch + 1 } ∧
        (t.queue (pairIndex (p.word 1))).bindMaster = fld (p.word 2) 0 22 ∧
        (t.queue (pairIndex (p.word 1))).bindMask = fld (p.word 2) 22 22 ∧
        (t.queue (pairIndex (p.word 1))).bindInst = (if pairIndex (p.word 1) = 0 then 0 else fld (p.word 2) 44 9) ∧
        (t.queue (pairIndex (p.word 1))).bindValid = flag (p.word 2) 53 ∧ (t.queue q.val).cur = none)) ∧
  (∀ (q : Fin 8) (p : Packet) (x : Nat × Judged) (s : State), s.runs q.val 0x40 p 1 → hdrLen p.hdr = 2 →
    pairOk (p.word 1) (p.word 2) = true → pairKind (p.word 1) = 0 → s.cmd.gates = [] → x ∈ s.bus.outstanding →
    x.2.epoch ≤ s.acc.epoch →
    ∃ t, exec (.gateRules q) s = .next t ∧ t.cmd.gates = [(q.val, hdrTag p.hdr, s.acc.epoch + 1, stOk)] ∧
      t.queue q.val = s.queue q.val ∧ t.slot (pairIndex (p.word 1)) = p.word 2 ∧ t = { s with acc := t.acc, cmd := t.cmd }) ∧
  (∀ (q : Fin 8) (p : Packet) (s : State), s.runs q.val 0x40 p 0 → (∃ x ∈ pairsOf p, pairOk x.1 x.2.1 = false) →
    ∃ t, exec (.gateRules q) s = .next t ∧ s.answered t q.val p stBadParam [] ∧ s.sameButReply t)

/-- R338, R339, R361, R363, R364, R430: COMMIT seals an open configuration, starts the walker's pass again and waits for it; where the
configuration is sealed it is answered with CFG_REF, and in TEST, QUIESCE, DUCTUS and WAKE with BUSY. UNSEAL opens a sealed
configuration for the window from the present tick; of an open one it is answered OK. RUNG_SET of rungs 0 to 3 sets the rung that
software asks for, here with rung 0 to apply, and its reply shows the rung to apply and the one acknowledged; 4 and 5 without
CONFIRM are answered DENIED. -/
def Obligations.SealAndRungCommands : Prop :=
  (∀ (q : Fin 8) (p : Packet) (s : State), s.runs q.val 0x48 p 1 →
    (s.mode.mode ≠ .test → s.mode.mode ≠ .quiesce → s.mode.mode ≠ .ductus → s.mode.mode ≠ .wake → s.unsealOver = false →
      s.cfg.sealed_ = false →
      ∃ t, exec (.commit q) s = .next t ∧
        t.cfg = { s.cfg with sealed_ := true, latchPend := true, timed := false, expired := false, walkPos := 0,
                             walkCrc := 0xFFFFFFFF } ∧
        t.cmd.commitReply = some (q.val, hdrTag p.hdr, false) ∧ t.queue q.val = s.queue q.val ∧
        t = { s with cfg := t.cfg, cmd := t.cmd }) ∧
    (s.mode.mode ≠ .test → s.mode.mode ≠ .quiesce → s.mode.mode ≠ .ductus → s.mode.mode ≠ .wake → s.unsealOver = false →
      s.cfg.sealed_ = true →
      ∃ t, exec (.commit q) s = .next t ∧ s.answered t q.val p stOk [w64 s.cfg.ref.toNat] ∧ s.sameButReply t) ∧
    (s.mode.mode = .test ∨ s.mode.mode = .quiesce ∨ s.mode.mode = .ductus ∨ s.mode.mode = .wake →
      ∃ t, exec (.commit q) s = .next t ∧ s.answered t q.val p stBusy [] ∧ s.sameButReply t)) ∧
  (∀ (q : Fin 8) (p : Packet) (s : State), s.runs q.val 0x49 p 0 → s.cfg.sealed_ = true → s.cmd.commitReply = none →
    s.cmd.cdw.owned = false →
    ∃ t, exec (.unseal q) s = .next t ∧ t.cfg = { s.cfg with sealed_ := false, timed := true, expired := false,
                                                              latchPend := false, unsealStart := s.tick } ∧
      (t.queue q.val).cseq = wrap 16 ((s.queue q.val).cseq + 1) ∧ t.mode = s.mode) ∧
  (∀ (q : Fin 8) (p : Packet) (s : State), s.runs q.val 0x49 p 0 → s.cfg.sealed_ = false →
    ∃ t, exec (.unseal q) s = .next t ∧ s.answered t q.val p stOk [] ∧ s.sameButReply t) ∧
  (∀ (q : Fin 8) (p : Packet) (s : State), s.runs q.val 0x50 p 1 → zeroFrom (p.word 1) 3 = true → fld (p.word 1) 0 3 < 4 →
    s.pwr.apply = 0 → s.pwr.pin = 0 → s.pwr.rung = 0 → s.pwr.ack = 0 →
    ∃ t, exec (.rungSet q) s = .next t ∧ s.answered t q.val p stOk [0] ∧ t.pwr.sw = fld (p.word 1) 0 3 ∧
      t.pwr.confirm = false ∧ t.pwr.pin = 0 ∧ t.pwr.rung = 0 ∧ t.mode = s.mode) ∧
  (∀ (q : Fin 8) (p : Packet) (s : State), s.runs q.val 0x50 p 0 → zeroFrom (p.word 1) 3 = true → 4 ≤ fld (p.word 1) 0 3 →
    hdrFlag p.hdr 0 = false →
    ∃ t, exec (.rungSet q) s = .next t ∧ s.answered t q.val p stDenied [] ∧ s.sameButReply t)

/-- R136, R340, R341, R476, R479: LEDGER_AUDIT asks for an audit and RECORD_FLUSH for a write of the record; both are deferred.
RECORD_READ of the working copies opens the window for their words at once; of a stored copy that is being written it waits for the
end of the write, with the window taken; with the window in use it is answered BUSY. -/
def Obligations.AuditAndRecordCommands : Prop :=
  (∀ (q : Fin 8) (p : Packet) (s : State), s.runs q.val 0x58 p 0 → s.deferFull q.val = false →
    ∃ t, exec (.ledgerAudit q) s = .next t ∧ s.deferred t q.val p false .audit [] ∧
      t.ldg.wanted = s.ldg.wanted ++ [(s.cmd.nextId, hdrFlag p.hdr 0)] ∧ t.mode = s.mode ∧ t.tgts = s.tgts) ∧
  (∀ (q : Fin 8) (p : Packet) (s : State), s.runs q.val 0x5A p 0 → s.deferFull q.val = false →
    ∃ t, exec (.recordFlush q) s = .next t ∧ s.deferred t q.val p false .recordFlush [] ∧
      t.rcd.flushWait = s.rcd.flushWait ++ [s.cmd.nextId] ∧ t.rcd.writing = s.rcd.writing ∧ t.mode = s.mode) ∧
  (∀ (q : Fin 8) (p : Packet) (s : State), s.runs q.val 0x59 p 3 → s.deferFull q.val = false → p.word 1 = 0 →
    s.cmd.cdw.owned = false → (∀ d ∈ s.cmd.deferred, d.id < s.cmd.nextId) →
    (∀ d ∈ s.cmd.deferred, d.isFence = false) →
    ∃ t, exec (.recordRead q) s = .next t ∧ t.cmd.cdw.open_ = true ∧ t.cmd.cdw.outward = true ∧ t.cmd.cdw.pos = 0 ∧
      t.cmd.cdw.q = q.val ∧ t.cmd.cdw.left = imageLen ∧
      (t.queue q.val).cseq = wrap 16 (wrap 16 ((s.queue q.val).cseq + 1) + 1) ∧ t.rcd.writing = s.rcd.writing ∧
      t.mode = s.mode) ∧
  (∀ (q : Fin 8) (p : Packet) (b : Bool) (c : Image) (s : State), s.runs q.val 0x59 p 0 →
    s.deferFull q.val = false → p.word 1 = (if b then 2 else 1) → s.cmd.cdw.owned = false →
    s.rcd.writing = some (b, c) →
    ∃ t, exec (.recordRead q) s = .next t ∧ s.deferred t q.val p false (.recordRead (if b then 2 else 1)) [] ∧
      t.rcd.readWait = s.rcd.readWait ++ [(s.cmd.nextId, b)] ∧
      t.cmd.cdw = { q := q.val, owner := some s.cmd.nextId } ∧ t.mode = s.mode) ∧
  (∀ (q : Fin 8) (p : Packet) (s : State), s.runs q.val 0x59 p 0 → s.deferFull q.val = false →
    zeroFrom (p.word 1) 2 = true → s.cmd.cdw.owned = true →
    ∃ t, exec (.recordRead q) s = .next t ∧ s.answered t q.val p stBusy [] ∧ s.sameButReply t)

/-- R342 to R344, R416: DOMAIN_RESET starts the quiesce of one domain and is deferred; in WARM, DUCTUS and WAKE, and while a reset of
a domain is under way, it is answered BUSY, and a domain that it does not take BAD_PARAM. BULK_LOAD of the inkwell opens the window
inward, in START or TEST, and in another mode is answered BUSY; BULK_READ opens it outward with its second reply. With the window in
use both are answered BUSY. -/
def Obligations.DomainAndBulkCommands : Prop :=
  (∀ (q : Fin 8) (p : Packet) (n : Nat) (s : State), s.runs q.val 0x60 p 0 → n = fld (p.word 1) 0 4 →
    zeroFrom (p.word 1) 4 = true → s.deferFull q.val = false →
    (resettable n = true → s.mode.mode ≠ .ductus → s.mode.mode ≠ .wake → s.mode.mode ≠ .warm → s.rst.dom.phase = 0 →
      ∃ t, exec (.domainReset q) s = .next t ∧ s.deferred t q.val p false .domainReset [] ∧ t.rst.dom.domain = n ∧
        t.rst.dom.phase = 1 ∧ t.rst.dom.start = s.instant ∧ t.rst.dom.owner = some s.cmd.nextId ∧ t.rst.held = s.rst.held ∧
        t.mode = s.mode) ∧
    (resettable n = true →
      s.mode.mode = .ductus ∨ s.mode.mode = .wake ∨ s.mode.mode = .warm ∨ s.rst.dom.phase ≠ 0 →
      ∃ t, exec (.domainReset q) s = .next t ∧ s.answered t q.val p stBusy [] ∧ s.sameButReply t) ∧
    (resettable n = false →
      ∃ t, exec (.domainReset q) s = .next t ∧ s.answered t q.val p stBadParam [] ∧ s.sameButReply t)) ∧
  (∀ (q : Fin 8) (p : Packet) (s : State), s.runs q.val 0x68 p 0 → s.deferFull q.val = false → bulkLoadOk p = true →
    bulkSpace p = 0 →
    (s.mode.mode = .start ∨ s.mode.mode = .test → s.cmd.cdw.owned = false →
      ∃ t, exec (.bulkLoad q) s = .next t ∧ s.deferred t q.val p false .load [] ∧
        t.cmd.cdw = { q := q.val, open_ := true, announce := some (hdrTag p.hdr, 0x68), outward := false, pos := 0, left := bulkCount p, last := s.tick,
                      owner := some s.cmd.nextId, xfer := some (.load (bulkAddr p)) } ∧ t.tgts = s.tgts ∧ t.insts = s.insts) ∧
    ((s.mode.mode ≠ .start ∧ s.mode.mode ≠ .test) ∨ s.cmd.cdw.owned = true →
      ∃ t, exec (.bulkLoad q) s = .next t ∧ s.answered t q.val p stBusy [] ∧ s.sameButReply t)) ∧
  (∀ (q : Fin 8) (p : Packet) (s : State), s.runs q.val 0x69 p 2 → s.deferFull q.val = false → bulkBits p = true →
    bulkSpace p = 0 → bulkRun (bulkAddr p) (bulkCount p) = true →
    (s.cmd.cdw.owned = false → (∀ d ∈ s.cmd.deferred, d.id < s.cmd.nextId) → (∀ d ∈ s.cmd.deferred, d.isFence = false) →
      ∃ t, exec (.bulkRead q) s = .next t ∧
        t.cmd.cdw = { q := q.val, open_ := true, announce := some (hdrTag p.hdr, 0x69), outward := true, pos := 0, left := bulkCount p, last := s.tick,
                      owner := none, xfer := some (.bulk (bulkAddr p)) } ∧
        (t.queue q.val).cseq = wrap 16 (wrap 16 ((s.queue q.val).cseq + 1) + 1) ∧ t.tgts = s.tgts ∧ t.insts = s.insts) ∧
    (s.cmd.cdw.owned = true →
      ∃ t, exec (.bulkRead q) s = .next t ∧ s.answered t q.val p stBusy [] ∧ s.sameButReply t))
end

