-- ==== Sys2Proof/Laws/Tables.lean ====
section
/-! SUPPORT. The laws of the sparse tables: reading after writing, and the canonical form that every write keeps. -/
namespace Sys2Proof.Machine

/-- The numbers of a table lie above `k`. -/
def Table.above {α : Type} (k : Nat) (m : Table α) : Bool := m.all fun p => decide (k < p.1)

theorem tget_nil {α : Type} (d : Nat → α) (k : Nat) : tget d [] k = d k := rfl

theorem tget_cons_same {α : Type} (d : Nat → α) (k : Nat) (v : α) (m : Table α) : tget d ((k, v) :: m) k = v := by
  simp [tget]

theorem tget_cons_ne {α : Type} (d : Nat → α) {j k : Nat} (v : α) (m : Table α) (h : j ≠ k) :
    tget d ((j, v) :: m) k = tget d m k := by
  simp [tget, h]

theorem tget_terase_same {α : Type} (d : Nat → α) (m : Table α) (k : Nat) : tget d (terase m k) k = d k := by
  induction m with
  | nil => rfl
  | cons p m ih =>
    rcases p with ⟨j, v⟩
    by_cases h : j = k
    · simpa [terase, h] using ih
    · simpa [terase, h, tget] using ih

theorem tget_terase_ne {α : Type} (d : Nat → α) (m : Table α) {j k : Nat} (h : j ≠ k) :
    tget d (terase m j) k = tget d m k := by
  induction m with
  | nil => rfl
  | cons p m ih =>
    rcases p with ⟨i, v⟩
    by_cases hi : i = j
    · subst hi
      simpa [terase, tget, h] using ih
    · by_cases hk : i = k
      · subst hk
        simp [terase, tget, hi]
      · simpa [terase, tget, hi, hk] using ih

theorem tget_tinsert_same {α : Type} (d : Nat → α) (m : Table α) (k : Nat) (v : α) (hm : tget (fun _ => none) (m.map fun p => (p.1, some p.2)) k = none) :
    tget d (tinsert k v m) k = v := by
  induction m with
  | nil => simp [tinsert, tget]
  | cons p m ih =>
    rcases p with ⟨j, w⟩
    by_cases hlt : k < j
    · simp [tinsert, hlt, tget]
    · by_cases hj : j = k
      · subst hj
        simp [tget] at hm
      · have hm' : tget (fun _ => none) (m.map fun p => (p.1, some p.2)) k = none := by
          simpa [tget, hj] using hm
        simp [tinsert, hlt, tget, hj, ih hm']

theorem tget_tinsert_ne {α : Type} (d : Nat → α) (m : Table α) {j k : Nat} (v : α) (h : j ≠ k) :
    tget d (tinsert j v m) k = tget d m k := by
  induction m with
  | nil => simp [tinsert, tget, h]
  | cons p m ih =>
    rcases p with ⟨i, w⟩
    by_cases hlt : j < i
    · simp [tinsert, hlt, tget, h]
    · by_cases hi : i = k
      · subst hi
        simp [tinsert, hlt, tget]
      · simp [tinsert, hlt, tget, hi, ih]

theorem terase_listed {α : Type} (m : Table α) (k : Nat) :
    tget (fun _ => none) ((terase m k).map fun p => (p.1, some p.2)) k = none := by
  induction m with
  | nil => rfl
  | cons p m ih =>
    rcases p with ⟨j, v⟩
    by_cases h : j = k
    · simpa [terase, h] using ih
    · simpa [terase, h, tget] using ih

/-- An entry that was written reads as written. -/
@[simp] theorem tget_tset_same {α : Type} [DecidableEq α] (d : Nat → α) (m : Table α) (k : Nat) (v : α) :
    tget d (tset d m k v) k = v := by
  unfold tset
  split
  · rename_i h
    rw [tget_terase_same, h]
  · exact tget_tinsert_same d _ k v (terase_listed m k)

/-- Every other entry is left alone. -/
theorem tget_tset_ne {α : Type} [DecidableEq α] (d : Nat → α) (m : Table α) {j k : Nat} (v : α) (h : j ≠ k) :
    tget d (tset d m j v) k = tget d m k := by
  unfold tset
  split
  · exact tget_terase_ne d m h
  · rw [tget_tinsert_ne d _ v h, tget_terase_ne d m h]

/-- One entry after a write. -/
theorem tget_tset {α : Type} [DecidableEq α] (d : Nat → α) (m : Table α) (j k : Nat) (v : α) :
    tget d (tset d m j v) k = if j = k then v else tget d m k := by
  split
  · rename_i h
    subst h
    simp
  · exact tget_tset_ne d m v ‹_›

/-! ### The canonical form -/

theorem Table.above_mono {α : Type} {j k : Nat} {m : Table α} (h : j < k) (hm : Table.above k m = true) :
    Table.above j m = true := by
  simp only [Table.above, List.all_eq_true, decide_eq_true_eq] at hm ⊢
  exact fun p hp => Nat.lt_trans h (hm p hp)

theorem Table.wf_cons {α : Type} [DecidableEq α] (d : Nat → α) (j : Nat) (v : α) (m : Table α) :
    Table.wf d ((j, v) :: m) = true ↔ v ≠ d j ∧ Table.above j m = true ∧ Table.wf d m = true := by
  simp [Table.wf, Table.above, and_assoc]

theorem terase_above {α : Type} {j : Nat} {m : Table α} (k : Nat) (h : Table.above j m = true) :
    Table.above j (terase m k) = true := by
  simp only [Table.above, List.all_eq_true, terase, List.mem_filter] at h ⊢
  exact fun p hp => h p hp.1

theorem terase_wf {α : Type} [DecidableEq α] (d : Nat → α) (m : Table α) (k : Nat) (h : Table.wf d m = true) :
    Table.wf d (terase m k) = true := by
  induction m with
  | nil => rfl
  | cons p m ih =>
    rcases p with ⟨j, v⟩
    rw [Table.wf_cons] at h
    by_cases hj : j = k
    · simpa [terase, hj] using ih h.2.2
    · have := ih h.2.2
      have e : terase ((j, v) :: m) k = (j, v) :: terase m k := by simp [terase, hj]
      rw [e, Table.wf_cons]
      exact ⟨h.1, terase_above k h.2.1, this⟩

theorem tinsert_above {α : Type} {j k : Nat} {v : α} {m : Table α} (hk : j < k) (h : Table.above j m = true) :
    Table.above j (tinsert k v m) = true := by
  induction m with
  | nil => simp [tinsert, Table.above, hk]
  | cons p m ih =>
    rcases p with ⟨i, w⟩
    by_cases hlt : k < i
    · simp only [tinsert, hlt, if_true]
      simp only [Table.above, List.all_cons, Bool.and_eq_true, decide_eq_true_eq] at h ⊢
      exact ⟨hk, h⟩
    · simp only [tinsert, hlt, if_false]
      simp only [Table.above, List.all_cons, Bool.and_eq_true, decide_eq_true_eq] at h ih ⊢
      exact ⟨h.1, ih h.2⟩

theorem tinsert_wf {α : Type} [DecidableEq α] (d : Nat → α) (m : Table α) (k : Nat) (v : α) (hv : v ≠ d k)
    (hk : ∀ p ∈ m, p.1 ≠ k) (h : Table.wf d m = true) : Table.wf d (tinsert k v m) = true := by
  induction m with
  | nil => simp [tinsert, Table.wf, hv]
  | cons p m ih =>
    rcases p with ⟨j, w⟩
    have hc := (Table.wf_cons d j w m).1 h
    by_cases hlt : k < j
    · simp only [tinsert, hlt, if_true]
      rw [Table.wf_cons]
      refine ⟨hv, ?_, h⟩
      have := Table.above_mono hlt hc.2.1
      simp only [Table.above, List.all_cons, Bool.and_eq_true, decide_eq_true_eq] at this ⊢
      exact ⟨hlt, this⟩
    · have hjk : j ≠ k := hk (j, w) (List.mem_cons_self ..)
      have hjlt : j < k := by omega
      simp only [tinsert, hlt, if_false]
      rw [Table.wf_cons]
      exact ⟨hc.1, tinsert_above hjlt hc.2.1, ih (fun p hp => hk p (List.mem_cons_of_mem _ hp)) hc.2.2⟩

/-- A write keeps the canonical form. -/
theorem tset_wf {α : Type} [DecidableEq α] (d : Nat → α) (m : Table α) (k : Nat) (v : α) (h : Table.wf d m = true) :
    Table.wf d (tset d m k v) = true := by
  unfold tset
  split
  · exact terase_wf d m k h
  · refine tinsert_wf d _ k v ‹_› ?_ (terase_wf d m k h)
    intro p hp
    simp only [terase, List.mem_filter, bne_iff_ne] at hp
    exact hp.2

end Sys2Proof.Machine
end

