-- ==== Sys2Proof/Laws/Kept.lean ====
section
/-! SUPPORT. What the shared operations keep: the queue of waiting commands, the straps as sampled, the bounds of the FIFOs, the
canonical form of the source table and the conservation equations. The files KeptX.lean say it once for every operation of
Machine/X.lean. -/
namespace Sys2Proof.Machine

/-- The bounds of the FIFOs, and the canonical form of the source table. -/
def State.tidy (s : State) : Prop :=
  s.flt.queue.length ≤ 16 ∧ (∀ q, (s.queue q).rpl.length ≤ 512) ∧ Table.wf (fun _ => ({} : SrcRec)) s.src = true

/-- Where a computation starts, and whether the straps (`k`) and the conservation equations (`b`) are followed along it. -/
structure Start where
  k : Bool
  b : Bool
  st : State

/-- What `s` has kept since the start. -/
structure Kept (s0 : Start) (s : State) : Prop where
  pend : s.pending = s0.st.pending
  strap : s0.k = true → s.strap = s0.st.strap
  inv : s0.st.tidy → s.tidy
  bal : s0.b = true → s0.st.conserved → s.conserved

theorem Kept.rfl' (k b : Bool) (s : State) : Kept ⟨k, b, s⟩ s := ⟨rfl, fun _ => rfl, id, fun _ => id⟩

/-- An update that leaves the straps, the sources, the port queue, the command queues and the ledgers. -/
theorem Kept.mk' {s0 : Start} {s : State} {x_now x_free x_pins x_mode x_rst x_tb x_pwr x_cfg x_lines x_lost x_scrub
    x_scrubbed x_parked x_waiting x_house x_trans x_pages x_groups x_counts x_insts x_tgts x_links x_inch x_relays x_poolTop x_relayTop x_farch
      x_ldg x_sweeps
      x_clusters x_rank x_cmd x_acc x_bus x_flt x_rcd} (h : Kept s0 s) (h3 : x_flt.queue = s.flt.queue) (h4 :
      x_cmd.queues = s.cmd.queues) (h6 : x_ldg.inst = s.ldg.inst) (h7 : x_ldg.block = s.ldg.block) :
    Kept s0 (State.mk s.pending x_now x_free x_pins s.strap x_mode x_rst x_tb x_pwr x_cfg x_lines s.src x_lost x_scrub
    x_scrubbed x_parked x_waiting x_house x_trans x_pages x_groups x_counts x_insts x_tgts x_links x_inch x_relays x_poolTop x_relayTop x_farch
      x_ldg x_sweeps
      x_clusters x_rank x_cmd x_acc x_bus x_flt x_rcd) := by
  refine ⟨h.pend, h.strap, fun i => ?_, fun i j => ?_⟩
  · have := h.inv i
    unfold State.tidy State.queue at *
    dsimp only
    rw [h3, h4]; exact this
  · have := h.bal i j
    unfold State.conserved at *
    dsimp only
    rw [h6, h7]; exact this

/-- The same where the port queue changes within its bound. -/
theorem Kept.mk2 {s0 : Start} {s : State} {x_now x_free x_pins x_mode x_rst x_tb x_pwr x_cfg x_lines x_lost x_scrub
    x_scrubbed x_parked x_waiting x_house x_trans x_pages x_groups x_counts x_insts x_tgts x_links x_inch x_relays x_poolTop x_relayTop x_farch
      x_ldg x_sweeps
      x_clusters x_rank x_cmd x_acc x_bus x_flt x_rcd} (h : Kept s0 s) (h3 : s.flt.queue.length ≤ 16 →
      x_flt.queue.length ≤ 16) (h4 : x_cmd.queues = s.cmd.queues) (h6 : x_ldg.inst = s.ldg.inst) (h7 : x_ldg.block =
      s.ldg.block) :
    Kept s0 (State.mk s.pending x_now x_free x_pins s.strap x_mode x_rst x_tb x_pwr x_cfg x_lines s.src x_lost x_scrub
    x_scrubbed x_parked x_waiting x_house x_trans x_pages x_groups x_counts x_insts x_tgts x_links x_inch x_relays x_poolTop x_relayTop x_farch
      x_ldg x_sweeps
      x_clusters x_rank x_cmd x_acc x_bus x_flt x_rcd) := by
  refine ⟨h.pend, h.strap, fun i => ?_, fun i j => ?_⟩
  · have := h.inv i
    unfold State.tidy State.queue at *
    dsimp only
    rw [h4]; exact ⟨h3 this.1, this.2⟩
  · have := h.bal i j
    unfold State.conserved at *
    dsimp only
    rw [h6, h7]; exact this

/-- The same where the straps change. -/
theorem Kept.mk3 {s0 : Start} {s : State} {x_now x_free x_pins x_strap x_mode x_rst x_tb x_pwr x_cfg x_lines x_lost
    x_scrub x_scrubbed x_parked x_waiting x_house x_trans x_pages x_groups x_counts x_insts x_tgts x_links x_inch x_relays x_poolTop x_relayTop x_farch
      x_ldg
      x_sweeps x_clusters x_rank x_cmd x_acc x_bus x_flt x_rcd} (hk : s0.k = false) (h : Kept s0 s) (h3 : x_flt.queue =
      s.flt.queue) (h4 : x_cmd.queues = s.cmd.queues) (h6 : x_ldg.inst = s.ldg.inst) (h7 : x_ldg.block = s.ldg.block) :
    Kept s0 (State.mk s.pending x_now x_free x_pins x_strap x_mode x_rst x_tb x_pwr x_cfg x_lines s.src x_lost x_scrub
    x_scrubbed x_parked x_waiting x_house x_trans x_pages x_groups x_counts x_insts x_tgts x_links x_inch x_relays x_poolTop x_relayTop x_farch
      x_ldg x_sweeps
      x_clusters x_rank x_cmd x_acc x_bus x_flt x_rcd) := by
  refine ⟨h.pend, fun h => by simp [hk] at h, fun i => ?_, fun i j => ?_⟩
  · have := h.inv i
    unfold State.tidy State.queue at *
    dsimp only
    rw [h3, h4]; exact this
  · have := h.bal i j
    unfold State.conserved at *
    dsimp only
    rw [h6, h7]; exact this

/-- The same where the sources and ledgers go back to reset. -/
theorem Kept.mk4 {s0 : Start} {s : State} {x_now x_free x_pins x_mode x_rst x_tb x_pwr x_cfg x_lines x_src x_lost
    x_scrub x_scrubbed x_parked x_waiting x_house x_trans x_pages x_groups x_counts x_insts x_tgts x_links x_inch x_relays x_poolTop x_relayTop x_farch
      x_ldg
      x_sweeps x_clusters x_rank x_cmd x_acc x_bus x_flt x_rcd} (h : Kept s0 s) (h3 : x_flt.queue = s.flt.queue) (h4 :
      x_cmd.queues = s.cmd.queues) (h5 : x_src = []) (h6 : x_ldg.inst = []) (h7 : x_ldg.block = {}) :
    Kept s0 (State.mk s.pending x_now x_free x_pins s.strap x_mode x_rst x_tb x_pwr x_cfg x_lines x_src x_lost x_scrub
    x_scrubbed x_parked x_waiting x_house x_trans x_pages x_groups x_counts x_insts x_tgts x_links x_inch x_relays x_poolTop x_relayTop x_farch
      x_ldg x_sweeps
      x_clusters x_rank x_cmd x_acc x_bus x_flt x_rcd) := by
  refine ⟨h.pend, h.strap, fun i => ?_, fun _ _ => ?_⟩
  · have := h.inv i
    unfold State.tidy State.queue at *
    dsimp only
    rw [h3, h4, h5]; exact ⟨this.1, this.2.1, rfl⟩
  · unfold State.conserved
    dsimp only
    rw [h6, h7]
    exact ⟨by simp, rfl⟩

theorem forEach_kept {α : Type} {s0 : Start} {l : List α} {f : α → State → State} (hf : ∀ x s, Kept s0 s → Kept s0 (f x
    s)) :
    ∀ {s : State}, Kept s0 s → Kept s0 (forEach l f s) := by
  unfold forEach
  induction l with
  | nil => exact fun h => h
  | cons a l ih => exact fun h => ih (hf a _ h)

theorem foldl_kept {α : Type} {s0 : Start} {l : List α} {f : State → α → State} (hf : ∀ x s, Kept s0 s → Kept s0 (f s
    x)) :
    ∀ {s : State}, Kept s0 s → Kept s0 (l.foldl f s) := by
  induction l with
  | nil => exact fun h => h
  | cons a l ih => exact fun h => ih (hf a _ h)

theorem foldl_kept1 {α β : Type} {s0 : Start} {l : List α} {f : State × β → α → State × β} (hf : ∀ (a : State × β) x,
    Kept s0 a.1 → Kept s0 (f a x).1) :
    ∀ {a : State × β}, Kept s0 a.1 → Kept s0 (l.foldl f a).1 := by
  induction l with
  | nil => exact fun h => h
  | cons a l ih => exact fun h => ih (hf _ a h)

theorem State.putSource_kept {s0 : Start} {s : State} (e : Nat) (r : SrcRec) (h : Kept s0 s) : Kept s0 (s.putSource e
    r) := by
  refine ⟨h.pend, h.strap, fun i => ?_, h.bal⟩
  have := h.inv i
  exact ⟨this.1, this.2.1, tset_wf _ _ _ _ this.2.2⟩

theorem State.onQueue_kept {s0 : Start} {s : State} (q : Nat) (f : CmdQueue → CmdQueue) (hf : ∀ c, c.rpl.length ≤ 512 →
    (f c).rpl.length ≤ 512)
    (h : Kept s0 s) : Kept s0 (s.onQueue q f) := by
  refine ⟨h.pend, h.strap, fun i => ?_, h.bal⟩
  have := h.inv i
  refine ⟨this.1, fun k => ?_, this.2.2⟩
  have h2 := this.2.1
  unfold State.queue State.onQueue at *
  simp only [tget_tset]
  split
  · exact hf _ (h2 q)
  · exact h2 k

theorem State.onQueue_kept' {s0 : Start} {s : State} (q : Nat) (f : CmdQueue → CmdQueue)
    (hf : (s.queue q).rpl.length ≤ 512 → (f (s.queue q)).rpl.length ≤ 512)
    (h : Kept s0 s) : Kept s0 (s.onQueue q f) := by
  refine ⟨h.pend, h.strap, fun i => ?_, h.bal⟩
  have := h.inv i
  refine ⟨this.1, fun k => ?_, this.2.2⟩
  have h2 := this.2.1
  unfold State.queue State.onQueue at *
  simp only [tget_tset]
  split
  · exact hf (h2 q)
  · exact h2 k

theorem Flt.enqueue_len (f : Flt) (r : FaultRec) (h : f.queue.length ≤ 16) : (f.enqueue r).queue.length ≤ 16 := by
  unfold Flt.enqueue; split <;> simp_all <;> omega

theorem CmdQueue.give_len (q : CmdQueue) (r : Reply) (h : q.room r = true) : (q.give r).rpl.length ≤ 512 := by
  simp [CmdQueue.room, CmdQueue.give] at * <;> omega

theorem id_kept {s0 : Start} {s : State} (h : Kept s0 s) : Kept s0 (id s) := h

theorem State.recCount_kept {s0 : Start} {s : State} (k n : Nat) (h : Kept s0 s) : Kept s0 (s.recCount k n) := by
  unfold State.recCount; exact Kept.mk' h rfl rfl rfl rfl

theorem State.onTgt_kept {s0 : Start} {s : State} (k : Nat) (f) (h : Kept s0 s) : Kept s0 (s.onTgt k f) := by
  unfold State.onTgt State.putTgt; exact Kept.mk' h rfl rfl rfl rfl

theorem tget_all {α : Type} (d : Nat → α) (P : α → Prop) (l : Table α) (k : Nat) (hd : P (d k)) (h : ∀ p ∈ l, P p.2) :
    P (tget d l k) := by
  induction l with
  | nil => exact hd
  | cons a l ih =>
    unfold tget
    split
    · exact h a (by simp)
    · exact ih (fun p hp => h p (by simp [hp]))

theorem mem_tinsert {α : Type} (k : Nat) (v : α) (l : Table α) (p : Nat × α) (h : p ∈ tinsert k v l) : p = (k, v) ∨ p ∈
    l := by
  induction l with
  | nil => simp [tinsert] at h; exact .inl h
  | cons a l ih =>
    unfold tinsert at h
    split at h
    · simpa using h
    · rcases List.mem_cons.1 h with h | h
      · exact .inr (by simp [h])
      · rcases ih h with h | h
        · exact .inl h
        · exact .inr (by simp [h])

theorem mem_tset {α : Type} [DecidableEq α] (d : Nat → α) (l : Table α) (k : Nat) (v : α) (p : Nat × α) (h : p ∈ tset d
    l k v) : p.2 = v ∨ p ∈ l := by
  unfold tset at h
  split at h
  · exact .inr (List.mem_filter.1 h).1
  · rcases mem_tinsert _ _ _ _ h with h | h
    · exact .inl (by simp [h])
    · exact .inr (List.mem_filter.1 h).1

theorem State.ledger_bal {s : State} (h : s.conserved) (i : Nat) : (s.ledger i).balanced = true :=
  tget_all _ (fun l : Ledger => l.balanced = true) _ _ rfl h.1

end Sys2Proof.Machine
end

