-- ==== Sys2Proof/Laws/KeptOps.lean ====
section
/-! SUPPORT. What every operation of Machine/Ops.lean keeps. -/
namespace Sys2Proof.Machine

theorem State.onSource_kept {s0 : Start} (s : State) (e : Nat) (f : SrcRec → SrcRec) (hG : Kept s0 s) :
    Kept s0 (State.onSource s e f) := by
  unfold State.onSource
  try dsimp only
  iterate 25 (all_goals try with_reducible first
    | assumption | exact id_kept (by assumption) | apply State.putSource_kept | intro _ | split
    | refine Kept.mk' ?_ rfl rfl rfl rfl | dsimp only)

theorem State.putCtx_kept {s0 : Start} (s : State) (i : Nat) (c : Inst) (hG : Kept s0 s) :
    Kept s0 (State.putCtx s i c) := by
  unfold State.putCtx
  try dsimp only
  iterate 25 (all_goals try with_reducible first
    | assumption | exact id_kept (by assumption) | intro _ | split | refine Kept.mk' ?_ rfl rfl rfl rfl | dsimp only)

theorem State.onCtx_kept {s0 : Start} (s : State) (i : Nat) (f : Inst → Inst) (hG : Kept s0 s) :
    Kept s0 (State.onCtx s i f) := by
  unfold State.onCtx
  try dsimp only
  iterate 25 (all_goals try with_reducible first
    | assumption | exact id_kept (by assumption) | apply State.putCtx_kept | intro _ | split
    | refine Kept.mk' ?_ rfl rfl rfl rfl | dsimp only)

theorem State.putTgt_kept {s0 : Start} (s : State) (t : Nat) (c : Tgt) (hG : Kept s0 s) :
    Kept s0 (State.putTgt s t c) := by
  unfold State.putTgt
  try dsimp only
  iterate 25 (all_goals try with_reducible first
    | assumption | exact id_kept (by assumption) | intro _ | split | refine Kept.mk' ?_ rfl rfl rfl rfl | dsimp only)

theorem State.onPort_kept {s0 : Start} (s : State) (t : Nat) (f : Port → Port) (hG : Kept s0 s) :
    Kept s0 (State.onPort s t f) := by
  unfold State.onPort
  try dsimp only
  iterate 25 (all_goals try with_reducible first
    | assumption | exact id_kept (by assumption) | apply State.onTgt_kept | intro _ | split
    | refine Kept.mk' ?_ rfl rfl rfl rfl | dsimp only)

theorem State.onFar_kept {s0 : Start} (s : State) (t : Nat) (f : Far → Far) (hG : Kept s0 s) :
    Kept s0 (State.onFar s t f) := by
  unfold State.onFar
  try dsimp only
  iterate 25 (all_goals try with_reducible first
    | assumption | exact id_kept (by assumption) | apply State.onTgt_kept | intro _ | split
    | refine Kept.mk' ?_ rfl rfl rfl rfl | dsimp only)

theorem State.putGrp_kept {s0 : Start} (s : State) (g : Nat) (c : Group) (hG : Kept s0 s) :
    Kept s0 (State.putGrp s g c) := by
  unfold State.putGrp
  try dsimp only
  iterate 25 (all_goals try with_reducible first
    | assumption | exact id_kept (by assumption) | intro _ | split | refine Kept.mk' ?_ rfl rfl rfl rfl | dsimp only)

theorem State.onGrp_kept {s0 : Start} (s : State) (g : Nat) (f : Group → Group) (hG : Kept s0 s) :
    Kept s0 (State.onGrp s g f) := by
  unfold State.onGrp
  try dsimp only
  iterate 25 (all_goals try with_reducible first
    | assumption | exact id_kept (by assumption) | apply State.putGrp_kept | intro _ | split
    | refine Kept.mk' ?_ rfl rfl rfl rfl | dsimp only)

theorem State.onLink_kept {s0 : Start} (s : State) (g : Nat) (f : Link → Link) (hG : Kept s0 s) :
    Kept s0 (State.onLink s g f) := by
  unfold State.onLink
  try dsimp only
  iterate 25 (all_goals try with_reducible first
    | assumption | exact id_kept (by assumption) | intro _ | split | refine Kept.mk' ?_ rfl rfl rfl rfl | dsimp only)

theorem State.onChan_kept {s0 : Start} (s : State) (c : Nat) (f : InChan → InChan) (hG : Kept s0 s) :
    Kept s0 (State.onChan s c f) := by
  unfold State.onChan
  try dsimp only
  iterate 25 (all_goals try with_reducible first
    | assumption | exact id_kept (by assumption) | intro _ | split | refine Kept.mk' ?_ rfl rfl rfl rfl | dsimp only)

theorem State.onFarChan_kept {s0 : Start} (s : State) (f : Nat) (h : FarChan → FarChan) (hG : Kept s0 s) :
    Kept s0 (State.onFarChan s f h) := by
  unfold State.onFarChan
  try dsimp only
  iterate 25 (all_goals try with_reducible first
    | assumption | exact id_kept (by assumption) | intro _ | split | refine Kept.mk' ?_ rfl rfl rfl rfl | dsimp only)

theorem State.onLine_kept {s0 : Start} (s : State) (k : Nat) (f : Line → Line) (hG : Kept s0 s) :
    Kept s0 (State.onLine s k f) := by
  unfold State.onLine
  try dsimp only
  iterate 25 (all_goals try with_reducible first
    | assumption | exact id_kept (by assumption) | intro _ | split | refine Kept.mk' ?_ rfl rfl rfl rfl | dsimp only)

theorem State.putTrans_kept {s0 : Start} (s : State) (n : Nat) (v : TransEntry) (hG : Kept s0 s) :
    Kept s0 (State.putTrans s n v) := by
  unfold State.putTrans
  try dsimp only
  iterate 25 (all_goals try with_reducible first
    | assumption | exact id_kept (by assumption) | intro _ | split | refine Kept.mk' ?_ rfl rfl rfl rfl | dsimp only)

theorem State.putPage_kept {s0 : Start} (s : State) (n : Nat) (v : PageEntry) (hG : Kept s0 s) :
    Kept s0 (State.putPage s n v) := by
  unfold State.putPage
  try dsimp only
  iterate 25 (all_goals try with_reducible first
    | assumption | exact id_kept (by assumption) | intro _ | split | refine Kept.mk' ?_ rfl rfl rfl rfl | dsimp only)

theorem Ledger.move_bal (l : Ledger) (u : Tally) (h : l.balanced = true) : (l.move u).balanced = true := by
  unfold Ledger.balanced Ledger.rhs at *
  cases u <;> simp only [Ledger.move, inc64, dec64, beq_iff_eq] at * <;> omega
theorem State.ledge_kept {s0 : Start} (s : State) (i : Nat) (u : Tally) (hG : Kept s0 s) : Kept s0 (State.ledge s i u) := by
  unfold State.ledge
  dsimp only
  refine foldl_kept (fun _ _ h => State.recCount_kept _ _ h) ?_
  refine ⟨hG.pend, hG.strap, hG.inv, fun a b => ?_⟩
  have hb := hG.bal a b
  refine ⟨fun p hp => ?_, Ledger.move_bal _ _ hb.2⟩
  rcases mem_tset (fun _ => ({} : Ledger)) s.ldg.inst i ((s.ledger i).move u) _ hp with h | h
  · rw [h]; exact Ledger.move_bal _ _ (State.ledger_bal hb i)
  · exact hb.1 p h

theorem State.restoreCell_kept {s0 : Start} (s : State) (e : Nat) (hG : Kept s0 s) :
    Kept s0 (State.restoreCell s e) := by
  unfold State.restoreCell
  try dsimp only
  iterate 25 (all_goals try with_reducible first
    | assumption | exact id_kept (by assumption) | intro _ | split | refine Kept.mk' ?_ rfl rfl rfl rfl | dsimp only)

theorem State.commit_kept {s0 : Start} (s : State) (e : Nat) (r0 : SrcRec) (hG : Kept s0 s) :
    Kept s0 (State.commit s e r0) := by
  unfold State.commit
  try dsimp only
  iterate 25 (all_goals try with_reducible first
    | assumption | exact id_kept (by assumption) | apply State.putSource_kept | apply State.restoreCell_kept | intro _
    | split | refine Kept.mk' ?_ rfl rfl rfl rfl | dsimp only)

theorem State.linkTail_kept {s0 : Start} (s : State) (t p e : Nat) (hG : Kept s0 s) :
    Kept s0 (State.linkTail s t p e) := by
  unfold State.linkTail
  try dsimp only
  iterate 25 (all_goals try with_reducible first
    | assumption | exact id_kept (by assumption) | apply State.onTgt_kept | intro _ | split
    | refine Kept.mk' ?_ rfl rfl rfl rfl | dsimp only)

theorem State.unlinkLevel_kept {s0 : Start} (s : State) (t p e : Nat) (hG : Kept s0 s) :
    Kept s0 (State.unlinkLevel s t p e) := by
  unfold State.unlinkLevel
  try dsimp only
  iterate 25 (all_goals try with_reducible first
    | assumption | exact id_kept (by assumption) | apply State.onTgt_kept | intro _ | split
    | refine Kept.mk' ?_ rfl rfl rfl rfl | dsimp only)

theorem State.freeCell_kept {s0 : Start} (s : State) (e : Nat) (hG : Kept s0 s) :
    Kept s0 (State.freeCell s e) := by
  unfold State.freeCell
  try dsimp only
  iterate 25 (all_goals try with_reducible first
    | assumption | exact id_kept (by assumption) | apply State.putSource_kept | apply State.onCtx_kept
    | apply State.unlinkLevel_kept | intro _ | split | refine Kept.mk' ?_ rfl rfl rfl rfl | dsimp only)

theorem State.useCell_kept {s0 : Start} (s : State) (n : Nat) (hG : Kept s0 s) : Kept s0 (State.useCell s n) := by
  unfold State.useCell
  try dsimp only
  iterate 25 (all_goals try with_reducible first
    | assumption | exact id_kept (by assumption) | intro _ | split | refine Kept.mk' ?_ rfl rfl rfl rfl | dsimp only)

theorem State.poolWaits_kept {s0 : Start} (s : State) (hG : Kept s0 s) : Kept s0 (State.poolWaits s) := by
  unfold State.poolWaits
  try dsimp only
  iterate 25 (all_goals try with_reducible first
    | assumption | exact id_kept (by assumption) | intro _ | split | refine Kept.mk' ?_ rfl rfl rfl rfl | dsimp only)

theorem State.takePool_kept {s0 : Start} (s : State) (hG : Kept s0 s) : Kept s0 (State.takePool s).1 := by
  unfold State.takePool
  try dsimp only
  iterate 25 (all_goals try with_reducible first
    | assumption | exact id_kept (by assumption) | apply State.poolWaits_kept | apply State.useCell_kept | intro _
    | split | refine Kept.mk' ?_ rfl rfl rfl rfl | dsimp only)

theorem State.unlinkHeld_kept {s0 : Start} (s : State) (e : Nat) (hG : Kept s0 s) :
    Kept s0 (State.unlinkHeld s e) := by
  unfold State.unlinkHeld
  try dsimp only
  iterate 25 (all_goals try with_reducible first
    | assumption | exact id_kept (by assumption) | apply State.onTgt_kept | apply State.onCtx_kept
    | apply State.onGrp_kept | intro _ | split | refine Kept.mk' ?_ rfl rfl rfl rfl | dsimp only)

theorem State.countMember_kept {s0 : Start} (s : State) (e stamp : Nat) (hG : Kept s0 s) :
    Kept s0 (State.countMember s e stamp) := by
  unfold State.countMember
  try dsimp only
  iterate 25 (all_goals try with_reducible first
    | assumption | exact id_kept (by assumption) | intro _ | split | refine Kept.mk' ?_ rfl rfl rfl rfl | dsimp only)

theorem State.accept_kept {s0 : Start} (s : State) (e : Nat) (asLevel : Bool) (payload : BitVec 32) (stamp : Nat) (hG : Kept s0 s) :
    Kept s0 (State.accept s e asLevel payload stamp) := by
  unfold State.accept
  try dsimp only
  iterate 25 (all_goals try with_reducible first
    | assumption | exact id_kept (by assumption) | apply State.putSource_kept | apply State.countMember_kept
    | apply State.ledge_kept | intro _ | split | refine Kept.mk' ?_ rfl rfl rfl rfl | dsimp only)

theorem State.startSweep_kept {s0 : Start} (s : State) (n : SweepName) (hG : Kept s0 s) :
    Kept s0 (State.startSweep s n) := by
  unfold State.startSweep
  try dsimp only
  iterate 25 (all_goals try with_reducible first
    | assumption | exact id_kept (by assumption) | intro _ | split | refine Kept.mk' ?_ rfl rfl rfl rfl | dsimp only)

theorem State.endSweep_kept {s0 : Start} (s : State) (n : SweepName) (hG : Kept s0 s) :
    Kept s0 (State.endSweep s n) := by
  unfold State.endSweep
  try dsimp only
  iterate 25 (all_goals try with_reducible first
    | assumption | exact id_kept (by assumption) | intro _ | split | refine Kept.mk' ?_ rfl rfl rfl rfl | dsimp only)

theorem State.stageOk_kept {s0 : Start} (s : State) (part unit : Nat) (hG : Kept s0 s) :
    Kept s0 (State.stageOk s part unit) := by
  unfold State.stageOk
  try dsimp only
  iterate 25 (all_goals try with_reducible first
    | assumption | exact id_kept (by assumption) | intro _ | split | refine Kept.mk' ?_ rfl rfl rfl rfl | dsimp only)

theorem State.housePulse_kept {s0 : Start} (s : State) (n : Nat) (hG : Kept s0 s) :
    Kept s0 (State.housePulse s n) := by
  unfold State.housePulse
  try dsimp only
  iterate 25 (all_goals try with_reducible first
    | assumption | exact id_kept (by assumption) | apply State.accept_kept | apply State.commit_kept
    | apply State.stageOk_kept | intro _ | split | refine Kept.mk' ?_ rfl rfl rfl rfl | dsimp only)

theorem State.raiseHouse_kept {s0 : Start} (s : State) (n : Nat) (hG : Kept s0 s) :
    Kept s0 (State.raiseHouse s n) := by
  unfold State.raiseHouse
  try dsimp only
  iterate 25 (all_goals try with_reducible first
    | assumption | exact id_kept (by assumption) | apply State.housePulse_kept | intro _ | split
    | refine Kept.mk' ?_ rfl rfl rfl rfl | dsimp only)

theorem State.linkHeld_kept {s0 : Start} (s : State) (e : Nat) (hG : Kept s0 s) :
    Kept s0 (State.linkHeld s e) := by
  unfold State.linkHeld
  try dsimp only
  iterate 25 (all_goals try with_reducible first
    | assumption | exact id_kept (by assumption) | apply State.onTgt_kept | apply State.onCtx_kept
    | apply State.onGrp_kept | apply State.putCtx_kept | apply State.raiseHouse_kept | intro _ | split
    | refine Kept.mk' ?_ rfl rfl rfl rfl | dsimp only)

theorem State.reply_kept {s0 : Start} (s : State) (n : Nat) (r : Reply)  (hG : Kept s0 s) : Kept s0 (State.reply s n r) := by
  unfold State.reply
  dsimp only
  split
  · rename_i hc
    apply State.raiseHouse_kept
    refine ⟨hG.pend, hG.strap, fun i => ?_, hG.bal⟩
    have := hG.inv i
    refine ⟨this.1, fun k => ?_, this.2.2⟩
    have h2 := this.2.1
    unfold State.queue State.onQueue at *
    simp only [tget_tset]
    split
    · simp only [Bool.and_eq_true] at hc
      exact CmdQueue.give_len _ _ hc.2
    · exact h2 k
  · exact State.onQueue_kept _ _ (fun _ h => h) hG

theorem State.clamp_kept {s0 : Start} (s : State) (id wr ap : Nat) (wide enum : Bool) (width : Nat) (hG : Kept s0 s) :
    Kept s0 (State.clamp s id wr ap wide enum width) := by
  unfold State.clamp
  try dsimp only
  iterate 25 (all_goals try with_reducible first
    | assumption | exact id_kept (by assumption) | apply State.recCount_kept | apply State.raiseHouse_kept | intro _
    | split | refine Kept.mk' ?_ rfl rfl rfl rfl | dsimp only)

theorem State.recordClamps_kept {s0 : Start} (s : State) (q opcode : Nat) (cs : List Clamped) (hG : Kept s0 s) :
    Kept s0 (State.recordClamps s q opcode cs) := by
  unfold State.recordClamps
  try dsimp only
  iterate 25 (all_goals try with_reducible first
    | assumption | exact id_kept (by assumption) | apply State.clamp_kept | refine forEach_kept (fun _ _ _ => ?_) ?_
    | intro _ | split | refine Kept.mk' ?_ rfl rfl rfl rfl | dsimp only)

theorem State.notice_kept {s0 : Start} (s : State) (master : Nat) (priv space : Bool) (reason kind slot chan inst : Nat) (hG : Kept s0 s) :
    Kept s0 (State.notice s master priv space reason kind slot chan inst) := by
  unfold State.notice
  try dsimp only
  iterate 25 (all_goals try with_reducible first
    | assumption | exact id_kept (by assumption) | apply State.raiseHouse_kept | intro _ | split
    | refine Kept.mk' ?_ rfl rfl rfl rfl | dsimp only)

theorem State.refuse_kept {s0 : Start} (s : State) (reason kind : Nat) (f : PulseFrom) (inst : Nat) (hG : Kept s0 s) :
    Kept s0 (State.refuse s reason kind f inst) := by
  unfold State.refuse
  try dsimp only
  iterate 25 (all_goals try with_reducible first
    | assumption | exact id_kept (by assumption) | apply State.ledge_kept | apply State.notice_kept | intro _ | split
    | refine Kept.mk' ?_ rfl rfl rfl rfl | dsimp only)

theorem Flt.write_len (f : Flt) (a b c d e g) (h : f.queue.length ≤ 16) : (f.write a b c d e g).queue.length ≤ 16 := by
  unfold Flt.write
  exact Flt.enqueue_len _ _ h
theorem State.report_kept {s0 : Start} (s : State) (cls base info : Nat)  (hG : Kept s0 s) : Kept s0 (State.report s cls base info) := by
  unfold State.report
  extract_lets stamp s1 p up sev x s2 into y s3
  have h1 : Kept s0 s1 := by
    unfold s1; split
    · assumption
    · exact State.recCount_kept _ _ hG
  have h2 : Kept s0 s2 := by
    unfold s2; split
    · exact Kept.mk' h1 rfl rfl rfl rfl
    · assumption
  have h3 : Kept s0 s3 := by
    unfold s3
    clear_value into
    cases into
    case some => exact Kept.mk' h2 rfl rfl rfl rfl
    case none =>
      apply State.raiseHouse_kept
      exact Kept.mk2 h2 (Flt.write_len _ _ _ _ _ _ _) rfl rfl rfl
  exact Kept.mk' h3 rfl rfl rfl rfl

theorem State.nibNotice_kept {s0 : Start} (s : State) (t k : Nat) (hG : Kept s0 s) :
    Kept s0 (State.nibNotice s t k) := by
  unfold State.nibNotice
  try dsimp only
  iterate 25 (all_goals try with_reducible first
    | assumption | exact id_kept (by assumption) | apply State.onPort_kept | apply State.report_kept | intro _ | split
    | refine Kept.mk' ?_ rfl rfl rfl rfl | dsimp only)

end Sys2Proof.Machine
end

