-- ==== Sys2Proof/Laws/KeptPresent.lean ====
section
/-! SUPPORT. What every operation of Machine/Present.lean keeps. -/
namespace Sys2Proof.Machine

theorem State.sendFlit_kept {s0 : Start} (s : State) (t kind pseq payload : Nat) (hG : Kept s0 s) :
    Kept s0 (State.sendFlit s t kind pseq payload) := by
  unfold State.sendFlit
  try dsimp only
  iterate 25 (all_goals try with_reducible first
    | assumption | exact id_kept (by assumption) | apply State.onLink_kept | intro _ | split
    | refine Kept.mk' ?_ rfl rfl rfl rfl | dsimp only)

theorem State.sendSettings_kept {s0 : Start} (s : State) (t : Nat) (hG : Kept s0 s) :
    Kept s0 (State.sendSettings s t) := by
  unfold State.sendSettings
  try dsimp only
  iterate 25 (all_goals try with_reducible first
    | assumption | exact id_kept (by assumption) | apply State.sendFlit_kept | intro _ | split
    | refine Kept.mk' ?_ rfl rfl rfl rfl | dsimp only)

theorem State.showAt_kept {s0 : Start} (s : State) (t : Nat) (vaddr : BitVec 50) (eid prio vector : Nat) (blot : Bool) (hG : Kept s0 s) :
    Kept s0 (State.showAt s t vaddr eid prio vector blot) := by
  unfold State.showAt
  try dsimp only
  iterate 25 (all_goals try with_reducible first
    | assumption | exact id_kept (by assumption) | apply State.onPort_kept | apply State.sendFlit_kept | intro _
    | split | refine Kept.mk' ?_ rfl rfl rfl rfl | dsimp only)

theorem State.present_kept {s0 : Start} (s : State) (t e : Nat) (hG : Kept s0 s) :
    Kept s0 (State.present s t e) := by
  unfold State.present
  try dsimp only
  iterate 25 (all_goals try with_reducible first
    | assumption | exact id_kept (by assumption) | apply State.putSource_kept | apply State.onTgt_kept
    | apply State.showAt_kept | intro _ | split | refine Kept.mk' ?_ rfl rfl rfl rfl | dsimp only)

theorem State.presentBlot_kept {s0 : Start} (s : State) (t p : Nat) (hG : Kept s0 s) :
    Kept s0 (State.presentBlot s t p) := by
  unfold State.presentBlot
  try dsimp only
  iterate 25 (all_goals try with_reducible first
    | assumption | exact id_kept (by assumption) | apply State.recCount_kept | apply State.onTgt_kept
    | apply State.showAt_kept | intro _ | split | refine Kept.mk' ?_ rfl rfl rfl rfl | dsimp only)

theorem State.clearShown_kept {s0 : Start} (s : State) (t : Nat) (hG : Kept s0 s) :
    Kept s0 (State.clearShown s t) := by
  unfold State.clearShown
  try dsimp only
  iterate 25 (all_goals try with_reducible first
    | assumption | exact id_kept (by assumption) | apply State.onTgt_kept | intro _ | split
    | refine Kept.mk' ?_ rfl rfl rfl rfl | dsimp only)

theorem State.byCluster_kept {s0 : Start} (s : State) (c : Nat) (waiting : List (Fin 512)) (i : Nat) (run : State → State) (h_run : ∀ s, Kept s0 s → Kept s0 (run s)) (hG : Kept s0 s) :
    Kept s0 (State.byCluster s c waiting i run) := by
  unfold State.byCluster
  try dsimp only
  iterate 25 (all_goals try with_reducible first
    | assumption | exact id_kept (by assumption) | apply h_run | apply State.stageOk_kept | intro _ | split
    | refine Kept.mk' ?_ rfl rfl rfl rfl | dsimp only)

theorem State.reportRun_kept {s0 : Start} (s : State) (t v : Nat) (hG : Kept s0 s) :
    Kept s0 (State.reportRun s t v) := by
  unfold State.reportRun
  try dsimp only
  iterate 25 (all_goals try with_reducible first
    | assumption | exact id_kept (by assumption) | apply State.onTgt_kept | intro _ | split
    | refine Kept.mk' ?_ rfl rfl rfl rfl | dsimp only)

theorem State.latency_kept {s0 : Start} (s : State) (t stamp : Nat) (hG : Kept s0 s) :
    Kept s0 (State.latency s t stamp) := by
  unfold State.latency
  try dsimp only
  iterate 25 (all_goals try with_reducible first
    | assumption | exact id_kept (by assumption) | intro _ | split | refine Kept.mk' ?_ rfl rfl rfl rfl | dsimp only)

end Sys2Proof.Machine
end

