-- ==== Sys2Proof/Laws/KeptModeration.lean ====
section
/-! SUPPORT. What every operation of Machine/Moderation.lean keeps. -/
namespace Sys2Proof.Machine

theorem State.sizeUp_kept {s0 : Start} (s : State) (n : Nat) (hG : Kept s0 s) : Kept s0 (State.sizeUp s n) := by
  unfold State.sizeUp
  try dsimp only
  iterate 25 (all_goals try with_reducible first
    | assumption | exact id_kept (by assumption) | intro _ | split | refine Kept.mk' ?_ rfl rfl rfl rfl | dsimp only)

theorem State.release_kept {s0 : Start} (s : State) (g cause closed : Nat) (hG : Kept s0 s) :
    Kept s0 (State.release s g cause closed) := by
  unfold State.release
  try dsimp only
  iterate 25 (all_goals try with_reducible first
    | assumption | exact id_kept (by assumption) | apply State.putGrp_kept | apply State.sizeUp_kept
    | apply State.takePool_kept | intro _ | split | refine Kept.mk' ?_ rfl rfl rfl rfl | dsimp only)

theorem State.releaseNow_kept {s0 : Start} (s : State) (g cause : Nat) (hG : Kept s0 s) :
    Kept s0 (State.releaseNow s g cause) := by
  unfold State.releaseNow
  try dsimp only
  iterate 25 (all_goals try with_reducible first
    | assumption | exact id_kept (by assumption) | apply State.release_kept | intro _ | split
    | refine Kept.mk' ?_ rfl rfl rfl rfl | dsimp only)

theorem State.bypass_kept {s0 : Start} (s : State) (g : Nat) (hG : Kept s0 s) : Kept s0 (State.bypass s g) := by
  unfold State.bypass
  try dsimp only
  iterate 25 (all_goals try with_reducible first
    | assumption | exact id_kept (by assumption) | apply State.releaseNow_kept | intro _ | split
    | refine Kept.mk' ?_ rfl rfl rfl rfl | dsimp only)

theorem State.bypassFor_kept {s0 : Start} (s : State) (t : Nat) (hG : Kept s0 s) :
    Kept s0 (State.bypassFor s t) := by
  unfold State.bypassFor
  try dsimp only
  iterate 25 (all_goals try with_reducible first
    | assumption | exact id_kept (by assumption) | apply State.bypass_kept | refine forEach_kept (fun _ _ _ => ?_) ?_
    | intro _ | split | refine Kept.mk' ?_ rfl rfl rfl rfl | dsimp only)

theorem State.joinGroup_kept {s0 : Start} (s : State) (e : Nat) (hG : Kept s0 s) :
    Kept s0 (State.joinGroup s e) := by
  unfold State.joinGroup
  try dsimp only
  iterate 25 (all_goals try with_reducible first
    | assumption | exact id_kept (by assumption) | apply State.putSource_kept | apply State.bypass_kept
    | apply State.linkHeld_kept | apply State.onGrp_kept | intro _ | split | refine Kept.mk' ?_ rfl rfl rfl rfl
    | dsimp only)

theorem State.groupCount_kept {s0 : Start} (s : State) (x : LigCount) (hG : Kept s0 s) :
    Kept s0 (State.groupCount s x) := by
  unfold State.groupCount
  try dsimp only
  iterate 25 (all_goals try with_reducible first
    | assumption | exact id_kept (by assumption) | apply State.putGrp_kept | apply State.release_kept | intro _ | split
    | refine Kept.mk' ?_ rfl rfl rfl rfl | dsimp only)

end Sys2Proof.Machine
end

