-- ==== Sys2Proof/Laws/KeptPlacing.lean ====
section
/-! SUPPORT. What every operation of Machine/Placing.lean keeps. -/
namespace Sys2Proof.Machine

theorem State.enqueue_kept {s0 : Start} (s : State) (e : Nat) (hG : Kept s0 s) : Kept s0 (State.enqueue s e) := by
  unfold State.enqueue
  try dsimp only
  iterate 25 (all_goals try with_reducible first
    | assumption | exact id_kept (by assumption) | apply State.putSource_kept | apply State.linkTail_kept
    | apply State.onCtx_kept | intro _ | split | refine Kept.mk' ?_ rfl rfl rfl rfl | dsimp only)

theorem State.hold_kept {s0 : Start} (s : State) (e : Nat) (f : Held → Held) (hG : Kept s0 s) :
    Kept s0 (State.hold s e f) := by
  unfold State.hold
  try dsimp only
  iterate 25 (all_goals try with_reducible first
    | assumption | exact id_kept (by assumption) | apply State.linkHeld_kept | apply State.onSource_kept | intro _
    | split | refine Kept.mk' ?_ rfl rfl rfl rfl | dsimp only)

theorem State.holdCarried_kept {s0 : Start} (s : State) (e : Nat) (carried : Bool) (f : Held → Held) (hG : Kept s0 s) :
    Kept s0 (State.holdCarried s e carried f) := by
  unfold State.holdCarried
  try dsimp only
  iterate 25 (all_goals try with_reducible first
    | assumption | exact id_kept (by assumption) | apply State.hold_kept | apply State.onSource_kept | intro _ | split
    | refine Kept.mk' ?_ rfl rfl rfl rfl | dsimp only)

theorem State.rateOrQueue_kept {s0 : Start} (s : State) (e : Nat) (left : Left) (hG : Kept s0 s) :
    Kept s0 (State.rateOrQueue s e left) := by
  unfold State.rateOrQueue
  try dsimp only
  iterate 25 (all_goals try with_reducible first
    | assumption | exact id_kept (by assumption) | apply State.enqueue_kept | apply State.holdCarried_kept
    | apply State.onCtx_kept | intro _ | split | refine Kept.mk' ?_ rfl rfl rfl rfl | dsimp only)

theorem State.queueOrHold_kept {s0 : Start} (s : State) (e : Nat) (left : Left) (hG : Kept s0 s) :
    Kept s0 (State.queueOrHold s e left) := by
  unfold State.queueOrHold
  try dsimp only
  iterate 25 (all_goals try with_reducible first
    | assumption | exact id_kept (by assumption) | apply State.holdCarried_kept | apply State.joinGroup_kept
    | apply State.rateOrQueue_kept | intro _ | split | refine Kept.mk' ?_ rfl rfl rfl rfl | dsimp only)

theorem State.placeNow_kept {s0 : Start} (s : State) (e : Nat) (left : Left) (hG : Kept s0 s) :
    Kept s0 (State.placeNow s e left) := by
  unfold State.placeNow
  try dsimp only
  iterate 25 (all_goals try with_reducible first
    | assumption | exact id_kept (by assumption) | apply State.commit_kept | apply State.queueOrHold_kept | intro _
    | split | refine Kept.mk' ?_ rfl rfl rfl rfl | dsimp only)

theorem State.releaseFrom_kept {s0 : Start} (s : State) (e : Nat) (f : Held → Held) (left : Left) (hG : Kept s0 s) :
    Kept s0 (State.releaseFrom s e f left) := by
  unfold State.releaseFrom
  try dsimp only
  iterate 25 (all_goals try with_reducible first
    | assumption | exact id_kept (by assumption) | apply State.commit_kept | apply State.linkHeld_kept
    | apply State.onSource_kept | apply State.queueOrHold_kept | apply State.unlinkHeld_kept | intro _ | split
    | refine Kept.mk' ?_ rfl rfl rfl rfl | dsimp only)

theorem State.guestIn_kept {s0 : Start} (s : State) (t i : Nat) (hG : Kept s0 s) :
    Kept s0 (State.guestIn s t i) := by
  unfold State.guestIn
  try dsimp only
  iterate 25 (all_goals try with_reducible first
    | assumption | exact id_kept (by assumption) | apply State.onTgt_kept | intro _ | split
    | refine Kept.mk' ?_ rfl rfl rfl rfl | dsimp only)

theorem State.guestOut_kept {s0 : Start} (s : State) (t i : Nat) (hG : Kept s0 s) :
    Kept s0 (State.guestOut s t i) := by
  unfold State.guestOut
  try dsimp only
  iterate 25 (all_goals try with_reducible first
    | assumption | exact id_kept (by assumption) | apply State.onTgt_kept | intro _ | split
    | refine Kept.mk' ?_ rfl rfl rfl rfl | dsimp only)

theorem State.reroute_kept {s0 : Start} (s : State) (e t i : Nat) (hG : Kept s0 s) :
    Kept s0 (State.reroute s e t i) := by
  unfold State.reroute
  try dsimp only
  iterate 25 (all_goals try with_reducible first
    | assumption | exact id_kept (by assumption) | apply State.guestIn_kept | apply State.guestOut_kept
    | apply State.onSource_kept | intro _ | split | refine Kept.mk' ?_ rfl rfl rfl rfl | dsimp only)

theorem State.splice_kept {s0 : Start} (s : State) (t : Nat) (hG : Kept s0 s) : Kept s0 (State.splice s t) := by
  unfold State.splice
  try dsimp only
  iterate 25 (all_goals try with_reducible first
    | assumption | exact id_kept (by assumption) | apply State.onTgt_kept | apply State.onSource_kept
    | refine forEach_kept (fun _ _ _ => ?_) ?_ | intro _ | split | refine Kept.mk' ?_ rfl rfl rfl rfl | dsimp only)

theorem State.trySplice_kept {s0 : Start} (s : State) (t : Nat) (hG : Kept s0 s) :
    Kept s0 (State.trySplice s t) := by
  unfold State.trySplice
  try dsimp only
  iterate 25 (all_goals try with_reducible first
    | assumption | exact id_kept (by assumption) | apply State.splice_kept | intro _ | split
    | refine Kept.mk' ?_ rfl rfl rfl rfl | dsimp only)

theorem State.settleSplice_kept {s0 : Start} (s : State) (t : Nat) (hG : Kept s0 s) :
    Kept s0 (State.settleSplice s t) := by
  unfold State.settleSplice
  try dsimp only
  iterate 25 (all_goals try with_reducible first
    | assumption | exact id_kept (by assumption) | apply State.onTgt_kept | apply State.startSweep_kept
    | apply State.trySplice_kept | intro _ | split | refine Kept.mk' ?_ rfl rfl rfl rfl | dsimp only)

end Sys2Proof.Machine
end

