-- ==== Sys2Proof/Laws/KeptDefer.lean ====
section
/-! SUPPORT. What every operation of Machine/Defer.lean keeps. -/
namespace Sys2Proof.Machine

theorem State.answer_kept {s0 : Start} (s : State) (d : Deferred) (status : Nat) (result : List (BitVec 64)) (hG : Kept s0 s) :
    Kept s0 (State.answer s d status result) := by
  unfold State.answer
  try dsimp only
  iterate 25 (all_goals try with_reducible first
    | assumption | exact id_kept (by assumption) | apply State.reply_kept | intro _ | split
    | refine Kept.mk' ?_ rfl rfl rfl rfl | dsimp only)

theorem State.settleFences_kept {s0 : Start} (s : State) (hG : Kept s0 s) : Kept s0 (State.settleFences s) := by
  unfold State.settleFences
  try dsimp only
  iterate 25 (all_goals try with_reducible first
    | assumption | exact id_kept (by assumption) | apply State.answer_kept | refine forEach_kept (fun _ _ _ => ?_) ?_
    | intro _ | split | refine Kept.mk' ?_ rfl rfl rfl rfl | dsimp only)

theorem State.second_kept {s0 : Start} (s : State) (d : Deferred) (status : Nat) (result : List (BitVec 64)) (hG : Kept s0 s) :
    Kept s0 (State.second s d status result) := by
  unfold State.second
  try dsimp only
  iterate 25 (all_goals try with_reducible first
    | assumption | exact id_kept (by assumption) | apply State.answer_kept | apply State.settleFences_kept | intro _
    | split | refine Kept.mk' ?_ rfl rfl rfl rfl | dsimp only)

theorem State.finishWork_kept {s0 : Start} (s : State) (w : Work) (status : Nat) (result : List (BitVec 64)) (hG : Kept s0 s) :
    Kept s0 (State.finishWork s w status result) := by
  unfold State.finishWork
  try dsimp only
  iterate 25 (all_goals try with_reducible first
    | assumption | exact id_kept (by assumption) | apply State.second_kept | refine forEach_kept (fun _ _ _ => ?_) ?_
    | intro _ | split | refine Kept.mk' ?_ rfl rfl rfl rfl | dsimp only)

theorem State.rework_kept {s0 : Start} (s : State) (id : Nat) (w : Work) (hG : Kept s0 s) :
    Kept s0 (State.rework s id w) := by
  unfold State.rework
  try dsimp only
  iterate 25 (all_goals try with_reducible first
    | assumption | exact id_kept (by assumption) | intro _ | split | refine Kept.mk' ?_ rfl rfl rfl rfl | dsimp only)

theorem State.joinDeferred_kept {s0 : Start} (s : State) (d : Deferred) (hG : Kept s0 s) :
    Kept s0 (State.joinDeferred s d) := by
  unfold State.joinDeferred
  try dsimp only
  iterate 25 (all_goals try with_reducible first
    | assumption | exact id_kept (by assumption) | intro _ | split | refine Kept.mk' ?_ rfl rfl rfl rfl | dsimp only)

theorem State.issued_kept {s0 : Start} (s : State) (hG : Kept s0 s) : Kept s0 (State.issued s) := by
  unfold State.issued
  try dsimp only
  iterate 25 (all_goals try with_reducible first
    | assumption | exact id_kept (by assumption) | intro _ | split | refine Kept.mk' ?_ rfl rfl rfl rfl | dsimp only)

theorem State.defer_kept {s0 : Start} (s : State) (q tag opcode : Nat) (clamped : Bool) (w : Work) (hG : Kept s0 s) :
    Kept s0 (State.defer s q tag opcode clamped w) := by
  unfold State.defer
  try dsimp only
  iterate 25 (all_goals try with_reducible first
    | assumption | exact id_kept (by assumption) | apply State.issued_kept | apply State.joinDeferred_kept | intro _
    | split | refine Kept.mk' ?_ rfl rfl rfl rfl | dsimp only)

theorem State.partsDrained_kept {s0 : Start} (s : State) (e : Nat) (hG : Kept s0 s) :
    Kept s0 (State.partsDrained s e) := by
  unfold State.partsDrained
  try dsimp only
  iterate 25 (all_goals try with_reducible first
    | assumption | exact id_kept (by assumption) | intro _ | split | refine Kept.mk' ?_ rfl rfl rfl rfl | dsimp only)

theorem State.sourceReplies_kept {s0 : Start} (s : State) (e : Nat) (hG : Kept s0 s) :
    Kept s0 (State.sourceReplies s e) := by
  unfold State.sourceReplies
  try dsimp only
  iterate 25 (all_goals try with_reducible first
    | assumption | exact id_kept (by assumption) | apply State.partsDrained_kept | apply State.rework_kept
    | apply State.second_kept | refine forEach_kept (fun _ _ _ => ?_) ?_ | intro _ | split
    | refine Kept.mk' ?_ rfl rfl rfl rfl | dsimp only)

theorem State.cancelEnables_kept {s0 : Start} (s : State) (e : Nat) (hG : Kept s0 s) :
    Kept s0 (State.cancelEnables s e) := by
  unfold State.cancelEnables
  try dsimp only
  iterate 25 (all_goals try with_reducible first
    | assumption | exact id_kept (by assumption) | intro _ | split | refine Kept.mk' ?_ rfl rfl rfl rfl | dsimp only)

theorem State.cancelWork_kept {s0 : Start} (s : State) (up : Work) (kind obj : Nat) (hG : Kept s0 s) :
    Kept s0 (State.cancelWork s up kind obj) := by
  unfold State.cancelWork
  try dsimp only
  iterate 25 (all_goals try with_reducible first
    | assumption | exact id_kept (by assumption) | intro _ | split | refine Kept.mk' ?_ rfl rfl rfl rfl | dsimp only)

theorem State.objectReplies_kept {s0 : Start} (s : State) (up down : Work) (kind obj : Nat) (result : State → List (BitVec 64)) (hG : Kept s0 s) :
    Kept s0 (State.objectReplies s up down kind obj result) := by
  unfold State.objectReplies
  try dsimp only
  iterate 25 (all_goals try with_reducible first
    | assumption | exact id_kept (by assumption) | apply State.second_kept | refine forEach_kept (fun _ _ _ => ?_) ?_
    | intro _ | split | refine Kept.mk' ?_ rfl rfl rfl rfl | dsimp only)

end Sys2Proof.Machine
end

