-- ==== Sys2Proof/Laws/KeptBank.lean ====
section
/-! SUPPORT. What every operation of Machine/Bank.lean keeps. -/
namespace Sys2Proof.Machine

theorem State.park_kept {s0 : Start} (s : State) (e : Nat) (o : Order) (hG : Kept s0 s) :
    Kept s0 (State.park s e o) := by
  unfold State.park
  try dsimp only
  iterate 25 (all_goals try with_reducible first
    | assumption | exact id_kept (by assumption) | intro _ | split | refine Kept.mk' ?_ rfl rfl rfl rfl | dsimp only)

theorem State.endPending_kept {s0 : Start} (s : State) (e : Nat) (u : Tally) (st : SrcState) (hG : Kept s0 s) :
    Kept s0 (State.endPending s e u st) := by
  unfold State.endPending
  try dsimp only
  iterate 25 (all_goals try with_reducible first
    | assumption | exact id_kept (by assumption) | apply State.freeCell_kept | apply State.ledge_kept
    | apply State.onSource_kept | apply State.unlinkHeld_kept | intro _ | split | refine Kept.mk' ?_ rfl rfl rfl rfl
    | dsimp only)

theorem State.endService_kept {s0 : Start} (s : State) (e : Nat) (hG : Kept s0 s) :
    Kept s0 (State.endService s e) := by
  unfold State.endService
  try dsimp only
  iterate 25 (all_goals try with_reducible first
    | assumption | exact id_kept (by assumption) | apply State.onFar_kept | intro _ | split
    | refine Kept.mk' ?_ rfl rfl rfl rfl | dsimp only)

theorem State.endActive_kept {s0 : Start} (s : State) (e : Nat) (hG : Kept s0 s) :
    Kept s0 (State.endActive s e) := by
  unfold State.endActive
  try dsimp only
  iterate 25 (all_goals try with_reducible first
    | assumption | exact id_kept (by assumption) | apply State.endService_kept | apply State.onSource_kept | intro _
    | split | refine Kept.mk' ?_ rfl rfl rfl rfl | dsimp only)

theorem State.enabledNow_kept {s0 : Start} (s : State) (e : Nat) (hG : Kept s0 s) :
    Kept s0 (State.enabledNow s e) := by
  unfold State.enabledNow
  try dsimp only
  iterate 25 (all_goals try with_reducible first
    | assumption | exact id_kept (by assumption) | apply State.putSource_kept | apply State.accept_kept | intro _
    | split | refine Kept.mk' ?_ rfl rfl rfl rfl | dsimp only)

theorem State.drainCheck_kept {s0 : Start} (s : State) (e : Nat) (hG : Kept s0 s) :
    Kept s0 (State.drainCheck s e) := by
  unfold State.drainCheck
  try dsimp only
  iterate 25 (all_goals try with_reducible first
    | assumption | exact id_kept (by assumption) | apply State.putSource_kept | apply State.enabledNow_kept
    | apply State.sourceReplies_kept | intro _ | split | refine Kept.mk' ?_ rfl rfl rfl rfl | dsimp only)

theorem State.startWithdrawal_kept {s0 : Start} (s : State) (e : Nat) (cause : WCause) (hG : Kept s0 s) :
    Kept s0 (State.startWithdrawal s e cause) := by
  unfold State.startWithdrawal
  try dsimp only
  iterate 25 (all_goals try with_reducible first
    | assumption | exact id_kept (by assumption) | apply State.putSource_kept | apply State.onTgt_kept
    | apply State.sendFlit_kept | intro _ | split | refine Kept.mk' ?_ rfl rfl rfl rfl | dsimp only)

theorem State.discard_kept {s0 : Start} (s : State) (e : Nat) (u : Tally) (cause : WCause) (hG : Kept s0 s) :
    Kept s0 (State.discard s e u cause) := by
  unfold State.discard
  try dsimp only
  iterate 25 (all_goals try with_reducible first
    | assumption | exact id_kept (by assumption) | apply State.putSource_kept | apply State.drainCheck_kept
    | apply State.endActive_kept | apply State.endPending_kept | apply State.endService_kept
    | apply State.startWithdrawal_kept | intro _ | split | refine Kept.mk' ?_ rfl rfl rfl rfl | dsimp only)

theorem State.discardStale_kept {s0 : Start} (s : State) (e : Nat) (hG : Kept s0 s) :
    Kept s0 (State.discardStale s e) := by
  unfold State.discardStale
  try dsimp only
  iterate 25 (all_goals try with_reducible first
    | assumption | exact id_kept (by assumption) | apply State.discard_kept | apply State.onCtx_kept | intro _ | split
    | refine Kept.mk' ?_ rfl rfl rfl rfl | dsimp only)

theorem State.staleFirst_kept {s0 : Start} (s : State) (e : Nat) (hG : Kept s0 s) :
    Kept s0 (State.staleFirst s e) := by
  unfold State.staleFirst
  try dsimp only
  iterate 25 (all_goals try with_reducible first
    | assumption | exact id_kept (by assumption) | apply State.discardStale_kept | intro _ | split
    | refine Kept.mk' ?_ rfl rfl rfl rfl | dsimp only)

theorem State.atBank_kept {s0 : Start} (s : State) (e : Nat) (f : State → State) (h_f : ∀ s, Kept s0 s → Kept s0 (f s)) (hG : Kept s0 s) :
    Kept s0 (State.atBank s e f) := by
  unfold State.atBank
  try dsimp only
  iterate 25 (all_goals try with_reducible first
    | assumption | exact id_kept (by assumption) | apply h_f | apply State.commit_kept | apply State.stageOk_kept
    | apply State.staleFirst_kept | intro _ | split | refine Kept.mk' ?_ rfl rfl rfl rfl | dsimp only)

theorem State.honour_kept {s0 : Start} (s : State) (t e q : Nat) (hG : Kept s0 s) :
    Kept s0 (State.honour s t e q) := by
  unfold State.honour
  try dsimp only
  iterate 25 (all_goals try with_reducible first
    | assumption | exact id_kept (by assumption) | apply State.onTgt_kept | apply State.freeCell_kept
    | apply State.latency_kept | apply State.ledge_kept | apply State.onSource_kept | intro _ | split
    | refine Kept.mk' ?_ rfl rfl rfl rfl | dsimp only)

theorem State.doneRecord_kept {s0 : Start} (s : State) (t e : Nat) (hG : Kept s0 s) :
    Kept s0 (State.doneRecord s t e) := by
  unfold State.doneRecord
  try dsimp only
  iterate 25 (all_goals try with_reducible first
    | assumption | exact id_kept (by assumption) | apply State.putSource_kept | apply State.onTgt_kept
    | apply State.accept_kept | apply State.drainCheck_kept | apply State.linkHeld_kept | intro _ | split
    | refine Kept.mk' ?_ rfl rfl rfl rfl | dsimp only)

theorem State.doneNow_kept {s0 : Start} (s : State) (t e : Nat) (hG : Kept s0 s) :
    Kept s0 (State.doneNow s t e) := by
  unfold State.doneNow
  try dsimp only
  iterate 25 (all_goals try with_reducible first
    | assumption | exact id_kept (by assumption) | apply State.doneRecord_kept | apply State.endService_kept | intro _
    | split | refine Kept.mk' ?_ rfl rfl rfl rfl | dsimp only)

theorem State.takeNow_kept {s0 : Start} (s : State) (t e q : Nat) (hG : Kept s0 s) :
    Kept s0 (State.takeNow s t e q) := by
  unfold State.takeNow
  try dsimp only
  iterate 25 (all_goals try with_reducible first
    | assumption | exact id_kept (by assumption) | apply State.doneRecord_kept | apply State.honour_kept
    | apply State.onFar_kept | intro _ | split | refine Kept.mk' ?_ rfl rfl rfl rfl | dsimp only)

theorem State.freeRelay_kept {s0 : Start} (s : State) (e : Nat) (hG : Kept s0 s) :
    Kept s0 (State.freeRelay s e) := by
  unfold State.freeRelay
  try dsimp only
  iterate 25 (all_goals try with_reducible first
    | assumption | exact id_kept (by assumption) | intro _ | split | refine Kept.mk' ?_ rfl rfl rfl rfl | dsimp only)

theorem State.relayDone_kept {s0 : Start} (s : State) (e : Nat) (f : PulseFrom) (refused : Bool) (hG : Kept s0 s) :
    Kept s0 (State.relayDone s e f refused) := by
  unfold State.relayDone
  try dsimp only
  iterate 25 (all_goals try with_reducible first
    | assumption | exact id_kept (by assumption) | apply State.freeRelay_kept | intro _ | split
    | refine Kept.mk' ?_ rfl rfl rfl rfl | dsimp only)

theorem State.applyPulse_kept {s0 : Start} (s : State) (e : Nat) (payload : BitVec 32) (stamp : Nat) (f : PulseFrom) (hG : Kept s0 s) :
    Kept s0 (State.applyPulse s e payload stamp f) := by
  unfold State.applyPulse
  try dsimp only
  iterate 25 (all_goals try with_reducible first
    | assumption | exact id_kept (by assumption) | apply State.accept_kept | apply State.freeRelay_kept
    | apply State.refuse_kept | apply State.relayDone_kept | intro _ | split | refine Kept.mk' ?_ rfl rfl rfl rfl
    | dsimp only)

theorem State.redundantItem_kept {s0 : Start} (s : State) (hG : Kept s0 s) : Kept s0 (State.redundantItem s) := by
  unfold State.redundantItem
  try dsimp only
  iterate 25 (all_goals try with_reducible first
    | assumption | exact id_kept (by assumption) | intro _ | split | refine Kept.mk' ?_ rfl rfl rfl rfl | dsimp only)

theorem State.applyAssert_kept {s0 : Start} (s : State) (e stamp : Nat) (hG : Kept s0 s) :
    Kept s0 (State.applyAssert s e stamp) := by
  unfold State.applyAssert
  try dsimp only
  iterate 25 (all_goals try with_reducible first
    | assumption | exact id_kept (by assumption) | apply State.accept_kept | apply State.onSource_kept
    | apply State.redundantItem_kept | intro _ | split | refine Kept.mk' ?_ rfl rfl rfl rfl | dsimp only)

theorem State.applyDeassert_kept {s0 : Start} (s : State) (e : Nat) (hG : Kept s0 s) :
    Kept s0 (State.applyDeassert s e) := by
  unfold State.applyDeassert
  try dsimp only
  iterate 25 (all_goals try with_reducible first
    | assumption | exact id_kept (by assumption) | apply State.putSource_kept | apply State.endPending_kept
    | apply State.onSource_kept | apply State.redundantItem_kept | apply State.startWithdrawal_kept | intro _ | split
    | refine Kept.mk' ?_ rfl rfl rfl rfl | dsimp only)

theorem State.orderPulse_kept {s0 : Start} (s : State) (e : Nat) (payload : BitVec 32) (stamp : Nat) (f : PulseFrom) (hG : Kept s0 s) :
    Kept s0 (State.orderPulse s e payload stamp f) := by
  unfold State.orderPulse
  try dsimp only
  iterate 25 (all_goals try with_reducible first
    | assumption | exact id_kept (by assumption) | apply State.applyPulse_kept | apply State.atBank_kept
    | apply State.park_kept | intro _ | split | refine Kept.mk' ?_ rfl rfl rfl rfl | dsimp only)

theorem State.orderAssert_kept {s0 : Start} (s : State) (e stamp : Nat) (hG : Kept s0 s) :
    Kept s0 (State.orderAssert s e stamp) := by
  unfold State.orderAssert
  try dsimp only
  iterate 25 (all_goals try with_reducible first
    | assumption | exact id_kept (by assumption) | apply State.applyAssert_kept | apply State.atBank_kept
    | apply State.park_kept | intro _ | split | refine Kept.mk' ?_ rfl rfl rfl rfl | dsimp only)

theorem State.orderDeassert_kept {s0 : Start} (s : State) (e : Nat) (hG : Kept s0 s) :
    Kept s0 (State.orderDeassert s e) := by
  unfold State.orderDeassert
  try dsimp only
  iterate 25 (all_goals try with_reducible first
    | assumption | exact id_kept (by assumption) | apply State.applyDeassert_kept | apply State.atBank_kept
    | apply State.park_kept | intro _ | split | refine Kept.mk' ?_ rfl rfl rfl rfl | dsimp only)

theorem State.orderDone_kept {s0 : Start} (s : State) (t e : Nat) (reg : Bool) (hG : Kept s0 s) :
    Kept s0 (State.orderDone s t e reg) := by
  unfold State.orderDone
  try dsimp only
  iterate 25 (all_goals try with_reducible first
    | assumption | exact id_kept (by assumption) | apply State.atBank_kept | apply State.doneNow_kept
    | apply State.nibNotice_kept | apply State.park_kept | intro _ | split | refine Kept.mk' ?_ rfl rfl rfl rfl
    | dsimp only)

theorem State.handoff_kept {s0 : Start} (s : State) (k : Nat) (levelSense : Bool) (pulse assertion deassertion : State → State) (h_pulse : ∀ s, Kept s0 s → Kept s0 (pulse s)) (h_assertion : ∀ s, Kept s0 s → Kept s0 (assertion s)) (h_deassertion : ∀ s, Kept s0 s → Kept s0 (deassertion s)) (hG : Kept s0 s) :
    Kept s0 (State.handoff s k levelSense pulse assertion deassertion) := by
  unfold State.handoff
  try dsimp only
  iterate 25 (all_goals try with_reducible first
    | assumption | exact id_kept (by assumption) | apply h_pulse | apply h_assertion | apply h_deassertion | intro _
    | split | refine Kept.mk' ?_ rfl rfl rfl rfl | dsimp only)

theorem State.handoffNow_kept {s0 : Start} (s : State) (k : Nat) (levelSense : Bool) (hG : Kept s0 s) :
    Kept s0 (State.handoffNow s k levelSense) := by
  unfold State.handoffNow
  try dsimp only
  iterate 25 (all_goals try with_reducible first
    | assumption | exact id_kept (by assumption) | apply State.applyAssert_kept | apply State.applyDeassert_kept
    | apply State.applyPulse_kept | apply State.handoff_kept | apply State.onLine_kept | intro _ | split
    | refine Kept.mk' ?_ rfl rfl rfl rfl | dsimp only)

theorem State.setLevel_kept {s0 : Start} (s : State) (k : Nat) (hG : Kept s0 s) :
    Kept s0 (State.setLevel s k) := by
  unfold State.setLevel
  try dsimp only
  iterate 25 (all_goals try with_reducible first
    | assumption | exact id_kept (by assumption) | apply State.onSource_kept | intro _ | split
    | refine Kept.mk' ?_ rfl rfl rfl rfl | dsimp only)

theorem State.applyLineCfg_kept {s0 : Start} (s : State) (k : Nat) (w : LineWrite) (hG : Kept s0 s) :
    Kept s0 (State.applyLineCfg s k w) := by
  unfold State.applyLineCfg
  try dsimp only
  iterate 25 (all_goals try with_reducible first
    | assumption | exact id_kept (by assumption) | apply State.clamp_kept | apply State.handoffNow_kept
    | apply State.onLine_kept | apply State.setLevel_kept | intro _ | split | refine Kept.mk' ?_ rfl rfl rfl rfl
    | dsimp only)

theorem State.orderLineCfg_kept {s0 : Start} (s : State) (k : Nat) (w : LineWrite) (hG : Kept s0 s) :
    Kept s0 (State.orderLineCfg s k w) := by
  unfold State.orderLineCfg
  try dsimp only
  iterate 25 (all_goals try with_reducible first
    | assumption | exact id_kept (by assumption) | apply State.applyLineCfg_kept | apply State.atBank_kept
    | apply State.park_kept | intro _ | split | refine Kept.mk' ?_ rfl rfl rfl rfl | dsimp only)

theorem State.disableSource_kept {s0 : Start} (s : State) (e : Nat) (hG : Kept s0 s) :
    Kept s0 (State.disableSource s e).1 := by
  unfold State.disableSource
  try dsimp only
  iterate 25 (all_goals try with_reducible first
    | assumption | exact id_kept (by assumption) | apply State.cancelEnables_kept | apply State.commit_kept
    | apply State.endPending_kept | apply State.onSource_kept | apply State.staleFirst_kept
    | apply State.startWithdrawal_kept | intro _ | split | refine Kept.mk' ?_ rfl rfl rfl rfl | dsimp only)

theorem State.enableSource_kept {s0 : Start} (s : State) (e : Nat) (hG : Kept s0 s) :
    Kept s0 (State.enableSource s e).1 := by
  unfold State.enableSource
  try dsimp only
  iterate 25 (all_goals try with_reducible first
    | assumption | exact id_kept (by assumption) | apply State.commit_kept | apply State.enabledNow_kept
    | apply State.onSource_kept | apply State.staleFirst_kept | intro _ | split | refine Kept.mk' ?_ rfl rfl rfl rfl
    | dsimp only)

theorem State.enableOne_kept {s0 : Start} (s : State) (e : Nat) (hG : Kept s0 s) :
    Kept s0 (State.enableOne s e).1 := by
  unfold State.enableOne
  try dsimp only
  iterate 25 (all_goals try with_reducible first
    | assumption | exact id_kept (by assumption) | apply State.enableSource_kept | apply State.setLevel_kept | intro _
    | split | refine Kept.mk' ?_ rfl rfl rfl rfl | dsimp only)

theorem State.configSource_kept {s0 : Start} (s : State) (e : Nat) (c : SrcSet) (hG : Kept s0 s) :
    Kept s0 (State.configSource s e c) := by
  unfold State.configSource
  try dsimp only
  iterate 25 (all_goals try with_reducible first
    | assumption | exact id_kept (by assumption) | apply State.atBank_kept | apply State.onSource_kept
    | apply State.reroute_kept | intro _ | split | refine Kept.mk' ?_ rfl rfl rfl rfl | dsimp only)

theorem State.putPart_kept {s0 : Start} (s : State) (q : Nat) (p : Option CmdPart) (hG : Kept s0 s) :
    Kept s0 (State.putPart s q p) := by
  unfold State.putPart
  try dsimp only
  iterate 25 (all_goals try with_reducible first
    | assumption | exact id_kept (by assumption) | intro _ | split | refine Kept.mk' ?_ rfl rfl rfl rfl | dsimp only)

theorem State.finishPart_kept {s0 : Start} (s : State) (q : Nat) (hG : Kept s0 s) :
    Kept s0 (State.finishPart s q) := by
  unfold State.finishPart
  try dsimp only
  iterate 25 (all_goals try with_reducible first
    | assumption | exact id_kept (by assumption) | refine State.onQueue_kept _ _ (fun _ hq => hq) ?_
    | apply State.onQueue_kept | apply State.joinDeferred_kept | apply State.putPart_kept | apply State.reply_kept
    | apply State.second_kept | intro _ | split | refine Kept.mk' ?_ rfl rfl rfl rfl | dsimp only)

theorem State.runAt_kept {s0 : Start} (s : State) (q e : Nat) (p : CmdPart) (hG : Kept s0 s) :
    Kept s0 (State.runAt s q e p).1 := by
  unfold State.runAt
  try dsimp only
  iterate 25 (all_goals try with_reducible first
    | assumption | exact id_kept (by assumption) | apply State.applyPulse_kept | apply State.atBank_kept
    | apply State.clamp_kept | apply State.configSource_kept | apply State.disableSource_kept
    | apply State.enableOne_kept | refine forEach_kept (fun _ _ _ => ?_) ?_ | intro _ | split
    | refine Kept.mk' ?_ rfl rfl rfl rfl | dsimp only)

theorem State.orderCommand_kept {s0 : Start} (s : State) (q e : Nat) (hG : Kept s0 s) :
    Kept s0 (State.orderCommand s q e) := by
  unfold State.orderCommand
  try dsimp only
  iterate 25 (all_goals try with_reducible first
    | assumption | exact id_kept (by assumption) | apply State.atBank_kept | apply State.finishPart_kept
    | apply State.park_kept | apply State.putPart_kept | apply State.runAt_kept | apply State.stageOk_kept | intro _
    | split | refine Kept.mk' ?_ rfl rfl rfl rfl | dsimp only)

theorem State.clearTarget_kept {s0 : Start} (s : State) (t : Nat) (keepMove : Bool) (hG : Kept s0 s) :
    Kept s0 (State.clearTarget s t keepMove) := by
  unfold State.clearTarget
  try dsimp only
  iterate 25 (all_goals try with_reducible first
    | assumption | exact id_kept (by assumption) | apply State.onTgt_kept | apply State.clearShown_kept
    | apply State.onFar_kept | intro _ | split | refine Kept.mk' ?_ rfl rfl rfl rfl | dsimp only)

theorem State.endWithdrawn_kept {s0 : Start} (s : State) (t e : Nat) (shown : Bool) (hG : Kept s0 s) :
    Kept s0 (State.endWithdrawn s t e shown) := by
  unfold State.endWithdrawn
  try dsimp only
  iterate 25 (all_goals try with_reducible first
    | assumption | exact id_kept (by assumption) | apply State.putSource_kept | apply State.clearTarget_kept
    | apply State.commit_kept | apply State.drainCheck_kept | apply State.endPending_kept | apply State.freeCell_kept
    | apply State.hold_kept | apply State.linkHeld_kept | apply State.onSource_kept | apply State.presentBlot_kept
    | apply State.settleSplice_kept | apply State.staleFirst_kept | intro _ | split
    | refine Kept.mk' ?_ rfl rfl rfl rfl | dsimp only)

theorem State.noteTaken_kept {s0 : Start} (s : State) (t q : Nat) (hG : Kept s0 s) :
    Kept s0 (State.noteTaken s t q) := by
  unfold State.noteTaken
  try dsimp only
  iterate 25 (all_goals try with_reducible first
    | assumption | exact id_kept (by assumption) | apply State.onPort_kept | intro _ | split
    | refine Kept.mk' ?_ rfl rfl rfl rfl | dsimp only)

theorem State.endTaken_kept {s0 : Start} (s : State) (t e : Nat) (hG : Kept s0 s) :
    Kept s0 (State.endTaken s t e) := by
  unfold State.endTaken
  try dsimp only
  iterate 25 (all_goals try with_reducible first
    | assumption | exact id_kept (by assumption) | apply State.clearTarget_kept | apply State.commit_kept
    | apply State.drainCheck_kept | apply State.endActive_kept | apply State.noteTaken_kept
    | apply State.settleSplice_kept | apply State.staleFirst_kept | apply State.takeNow_kept | intro _ | split
    | refine Kept.mk' ?_ rfl rfl rfl rfl | dsimp only)

theorem State.endCrossed_kept {s0 : Start} (s : State) (t e : Nat) (hG : Kept s0 s) :
    Kept s0 (State.endCrossed s t e) := by
  unfold State.endCrossed
  try dsimp only
  iterate 25 (all_goals try with_reducible first
    | assumption | exact id_kept (by assumption) | apply State.clearTarget_kept | apply State.commit_kept
    | apply State.drainCheck_kept | apply State.endPending_kept | apply State.endTaken_kept
    | apply State.settleSplice_kept | apply State.staleFirst_kept | intro _ | split
    | refine Kept.mk' ?_ rfl rfl rfl rfl | dsimp only)

theorem State.returnNow_kept {s0 : Start} (s : State) (t : Nat) (hG : Kept s0 s) :
    Kept s0 (State.returnNow s t) := by
  unfold State.returnNow
  try dsimp only
  iterate 25 (all_goals try with_reducible first
    | assumption | exact id_kept (by assumption) | apply State.atBank_kept | apply State.clearTarget_kept
    | apply State.commit_kept | apply State.endWithdrawn_kept | apply State.onSource_kept | intro _ | split
    | refine Kept.mk' ?_ rfl rfl rfl rfl | dsimp only)

theorem State.takeAt_kept {s0 : Start} (s : State) (t : Nat) (hG : Kept s0 s) : Kept s0 (State.takeAt s t) := by
  unfold State.takeAt
  try dsimp only
  iterate 25 (all_goals try with_reducible first
    | assumption | exact id_kept (by assumption) | apply State.atBank_kept | apply State.clearShown_kept
    | apply State.endCrossed_kept | apply State.noteTaken_kept | apply State.onPort_kept | apply State.takeNow_kept
    | intro _ | split | refine Kept.mk' ?_ rfl rfl rfl rfl | dsimp only)

theorem State.doneAt_kept {s0 : Start} (s : State) (t : Nat) (hG : Kept s0 s) : Kept s0 (State.doneAt s t) := by
  unfold State.doneAt
  try dsimp only
  iterate 25 (all_goals try with_reducible first
    | assumption | exact id_kept (by assumption) | apply State.onLink_kept | apply State.onPort_kept
    | apply State.orderDone_kept | intro _ | split | refine Kept.mk' ?_ rfl rfl rfl rfl | dsimp only)

theorem State.dropShown_kept {s0 : Start} (s : State) (e : Nat) (hG : Kept s0 s) :
    Kept s0 (State.dropShown s e) := by
  unfold State.dropShown
  try dsimp only
  iterate 25 (all_goals try with_reducible first
    | assumption | exact id_kept (by assumption) | apply State.clearTarget_kept | apply State.settleSplice_kept
    | intro _ | split | refine Kept.mk' ?_ rfl rfl rfl rfl | dsimp only)

theorem State.dropEvent_kept {s0 : Start} (s : State) (e : Nat) (hG : Kept s0 s) :
    Kept s0 (State.dropEvent s e) := by
  unfold State.dropEvent
  try dsimp only
  iterate 25 (all_goals try with_reducible first
    | assumption | exact id_kept (by assumption) | apply State.dropShown_kept | apply State.endActive_kept
    | apply State.endPending_kept | apply State.onSource_kept | apply State.sourceReplies_kept | intro _ | split
    | refine Kept.mk' ?_ rfl rfl rfl rfl | dsimp only)

theorem State.loadRecordWord_kept {s0 : Start} (s : State) (q e k : Nat) (w : BitVec 64) (hG : Kept s0 s) :
    Kept s0 (State.loadRecordWord s q e k w).1 := by
  unfold State.loadRecordWord
  try dsimp only
  iterate 25 (all_goals try with_reducible first
    | assumption | exact id_kept (by assumption) | apply State.commit_kept | apply State.dropEvent_kept
    | apply State.dropShown_kept | apply State.freeCell_kept | apply State.linkHeld_kept | apply State.onSource_kept
    | apply State.recordClamps_kept | apply State.reroute_kept | apply State.unlinkHeld_kept | intro _ | split
    | refine Kept.mk' ?_ rfl rfl rfl rfl | dsimp only)

theorem State.orderWord_kept {s0 : Start} (s : State) (owner q e k : Nat) (w : BitVec 64) (hG : Kept s0 s) :
    Kept s0 (State.orderWord s owner q e k w) := by
  unfold State.orderWord
  try dsimp only
  iterate 25 (all_goals try with_reducible first
    | assumption | exact id_kept (by assumption) | apply State.atBank_kept | apply State.loadRecordWord_kept
    | apply State.park_kept | apply State.stageOk_kept | intro _ | split | refine Kept.mk' ?_ rfl rfl rfl rfl
    | dsimp only)

theorem State.applyOrder_kept {s0 : Start} (s : State) (e : Nat) (o : Order) (hG : Kept s0 s) :
    Kept s0 (State.applyOrder s e o) := by
  unfold State.applyOrder
  try dsimp only
  iterate 25 (all_goals try with_reducible first
    | assumption | exact id_kept (by assumption) | apply State.doneAt_kept | apply State.onPort_kept
    | apply State.orderAssert_kept | apply State.orderCommand_kept | apply State.orderDeassert_kept
    | apply State.orderDone_kept | apply State.orderLineCfg_kept | apply State.orderPulse_kept
    | apply State.orderWord_kept | apply State.returnNow_kept | apply State.takeAt_kept | intro _ | split
    | refine Kept.mk' ?_ rfl rfl rfl rfl | dsimp only)

theorem State.roundOrder_kept {s0 : Start} (s : State) (p : Nat × Order) (hG : Kept s0 s) :
    Kept s0 (State.roundOrder s p) := by
  unfold State.roundOrder
  try dsimp only
  iterate 25 (all_goals try with_reducible first
    | assumption | exact id_kept (by assumption) | apply State.applyOrder_kept | apply State.atBank_kept | intro _
    | split | refine Kept.mk' ?_ rfl rfl rfl rfl | dsimp only)

theorem State.settleParked_kept {s0 : Start} (s : State) (k : Nat) (hG : Kept s0 s) :
    Kept s0 (State.settleParked s k) := by
  unfold State.settleParked
  try dsimp only
  iterate 25 (all_goals try with_reducible first
    | assumption | exact id_kept (by assumption) | apply State.applyOrder_kept
    | refine forEach_kept (fun _ _ _ => ?_) ?_ | intro _ | split | refine Kept.mk' ?_ rfl rfl rfl rfl | dsimp only)

theorem State.letIn_kept {s0 : Start} (s : State) (k : Nat) (n : Nat) (hG : Kept s0 s) : Kept s0 (State.letIn s k n) := by
  induction n generalizing s with
  | zero => unfold State.letIn; assumption
  | succ n ih =>
    unfold State.letIn
    try dsimp only
    iterate 25 (all_goals try with_reducible first
      | assumption | exact id_kept (by assumption) | apply ih | apply State.roundOrder_kept
      | apply State.settleParked_kept | refine forEach_kept (fun _ _ _ => ?_) ?_ | intro _ | split
      | refine Kept.mk' ?_ rfl rfl rfl rfl | dsimp only)

theorem State.unpark_kept {s0 : Start} (s : State) (e : Nat) (hG : Kept s0 s) : Kept s0 (State.unpark s e) := by
  unfold State.unpark
  try extract_lets a0 a1 a2 a3 a4 a5 a6 a7 a8 a9
  try (have h0 : Kept s0 a0 := (by
    unfold a0
    try dsimp only
    iterate 25 (all_goals try with_reducible first
      | assumption | exact id_kept (by assumption) | apply State.letIn_kept | intro _ | split
      | refine Kept.mk' ?_ rfl rfl rfl rfl | dsimp only)))
  try (have h0 : Kept s0 a0.1 := (by
    unfold a0
    try dsimp only
    iterate 25 (all_goals try with_reducible first
      | assumption | exact id_kept (by assumption) | apply State.letIn_kept | intro _ | split
      | refine Kept.mk' ?_ rfl rfl rfl rfl | dsimp only)))
  try (have h0 : Kept s0 a0.s := (by
    unfold a0
    try dsimp only
    iterate 25 (all_goals try with_reducible first
      | assumption | exact id_kept (by assumption) | apply State.letIn_kept | intro _ | split
      | refine Kept.mk' ?_ rfl rfl rfl rfl | dsimp only)))
  try (have h1 : Kept s0 a1 := (by
    unfold a1
    try dsimp only
    iterate 25 (all_goals try with_reducible first
      | assumption | exact id_kept (by assumption) | apply State.letIn_kept | intro _ | split
      | refine Kept.mk' ?_ rfl rfl rfl rfl | dsimp only)))
  try (have h1 : Kept s0 a1.1 := (by
    unfold a1
    try dsimp only
    iterate 25 (all_goals try with_reducible first
      | assumption | exact id_kept (by assumption) | apply State.letIn_kept | intro _ | split
      | refine Kept.mk' ?_ rfl rfl rfl rfl | dsimp only)))
  try (have h1 : Kept s0 a1.s := (by
    unfold a1
    try dsimp only
    iterate 25 (all_goals try with_reducible first
      | assumption | exact id_kept (by assumption) | apply State.letIn_kept | intro _ | split
      | refine Kept.mk' ?_ rfl rfl rfl rfl | dsimp only)))
  try (have h2 : Kept s0 a2 := (by
    unfold a2
    try dsimp only
    iterate 25 (all_goals try with_reducible first
      | assumption | exact id_kept (by assumption) | apply State.letIn_kept | intro _ | split
      | refine Kept.mk' ?_ rfl rfl rfl rfl | dsimp only)))
  try (have h2 : Kept s0 a2.1 := (by
    unfold a2
    try dsimp only
    iterate 25 (all_goals try with_reducible first
      | assumption | exact id_kept (by assumption) | apply State.letIn_kept | intro _ | split
      | refine Kept.mk' ?_ rfl rfl rfl rfl | dsimp only)))
  try (have h2 : Kept s0 a2.s := (by
    unfold a2
    try dsimp only
    iterate 25 (all_goals try with_reducible first
      | assumption | exact id_kept (by assumption) | apply State.letIn_kept | intro _ | split
      | refine Kept.mk' ?_ rfl rfl rfl rfl | dsimp only)))
  try (have h3 : Kept s0 a3 := (by
    unfold a3
    try dsimp only
    iterate 25 (all_goals try with_reducible first
      | assumption | exact id_kept (by assumption) | apply State.letIn_kept | intro _ | split
      | refine Kept.mk' ?_ rfl rfl rfl rfl | dsimp only)))
  try (have h3 : Kept s0 a3.1 := (by
    unfold a3
    try dsimp only
    iterate 25 (all_goals try with_reducible first
      | assumption | exact id_kept (by assumption) | apply State.letIn_kept | intro _ | split
      | refine Kept.mk' ?_ rfl rfl rfl rfl | dsimp only)))
  try (have h3 : Kept s0 a3.s := (by
    unfold a3
    try dsimp only
    iterate 25 (all_goals try with_reducible first
      | assumption | exact id_kept (by assumption) | apply State.letIn_kept | intro _ | split
      | refine Kept.mk' ?_ rfl rfl rfl rfl | dsimp only)))
  try (have h4 : Kept s0 a4 := (by
    unfold a4
    try dsimp only
    iterate 25 (all_goals try with_reducible first
      | assumption | exact id_kept (by assumption) | apply State.letIn_kept | intro _ | split
      | refine Kept.mk' ?_ rfl rfl rfl rfl | dsimp only)))
  try (have h4 : Kept s0 a4.1 := (by
    unfold a4
    try dsimp only
    iterate 25 (all_goals try with_reducible first
      | assumption | exact id_kept (by assumption) | apply State.letIn_kept | intro _ | split
      | refine Kept.mk' ?_ rfl rfl rfl rfl | dsimp only)))
  try (have h4 : Kept s0 a4.s := (by
    unfold a4
    try dsimp only
    iterate 25 (all_goals try with_reducible first
      | assumption | exact id_kept (by assumption) | apply State.letIn_kept | intro _ | split
      | refine Kept.mk' ?_ rfl rfl rfl rfl | dsimp only)))
  try (have h5 : Kept s0 a5 := (by
    unfold a5
    try dsimp only
    iterate 25 (all_goals try with_reducible first
      | assumption | exact id_kept (by assumption) | apply State.letIn_kept | intro _ | split
      | refine Kept.mk' ?_ rfl rfl rfl rfl | dsimp only)))
  try (have h5 : Kept s0 a5.1 := (by
    unfold a5
    try dsimp only
    iterate 25 (all_goals try with_reducible first
      | assumption | exact id_kept (by assumption) | apply State.letIn_kept | intro _ | split
      | refine Kept.mk' ?_ rfl rfl rfl rfl | dsimp only)))
  try (have h5 : Kept s0 a5.s := (by
    unfold a5
    try dsimp only
    iterate 25 (all_goals try with_reducible first
      | assumption | exact id_kept (by assumption) | apply State.letIn_kept | intro _ | split
      | refine Kept.mk' ?_ rfl rfl rfl rfl | dsimp only)))
  try (have h6 : Kept s0 a6 := (by
    unfold a6
    try dsimp only
    iterate 25 (all_goals try with_reducible first
      | assumption | exact id_kept (by assumption) | apply State.letIn_kept | intro _ | split
      | refine Kept.mk' ?_ rfl rfl rfl rfl | dsimp only)))
  try (have h6 : Kept s0 a6.1 := (by
    unfold a6
    try dsimp only
    iterate 25 (all_goals try with_reducible first
      | assumption | exact id_kept (by assumption) | apply State.letIn_kept | intro _ | split
      | refine Kept.mk' ?_ rfl rfl rfl rfl | dsimp only)))
  try (have h6 : Kept s0 a6.s := (by
    unfold a6
    try dsimp only
    iterate 25 (all_goals try with_reducible first
      | assumption | exact id_kept (by assumption) | apply State.letIn_kept | intro _ | split
      | refine Kept.mk' ?_ rfl rfl rfl rfl | dsimp only)))
  try (have h7 : Kept s0 a7 := (by
    unfold a7
    try dsimp only
    iterate 25 (all_goals try with_reducible first
      | assumption | exact id_kept (by assumption) | apply State.letIn_kept | intro _ | split
      | refine Kept.mk' ?_ rfl rfl rfl rfl | dsimp only)))
  try (have h7 : Kept s0 a7.1 := (by
    unfold a7
    try dsimp only
    iterate 25 (all_goals try with_reducible first
      | assumption | exact id_kept (by assumption) | apply State.letIn_kept | intro _ | split
      | refine Kept.mk' ?_ rfl rfl rfl rfl | dsimp only)))
  try (have h7 : Kept s0 a7.s := (by
    unfold a7
    try dsimp only
    iterate 25 (all_goals try with_reducible first
      | assumption | exact id_kept (by assumption) | apply State.letIn_kept | intro _ | split
      | refine Kept.mk' ?_ rfl rfl rfl rfl | dsimp only)))
  try (have h8 : Kept s0 a8 := (by
    unfold a8
    try dsimp only
    iterate 25 (all_goals try with_reducible first
      | assumption | exact id_kept (by assumption) | apply State.letIn_kept | intro _ | split
      | refine Kept.mk' ?_ rfl rfl rfl rfl | dsimp only)))
  try (have h8 : Kept s0 a8.1 := (by
    unfold a8
    try dsimp only
    iterate 25 (all_goals try with_reducible first
      | assumption | exact id_kept (by assumption) | apply State.letIn_kept | intro _ | split
      | refine Kept.mk' ?_ rfl rfl rfl rfl | dsimp only)))
  try (have h8 : Kept s0 a8.s := (by
    unfold a8
    try dsimp only
    iterate 25 (all_goals try with_reducible first
      | assumption | exact id_kept (by assumption) | apply State.letIn_kept | intro _ | split
      | refine Kept.mk' ?_ rfl rfl rfl rfl | dsimp only)))
  try (have h9 : Kept s0 a9 := (by
    unfold a9
    try dsimp only
    iterate 25 (all_goals try with_reducible first
      | assumption | exact id_kept (by assumption) | apply State.letIn_kept | intro _ | split
      | refine Kept.mk' ?_ rfl rfl rfl rfl | dsimp only)))
  try (have h9 : Kept s0 a9.1 := (by
    unfold a9
    try dsimp only
    iterate 25 (all_goals try with_reducible first
      | assumption | exact id_kept (by assumption) | apply State.letIn_kept | intro _ | split
      | refine Kept.mk' ?_ rfl rfl rfl rfl | dsimp only)))
  try (have h9 : Kept s0 a9.s := (by
    unfold a9
    try dsimp only
    iterate 25 (all_goals try with_reducible first
      | assumption | exact id_kept (by assumption) | apply State.letIn_kept | intro _ | split
      | refine Kept.mk' ?_ rfl rfl rfl rfl | dsimp only)))
  try dsimp only
  iterate 25 (all_goals try with_reducible first
    | assumption | exact id_kept (by assumption) | apply State.letIn_kept | intro _ | split
    | refine Kept.mk' ?_ rfl rfl rfl rfl | dsimp only)

theorem State.sendOrder_kept {s0 : Start} (s : State) (e : Nat) (o : Order) (hG : Kept s0 s) :
    Kept s0 (State.sendOrder s e o) := by
  unfold State.sendOrder
  try dsimp only
  iterate 25 (all_goals try with_reducible first
    | assumption | exact id_kept (by assumption) | apply State.applyOrder_kept | intro _ | split
    | refine Kept.mk' ?_ rfl rfl rfl rfl | dsimp only)

theorem State.sendCommand_kept {s0 : Start} (s : State) (q e : Nat) (hG : Kept s0 s) :
    Kept s0 (State.sendCommand s q e) := by
  unfold State.sendCommand
  try dsimp only
  iterate 25 (all_goals try with_reducible first
    | assumption | exact id_kept (by assumption) | apply State.sendOrder_kept | intro _ | split
    | refine Kept.mk' ?_ rfl rfl rfl rfl | dsimp only)

theorem State.dropPart_kept {s0 : Start} (s : State) (q : Nat) (hG : Kept s0 s) :
    Kept s0 (State.dropPart s q) := by
  unfold State.dropPart
  try dsimp only
  iterate 25 (all_goals try with_reducible first
    | assumption | exact id_kept (by assumption) | apply State.putPart_kept | apply State.unpark_kept
    | refine forEach_kept (fun _ _ _ => ?_) ?_ | intro _ | split | refine Kept.mk' ?_ rfl rfl rfl rfl | dsimp only)

theorem State.resolveWithdrawn_kept {s0 : Start} (s : State) (t e : Nat) (shown : Bool) (hG : Kept s0 s) :
    Kept s0 (State.resolveWithdrawn s t e shown) := by
  unfold State.resolveWithdrawn
  try dsimp only
  iterate 25 (all_goals try with_reducible first
    | assumption | exact id_kept (by assumption) | apply State.endWithdrawn_kept | apply State.unpark_kept | intro _
    | split | refine Kept.mk' ?_ rfl rfl rfl rfl | dsimp only)

theorem State.resolveTaken_kept {s0 : Start} (s : State) (t e : Nat) (hG : Kept s0 s) :
    Kept s0 (State.resolveTaken s t e) := by
  unfold State.resolveTaken
  try dsimp only
  iterate 25 (all_goals try with_reducible first
    | assumption | exact id_kept (by assumption) | apply State.endTaken_kept | apply State.unpark_kept | intro _
    | split | refine Kept.mk' ?_ rfl rfl rfl rfl | dsimp only)

theorem State.resolveCrossed_kept {s0 : Start} (s : State) (t e : Nat) (hG : Kept s0 s) :
    Kept s0 (State.resolveCrossed s t e) := by
  unfold State.resolveCrossed
  try dsimp only
  iterate 25 (all_goals try with_reducible first
    | assumption | exact id_kept (by assumption) | apply State.endCrossed_kept | apply State.unpark_kept | intro _
    | split | refine Kept.mk' ?_ rfl rfl rfl rfl | dsimp only)

theorem State.applyTake_kept {s0 : Start} (s : State) (t : Nat) (hG : Kept s0 s) :
    Kept s0 (State.applyTake s t) := by
  unfold State.applyTake
  try dsimp only
  iterate 25 (all_goals try with_reducible first
    | assumption | exact id_kept (by assumption) | apply State.takeAt_kept | apply State.unpark_kept | intro _ | split
    | refine Kept.mk' ?_ rfl rfl rfl rfl | dsimp only)

theorem State.returnQueued_kept {s0 : Start} (s : State) (t : Nat) (hG : Kept s0 s) :
    Kept s0 (State.returnQueued s t) := by
  unfold State.returnQueued
  try dsimp only
  iterate 25 (all_goals try with_reducible first
    | assumption | exact id_kept (by assumption) | apply State.returnNow_kept | apply State.unpark_kept | intro _
    | split | refine Kept.mk' ?_ rfl rfl rfl rfl | dsimp only)

theorem State.reportTakes_kept {s0 : Start} (s : State) (hG : Kept s0 s) : Kept s0 (State.reportTakes s) := by
  unfold State.reportTakes
  try dsimp only
  iterate 25 (all_goals try with_reducible first
    | assumption | exact id_kept (by assumption) | apply State.applyTake_kept | apply State.onPort_kept
    | apply State.resolveCrossed_kept | apply State.resolveTaken_kept | refine forEach_kept (fun _ _ _ => ?_) ?_
    | intro _ | split | refine Kept.mk' ?_ rfl rfl rfl rfl | dsimp only)

theorem State.switchLine_kept {s0 : Start} (s : State) (before : Mode) (k : Nat) (hG : Kept s0 s) :
    Kept s0 (State.switchLine s before k) := by
  unfold State.switchLine
  try dsimp only
  iterate 25 (all_goals try with_reducible first
    | assumption | exact id_kept (by assumption) | apply State.commit_kept | apply State.handoffNow_kept
    | apply State.onSource_kept | apply State.setLevel_kept | apply State.staleFirst_kept | intro _ | split
    | refine Kept.mk' ?_ rfl rfl rfl rfl | dsimp only)

theorem State.addReason_kept {s0 : Start} (s : State) (e : Nat) (f : Held → Held) (hG : Kept s0 s) :
    Kept s0 (State.addReason s e f) := by
  unfold State.addReason
  try dsimp only
  iterate 25 (all_goals try with_reducible first
    | assumption | exact id_kept (by assumption) | apply State.commit_kept | apply State.freeCell_kept
    | apply State.hold_kept | apply State.linkHeld_kept | apply State.onSource_kept | apply State.startWithdrawal_kept
    | apply State.unlinkHeld_kept | intro _ | split | refine Kept.mk' ?_ rfl rfl rfl rfl | dsimp only)

theorem State.takerLost_kept {s0 : Start} (s : State) (e t : Nat) (hG : Kept s0 s) :
    Kept s0 (State.takerLost s e t) := by
  unfold State.takerLost
  try dsimp only
  iterate 25 (all_goals try with_reducible first
    | assumption | exact id_kept (by assumption) | apply State.atBank_kept | apply State.drainCheck_kept
    | apply State.endActive_kept | apply State.linkHeld_kept | intro _ | split | refine Kept.mk' ?_ rfl rfl rfl rfl
    | dsimp only)

theorem State.releaseHeld_kept {s0 : Start} (s : State) (e : Nat) (f : Held → Held) (left : Left) (hG : Kept s0 s) :
    Kept s0 (State.releaseHeld s e f left) := by
  unfold State.releaseHeld
  try dsimp only
  iterate 25 (all_goals try with_reducible first
    | assumption | exact id_kept (by assumption) | apply State.releaseFrom_kept | intro _ | split
    | refine Kept.mk' ?_ rfl rfl rfl rfl | dsimp only)

theorem State.releaseRate_kept {s0 : Start} (s : State) (i : Nat) (n : Nat) (hG : Kept s0 s) : Kept s0 (State.releaseRate s i n) := by
  induction n generalizing s with
  | zero => unfold State.releaseRate; assumption
  | succ n ih =>
    unfold State.releaseRate
    try dsimp only
    iterate 25 (all_goals try with_reducible first
      | assumption | exact id_kept (by assumption) | apply ih | apply State.atBank_kept | apply State.releaseHeld_kept
      | intro _ | split | refine Kept.mk' ?_ rfl rfl rfl rfl | dsimp only)

theorem State.refill_kept {s0 : Start} (s : State) (i : Nat) (hG : Kept s0 s) : Kept s0 (State.refill s i) := by
  unfold State.refill
  try dsimp only
  iterate 25 (all_goals try with_reducible first
    | assumption | exact id_kept (by assumption) | apply State.onCtx_kept | apply State.releaseRate_kept | intro _
    | split | refine Kept.mk' ?_ rfl rfl rfl rfl | dsimp only)

theorem State.refillsTo_kept {s0 : Start} (s : State) (i stamp : Nat) (n : Nat) (hG : Kept s0 s) : Kept s0 (State.refillsTo s i stamp n) := by
  induction n generalizing s with
  | zero => unfold State.refillsTo; assumption
  | succ n ih =>
    unfold State.refillsTo
    try dsimp only
    iterate 25 (all_goals try with_reducible first
      | assumption | exact id_kept (by assumption) | apply ih | apply State.refill_kept | intro _ | split
      | refine Kept.mk' ?_ rfl rfl rfl rfl | dsimp only)

theorem State.dueRefills_kept {s0 : Start} (s : State) (i stamp : Nat) (hG : Kept s0 s) :
    Kept s0 (State.dueRefills s i stamp) := by
  unfold State.dueRefills
  try dsimp only
  iterate 25 (all_goals try with_reducible first
    | assumption | exact id_kept (by assumption) | apply State.refillsTo_kept | intro _ | split
    | refine Kept.mk' ?_ rfl rfl rfl rfl | dsimp only)

end Sys2Proof.Machine
end

