-- ==== Sys2Proof/Laws/KeptTargets.lean ====
section
/-! SUPPORT. What every operation of Machine/Targets.lean keeps. -/
namespace Sys2Proof.Machine

theorem State.leave_kept {s0 : Start} (s : State) (t : Nat) (hG : Kept s0 s) : Kept s0 (State.leave s t) := by
  unfold State.leave
  try dsimp only
  iterate 25 (all_goals try with_reducible first
    | assumption | exact id_kept (by assumption) | apply State.onTgt_kept | apply State.commit_kept
    | apply State.settleSplice_kept | apply State.staleFirst_kept | apply State.startWithdrawal_kept | intro _ | split
    | refine Kept.mk' ?_ rfl rfl rfl rfl | dsimp only)

theorem State.faultTarget_kept {s0 : Start} (s : State) (t cause : Nat) (hG : Kept s0 s) :
    Kept s0 (State.faultTarget s t cause) := by
  unfold State.faultTarget
  try dsimp only
  iterate 25 (all_goals try with_reducible first
    | assumption | exact id_kept (by assumption) | apply State.onTgt_kept | apply State.leave_kept | intro _ | split
    | refine Kept.mk' ?_ rfl rfl rfl rfl | dsimp only)

theorem State.goOnline_kept {s0 : Start} (s : State) (t : Nat) (hG : Kept s0 s) :
    Kept s0 (State.goOnline s t) := by
  unfold State.goOnline
  try dsimp only
  iterate 25 (all_goals try with_reducible first
    | assumption | exact id_kept (by assumption) | apply State.onTgt_kept | apply State.trySplice_kept
    | refine forEach_kept (fun _ _ _ => ?_) ?_ | intro _ | split | refine Kept.mk' ?_ rfl rfl rfl rfl | dsimp only)

theorem State.startRepair_kept {s0 : Start} (s : State) (t : Nat) (hG : Kept s0 s) :
    Kept s0 (State.startRepair s t) := by
  unfold State.startRepair
  try dsimp only
  iterate 25 (all_goals try with_reducible first
    | assumption | exact id_kept (by assumption) | apply State.onTgt_kept | intro _ | split
    | refine Kept.mk' ?_ rfl rfl rfl rfl | dsimp only)

theorem State.breakList_kept {s0 : Start} (s : State) (l : ListName) (hG : Kept s0 s) :
    Kept s0 (State.breakList s l) := by
  unfold State.breakList
  try dsimp only
  iterate 25 (all_goals try with_reducible first
    | assumption | exact id_kept (by assumption) | apply State.onTgt_kept | apply State.onCtx_kept
    | apply State.onGrp_kept | intro _ | split | refine Kept.mk' ?_ rfl rfl rfl rfl | dsimp only)

theorem State.startListRepair_kept {s0 : Start} (s : State) (l : ListName) (hG : Kept s0 s) :
    Kept s0 (State.startListRepair s l) := by
  unfold State.startListRepair
  try dsimp only
  iterate 25 (all_goals try with_reducible first
    | assumption | exact id_kept (by assumption) | apply State.breakList_kept | apply State.startSweep_kept | intro _
    | split | refine Kept.mk' ?_ rfl rfl rfl rfl | dsimp only)

end Sys2Proof.Machine
end

