-- ==== Sys2Proof/Laws/KeptModes.lean ====
section
/-! SUPPORT. What every operation of Machine/Modes.lean keeps. -/
namespace Sys2Proof.Machine

theorem State.switchLines_kept {s0 : Start} (s : State) (before : Mode) (hG : Kept s0 s) :
    Kept s0 (State.switchLines s before) := by
  unfold State.switchLines
  try dsimp only
  iterate 25 (all_goals try with_reducible first
    | assumption | exact id_kept (by assumption) | apply State.switchLine_kept
    | refine forEach_kept (fun _ _ _ => ?_) ?_ | intro _ | split | refine Kept.mk' ?_ rfl rfl rfl rfl | dsimp only)

theorem State.releaseAll_kept {s0 : Start} (s : State) (cause : Nat) (ok : Group → Bool) (hG : Kept s0 s) :
    Kept s0 (State.releaseAll s cause ok) := by
  unfold State.releaseAll
  try dsimp only
  iterate 25 (all_goals try with_reducible first
    | assumption | exact id_kept (by assumption) | apply State.onGrp_kept | apply State.releaseNow_kept
    | refine forEach_kept (fun _ _ _ => ?_) ?_ | intro _ | split | refine Kept.mk' ?_ rfl rfl rfl rfl | dsimp only)

theorem State.voidLinks_kept {s0 : Start} (s : State) (hG : Kept s0 s) : Kept s0 (State.voidLinks s) := by
  unfold State.voidLinks
  try dsimp only
  iterate 25 (all_goals try with_reducible first
    | assumption | exact id_kept (by assumption) | intro _ | split | refine Kept.mk' ?_ rfl rfl rfl rfl | dsimp only)

theorem State.tidyLinks_kept {s0 : Start} (s : State) (hG : Kept s0 s) : Kept s0 (State.tidyLinks s) := by
  unfold State.tidyLinks
  try dsimp only
  iterate 25 (all_goals try with_reducible first
    | assumption | exact id_kept (by assumption) | intro _ | split | refine Kept.mk' ?_ rfl rfl rfl rfl | dsimp only)

theorem State.startScan_kept {s0 : Start} (s : State) (n : SweepName) (hG : Kept s0 s) :
    Kept s0 (State.startScan s n) := by
  unfold State.startScan
  try dsimp only
  iterate 25 (all_goals try with_reducible first
    | assumption | exact id_kept (by assumption) | apply State.startSweep_kept | apply State.tidyLinks_kept
    | apply State.voidLinks_kept | intro _ | split | refine Kept.mk' ?_ rfl rfl rfl rfl | dsimp only)

theorem State.restartWitness_kept {s0 : Start} (s : State) (hG : Kept s0 s) :
    Kept s0 (State.restartWitness s) := by
  unfold State.restartWitness
  try dsimp only
  iterate 25 (all_goals try with_reducible first
    | assumption | exact id_kept (by assumption) | intro _ | split | refine Kept.mk' ?_ rfl rfl rfl rfl | dsimp only)

theorem State.restartWalk_kept {s0 : Start} (s : State) (hG : Kept s0 s) : Kept s0 (State.restartWalk s) := by
  unfold State.restartWalk
  try dsimp only
  iterate 25 (all_goals try with_reducible first
    | assumption | exact id_kept (by assumption) | intro _ | split | refine Kept.mk' ?_ rfl rfl rfl rfl | dsimp only)

theorem State.standIn_kept {s0 : Start} (s : State) (r : Nat) (hG : Kept s0 s) : Kept s0 (State.standIn s r) := by
  unfold State.standIn
  try dsimp only
  iterate 25 (all_goals try with_reducible first
    | assumption | exact id_kept (by assumption) | apply State.recCount_kept | apply State.restartWalk_kept
    | apply State.restartWitness_kept | intro _ | split | refine Kept.mk' ?_ rfl rfl rfl rfl | dsimp only)

theorem State.endParking_kept {s0 : Start} (s : State) (back : Bool)  (hG : Kept s0 s) : Kept s0 (State.endParking s back) := by
  unfold State.endParking
  split
  · assumption
  · extract_lets a b r s1 w s2
    have h1 : Kept s0 s1 := by
      unfold s1
      exact Kept.mk' (State.endSweep_kept _ _ hG) rfl rfl rfl rfl
    have h2 : Kept s0 s2 := Kept.mk' h1 rfl rfl rfl rfl
    clear_value s2
    split
    · split
      · exact forEach_kept (fun x s h => State.onChan_kept _ _ _ h) h2
      · assumption
    · exact h1

theorem State.enterMode_kept {s0 : Start} (s : State) (m : Mode) (hG : Kept s0 s) : Kept s0 (State.enterMode s m) := by
  unfold State.enterMode
  extract_lets old c1 s1 s2 c2 c3 s3 s4 c4 s5 c5 s6 s7 c6 s8 s9 s10
  have h1 : Kept s0 s1 := Kept.mk' hG rfl rfl rfl rfl
  have h2 : Kept s0 s2 := by
    unfold s2; split
    · exact State.switchLines_kept _ _ h1
    · assumption
  have h3 : Kept s0 s3 := by
    unfold s3; split
    · exact Kept.mk' (State.releaseAll_kept _ _ _ h2) rfl rfl rfl rfl
    · assumption
  have h4 : Kept s0 s4 := by
    unfold s4; split
    · exact State.endParking_kept _ _ h3
    · assumption
  have h5 : Kept s0 s5 := by
    unfold s5; split
    · exact Kept.mk' h4 rfl rfl rfl rfl
    · assumption
  have h6 : Kept s0 s6 := by
    unfold s6; split
    · exact Kept.mk' h5 rfl rfl rfl rfl
    · assumption
  have h7 : Kept s0 s7 := by
    unfold s7; split
    · exact State.startSweep_kept _ _ h6
    · assumption
  have h8 : Kept s0 s8 := by
    unfold s8
    repeat' split
    · exact Kept.mk' h7 rfl rfl rfl rfl
    · exact Kept.mk' h7 rfl rfl rfl rfl
    · assumption
  have h9 : Kept s0 s9 := by
    unfold s9; split
    · exact forEach_kept (fun x s h => State.bypass_kept _ _ h) h8
    · assumption
  have h10 : Kept s0 s10 := by
    unfold s10; split
    · exact State.standIn_kept _ _ h9
    · assumption
  split
  · assumption
  · exact State.raiseHouse_kept _ _ h10

theorem State.parkCheck_kept {s0 : Start} (s : State) (hG : Kept s0 s) : Kept s0 (State.parkCheck s) := by
  unfold State.parkCheck
  try dsimp only
  iterate 25 (all_goals try with_reducible first
    | assumption | exact id_kept (by assumption) | apply State.enterMode_kept | intro _ | split
    | refine Kept.mk' ?_ rfl rfl rfl rfl | dsimp only)

theorem State.goTo_kept {s0 : Start} (s : State) (m : Mode) (hG : Kept s0 s) : Kept s0 (State.goTo s m) := by
  unfold State.goTo
  try dsimp only
  iterate 25 (all_goals try with_reducible first
    | assumption | exact id_kept (by assumption) | apply State.enterMode_kept | apply State.parkCheck_kept
    | apply State.startScan_kept | intro _ | split | refine Kept.mk' ?_ rfl rfl rfl rfl | dsimp only)

theorem State.settleMode_kept {s0 : Start} (s : State) (hG : Kept s0 s) : Kept s0 (State.settleMode s) := by
  unfold State.settleMode
  try dsimp only
  iterate 25 (all_goals try with_reducible first
    | assumption | exact id_kept (by assumption) | apply State.enterMode_kept | apply State.park_kept | intro _ | split
    | refine Kept.mk' ?_ rfl rfl rfl rfl | dsimp only)

theorem State.ackRung_kept {s0 : Start} (s : State) (r : Nat) (hG : Kept s0 s) : Kept s0 (State.ackRung s r) := by
  unfold State.ackRung
  try dsimp only
  iterate 25 (all_goals try with_reducible first
    | assumption | exact id_kept (by assumption) | apply State.raiseHouse_kept | intro _ | split
    | refine Kept.mk' ?_ rfl rfl rfl rfl | dsimp only)

theorem State.settleAck_kept {s0 : Start} (s : State) (hG : Kept s0 s) : Kept s0 (State.settleAck s) := by
  unfold State.settleAck
  try dsimp only
  iterate 25 (all_goals try with_reducible first
    | assumption | exact id_kept (by assumption) | apply State.ackRung_kept | intro _ | split
    | refine Kept.mk' ?_ rfl rfl rfl rfl | dsimp only)

end Sys2Proof.Machine
end

