-- ==== Sys2Proof/Laws/KeptResetOps.lean ====
section
/-! SUPPORT. What every operation of Machine/ResetOps.lean keeps. -/
namespace Sys2Proof.Machine

theorem State.stretch_kept {s0 : Start} (s : State) (hG : Kept s0 s) : Kept s0 (State.stretch s) := by
  unfold State.stretch
  try dsimp only
  iterate 25 (all_goals try with_reducible first
    | assumption | exact id_kept (by assumption) | intro _ | split | refine Kept.mk' ?_ rfl rfl rfl rfl | dsimp only)

theorem State.closeFar_kept {s0 : Start} (s : State) (hG : Kept s0 s) : Kept s0 (State.closeFar s) := by
  unfold State.closeFar
  try dsimp only
  iterate 25 (all_goals try with_reducible first
    | assumption | exact id_kept (by assumption) | apply State.onFar_kept | apply State.onFarChan_kept
    | apply State.returnQueued_kept | refine forEach_kept (fun _ _ _ => ?_) ?_ | intro _ | split
    | refine Kept.mk' ?_ rfl rfl rfl rfl | dsimp only)

theorem State.openFar_kept {s0 : Start} (s : State) (hG : Kept s0 s) : Kept s0 (State.openFar s) := by
  unfold State.openFar
  try dsimp only
  iterate 25 (all_goals try with_reducible first
    | assumption | exact id_kept (by assumption) | apply State.onFarChan_kept
    | refine forEach_kept (fun _ _ _ => ?_) ?_ | intro _ | split | refine Kept.mk' ?_ rfl rfl rfl rfl | dsimp only)

theorem State.closeIntake_kept {s0 : Start} (s : State) (hG : Kept s0 s) : Kept s0 (State.closeIntake s) := by
  unfold State.closeIntake
  try dsimp only
  iterate 25 (all_goals try with_reducible first
    | assumption | exact id_kept (by assumption) | apply State.onChan_kept | refine forEach_kept (fun _ _ _ => ?_) ?_
    | intro _ | split | refine Kept.mk' ?_ rfl rfl rfl rfl | dsimp only)

theorem State.openIntake_kept {s0 : Start} (s : State) (hG : Kept s0 s) : Kept s0 (State.openIntake s) := by
  unfold State.openIntake
  try dsimp only
  iterate 25 (all_goals try with_reducible first
    | assumption | exact id_kept (by assumption) | apply State.onChan_kept | refine forEach_kept (fun _ _ _ => ?_) ?_
    | intro _ | split | refine Kept.mk' ?_ rfl rfl rfl rfl | dsimp only)

theorem State.inCold_kept {s0 : Start} (s : State) (src : ColdSrc) (hk : s0.k = false) (hG : Kept s0 s) : Kept s0 (State.inCold s src) := by
  unfold State.inCold
  refine ⟨hG.pend, fun h => by simp [hk] at h, fun i => ?_, fun _ _ => ⟨by simp, rfl⟩⟩
  refine ⟨by simp, fun q => ?_, rfl⟩
  simp [State.queue, tget, CmdQueue.dflt]

theorem State.coldAssert_kept {s0 : Start} (s : State) (src : ColdSrc) (hk : s0.k = false) (hG : Kept s0 s) : Kept s0 (State.coldAssert s src) := by
  unfold State.coldAssert
  split
  · exact Kept.mk' hG rfl rfl rfl rfl
  · split
    · assumption
    · split
      · exact State.inCold_kept _ _ hk hG
      · exact Kept.mk' hG rfl rfl rfl rfl

theorem State.sampleStraps_kept {s0 : Start} (s : State) (p : StrapPins) (hk : s0.k = false) (hG : Kept s0 s) : Kept s0 (State.sampleStraps s p) := by
  unfold State.sampleStraps
  extract_lets a b c d s1 s2
  have h1 : Kept s0 s1 := Kept.mk3 hk hG rfl rfl rfl rfl
  clear_value s1
  have h2 : Kept s0 s2 := by
    unfold s2; split
    · exact State.clamp_kept _ _ _ _ _ _ _ h1
    · assumption
  clear_value s2
  split
  · exact State.clamp_kept _ _ _ _ _ _ _ h2
  · assumption

theorem State.restartSweeps_kept {s0 : Start} (s : State) (hG : Kept s0 s) : Kept s0 (State.restartSweeps s) := by
  unfold State.restartSweeps
  try dsimp only
  iterate 25 (all_goals try with_reducible first
    | assumption | exact id_kept (by assumption) | intro _ | split | refine Kept.mk' ?_ rfl rfl rfl rfl | dsimp only)

theorem State.enterWarm_kept {s0 : Start} (s : State) (hG : Kept s0 s) : Kept s0 (State.enterWarm s) := by
  unfold State.enterWarm
  try dsimp only
  iterate 25 (all_goals try with_reducible first
    | assumption | exact id_kept (by assumption) | apply State.closeFar_kept | apply State.closeIntake_kept
    | apply State.enterMode_kept | apply State.park_kept | apply State.restartSweeps_kept | apply State.stretch_kept
    | refine foldl_kept (fun _ _ _ => ?_) ?_ | refine foldl_kept1 (fun _ _ _ => ?_) ?_ | intro _ | split
    | refine Kept.mk' ?_ rfl rfl rfl rfl | dsimp only)

theorem State.warmAssert_kept {s0 : Start} (s : State) (src : WarmSrc) (hG : Kept s0 s) :
    Kept s0 (State.warmAssert s src) := by
  unfold State.warmAssert
  try dsimp only
  iterate 25 (all_goals try with_reducible first
    | assumption | exact id_kept (by assumption) | apply State.recCount_kept | apply State.enterWarm_kept | intro _
    | split | refine Kept.mk' ?_ rfl rfl rfl rfl | dsimp only)

theorem State.readCopies_kept {s0 : Start} (s : State) (hG : Kept s0 s) : Kept s0 (State.readCopies s) := by
  unfold State.readCopies
  try dsimp only
  iterate 25 (all_goals try with_reducible first
    | assumption | exact id_kept (by assumption) | apply State.recCount_kept | apply State.report_kept | intro _
    | split | refine Kept.mk' ?_ rfl rfl rfl rfl | dsimp only)

theorem State.loadRecord_kept {s0 : Start} (s : State) (hG : Kept s0 s) : Kept s0 (State.loadRecord s) := by
  unfold State.loadRecord
  try dsimp only
  iterate 25 (all_goals try with_reducible first
    | assumption | exact id_kept (by assumption) | apply State.recCount_kept | intro _ | split
    | refine Kept.mk' ?_ rfl rfl rfl rfl | dsimp only)

theorem State.initInkwell_kept {s0 : Start} (s : State) (hG : Kept s0 s) : Kept s0 (State.initInkwell s) := by
  unfold State.initInkwell
  exact Kept.mk4 hG rfl rfl rfl rfl rfl

theorem State.unhold_kept {s0 : Start} (s : State) (n : Nat) (hG : Kept s0 s) : Kept s0 (State.unhold s n) := by
  unfold State.unhold
  try dsimp only
  iterate 25 (all_goals try with_reducible first
    | assumption | exact id_kept (by assumption) | intro _ | split | refine Kept.mk' ?_ rfl rfl rfl rfl | dsimp only)

theorem State.freeDomain_kept {s0 : Start} (s : State) (n : Nat) (hG : Kept s0 s) :
    Kept s0 (State.freeDomain s n) := by
  unfold State.freeDomain
  try dsimp only
  iterate 25 (all_goals try with_reducible first
    | assumption | exact id_kept (by assumption) | apply State.unhold_kept | intro _ | split
    | refine Kept.mk' ?_ rfl rfl rfl rfl | dsimp only)

theorem State.raiseHeldHouse_kept {s0 : Start} (s : State) (hG : Kept s0 s) :
    Kept s0 (State.raiseHeldHouse s) := by
  unfold State.raiseHeldHouse
  try dsimp only
  iterate 25 (all_goals try with_reducible first
    | assumption | exact id_kept (by assumption) | apply State.housePulse_kept
    | refine forEach_kept (fun _ _ _ => ?_) ?_ | intro _ | split | refine Kept.mk' ?_ rfl rfl rfl rfl | dsimp only)

theorem State.ring_kept {s0 : Start} (s : State) (b : Bell) (hG : Kept s0 s) : Kept s0 (State.ring s b) := by
  unfold State.ring
  try dsimp only
  iterate 25 (all_goals try with_reducible first
    | assumption | exact id_kept (by assumption) | apply State.sendOrder_kept | intro _ | split
    | refine Kept.mk' ?_ rfl rfl rfl rfl | dsimp only)

theorem State.ringHeld_kept {s0 : Start} (s : State) (hG : Kept s0 s) : Kept s0 (State.ringHeld s) := by
  unfold State.ringHeld
  try dsimp only
  iterate 25 (all_goals try with_reducible first
    | assumption | exact id_kept (by assumption) | apply State.ring_kept | refine forEach_kept (fun _ _ _ => ?_) ?_
    | intro _ | split | refine Kept.mk' ?_ rfl rfl rfl rfl | dsimp only)

theorem State.sendLink_kept {s0 : Start} (s : State) (g : Nat) (reset query : Bool) (hG : Kept s0 s) :
    Kept s0 (State.sendLink s g reset query) := by
  unfold State.sendLink
  try dsimp only
  iterate 25 (all_goals try with_reducible first
    | assumption | exact id_kept (by assumption) | apply State.onLink_kept | intro _ | split
    | refine Kept.mk' ?_ rfl rfl rfl rfl | dsimp only)

theorem State.sendDue_kept {s0 : Start} (s : State) (g : Nat) (all : Bool) (hG : Kept s0 s) :
    Kept s0 (State.sendDue s g all) := by
  unfold State.sendDue
  try dsimp only
  iterate 25 (all_goals try with_reducible first
    | assumption | exact id_kept (by assumption) | apply State.onPort_kept | apply State.sendSettings_kept
    | refine forEach_kept (fun _ _ _ => ?_) ?_ | intro _ | split | refine Kept.mk' ?_ rfl rfl rfl rfl | dsimp only)

theorem State.linkOpen_kept {s0 : Start} (s : State) (g : Nat) (hG : Kept s0 s) :
    Kept s0 (State.linkOpen s g) := by
  unfold State.linkOpen
  try dsimp only
  iterate 25 (all_goals try with_reducible first
    | assumption | exact id_kept (by assumption) | apply State.onLink_kept | apply State.sendDue_kept
    | apply State.sendLink_kept | intro _ | split | refine Kept.mk' ?_ rfl rfl rfl rfl | dsimp only)

theorem State.reportKept_kept {s0 : Start} (s : State) (hG : Kept s0 s) : Kept s0 (State.reportKept s) := by
  unfold State.reportKept
  try dsimp only
  iterate 25 (all_goals try with_reducible first
    | assumption | exact id_kept (by assumption) | apply State.onPort_kept | apply State.reportTakes_kept
    | refine forEach_kept (fun _ _ _ => ?_) ?_ | intro _ | split | refine Kept.mk' ?_ rfl rfl rfl rfl | dsimp only)

theorem State.releaseNib_kept {s0 : Start} (s : State) (query : Bool) (hG : Kept s0 s) :
    Kept s0 (State.releaseNib s query) := by
  unfold State.releaseNib
  try dsimp only
  iterate 25 (all_goals try with_reducible first
    | assumption | exact id_kept (by assumption) | apply State.linkOpen_kept | apply State.reportKept_kept
    | apply State.sendDue_kept | apply State.sendLink_kept | refine forEach_kept (fun _ _ _ => ?_) ?_ | intro _ | split
    | refine Kept.mk' ?_ rfl rfl rfl rfl | dsimp only)

theorem State.releaseIntake_kept {s0 : Start} (s : State) (hG : Kept s0 s) : Kept s0 (State.releaseIntake s) := by
  unfold State.releaseIntake
  try dsimp only
  iterate 25 (all_goals try with_reducible first
    | assumption | exact id_kept (by assumption) | apply State.openIntake_kept | apply State.raiseHeldHouse_kept
    | apply State.ringHeld_kept | intro _ | split | refine Kept.mk' ?_ rfl rfl rfl rfl | dsimp only)

theorem State.releaseActions_kept {s0 : Start} (s : State) (n : Nat) (hG : Kept s0 s) :
    Kept s0 (State.releaseActions s n) := by
  unfold State.releaseActions
  try dsimp only
  iterate 25 (all_goals try with_reducible first
    | assumption | exact id_kept (by assumption) | apply State.openFar_kept | apply State.readCopies_kept
    | apply State.releaseIntake_kept | apply State.releaseNib_kept | apply State.restartWitness_kept
    | apply State.standIn_kept | intro _ | split | refine Kept.mk' ?_ rfl rfl rfl rfl | dsimp only)

theorem State.endDuctus_kept {s0 : Start} (s : State) (hG : Kept s0 s) : Kept s0 (State.endDuctus s) := by
  unfold State.endDuctus
  try dsimp only
  iterate 25 (all_goals try with_reducible first
    | assumption | exact id_kept (by assumption) | apply State.goTo_kept | apply State.raiseHouse_kept | intro _
    | split | refine Kept.mk' ?_ rfl rfl rfl rfl | dsimp only)

theorem State.startWarmDuctus_kept {s0 : Start} (s : State) (hG : Kept s0 s) :
    Kept s0 (State.startWarmDuctus s) := by
  unfold State.startWarmDuctus
  try dsimp only
  iterate 25 (all_goals try with_reducible first
    | assumption | exact id_kept (by assumption) | apply State.enterMode_kept | apply State.settleAck_kept | intro _
    | split | refine Kept.mk' ?_ rfl rfl rfl rfl | dsimp only)

end Sys2Proof.Machine
end

