-- ==== Sys2Proof/Laws/KeptHusk.lean ====
section
/-! SUPPORT. What every operation of Machine/Husk.lean keeps. -/
namespace Sys2Proof.Machine

theorem State.undoSource_kept {s0 : Start} (s : State) (u : Nat × SrcRec) (hG : Kept s0 s) :
    Kept s0 (State.undoSource s u) := by
  unfold State.undoSource
  try dsimp only
  iterate 25 (all_goals try with_reducible first
    | assumption | exact id_kept (by assumption) | apply State.commit_kept | apply State.endPending_kept
    | apply State.onSource_kept | intro _ | split | refine Kept.mk' ?_ rfl rfl rfl rfl | dsimp only)

theorem State.revert_kept {s0 : Start} (s : State) (h : HuskIn) (owner : Option Nat) (status result : Nat) (hG : Kept s0 s) :
    Kept s0 (State.revert s h owner status result) := by
  unfold State.revert
  try dsimp only
  iterate 25 (all_goals try with_reducible first
    | assumption | exact id_kept (by assumption) | apply State.onCtx_kept | apply State.reply_kept
    | apply State.second_kept | apply State.startSweep_kept | apply State.undoSource_kept
    | refine forEach_kept (fun _ _ _ => ?_) ?_ | intro _ | split | refine Kept.mk' ?_ rfl rfl rfl rfl | dsimp only)

theorem State.placeSource_kept {s0 : Start} (s : State) (h : HuskIn) (x : HuskSrc) (hG : Kept s0 s) :
    Kept s0 (State.placeSource s h x) := by
  unfold State.placeSource
  try dsimp only
  iterate 25 (all_goals try with_reducible first
    | assumption | exact id_kept (by assumption) | apply State.putSource_kept | apply State.accept_kept
    | apply State.ledge_kept | apply State.onCtx_kept | apply State.restoreCell_kept | intro _ | split
    | refine Kept.mk' ?_ rfl rfl rfl rfl | dsimp only)

theorem State.mapSource_kept {s0 : Start} (s : State) (h : HuskIn) (e target taker : Nat) (hG : Kept s0 s) :
    Kept s0 (State.mapSource s h e target taker) := by
  unfold State.mapSource
  try dsimp only
  iterate 25 (all_goals try with_reducible first
    | assumption | exact id_kept (by assumption) | apply State.guestIn_kept | apply State.onSource_kept | intro _
    | split | refine Kept.mk' ?_ rfl rfl rfl rfl | dsimp only)

theorem State.placeDelta_kept {s0 : Start} (s : State) (e : Nat) (x : HuskSrc) (hG : Kept s0 s) :
    Kept s0 (State.placeDelta s e x) := by
  unfold State.placeDelta
  try dsimp only
  iterate 25 (all_goals try with_reducible first
    | assumption | exact id_kept (by assumption) | apply State.putSource_kept | apply State.accept_kept
    | apply State.commit_kept | apply State.ledge_kept | apply State.onCtx_kept | intro _ | split
    | refine Kept.mk' ?_ rfl rfl rfl rfl | dsimp only)

theorem huskFirst_kept {s0 : Start} (s : State) (h : HuskIn) (hG : Kept s0 s) : Kept s0 (huskFirst s h).s := by
  unfold huskFirst
  try dsimp only
  iterate 25 (all_goals try with_reducible first
    | assumption | exact id_kept (by assumption) | apply State.putCtx_kept | intro _ | split
    | refine Kept.mk' ?_ rfl rfl rfl rfl | dsimp only)

theorem huskCounts_kept {s0 : Start} (s : State) (h : HuskIn) (hG : Kept s0 s) : Kept s0 (huskCounts s h).s := by
  unfold huskCounts
  try dsimp only
  iterate 25 (all_goals try with_reducible first
    | assumption | exact id_kept (by assumption) | apply State.onCtx_kept | intro _ | split
    | refine Kept.mk' ?_ rfl rfl rfl rfl | dsimp only)

theorem huskSettings_kept {s0 : Start} (s : State) (h : HuskIn) (q : Nat) (owner : Option Nat) (hG : Kept s0 s) :
    Kept s0 (huskSettings s h q owner).s := by
  unfold huskSettings
  try dsimp only
  iterate 25 (all_goals try with_reducible first
    | assumption | exact id_kept (by assumption) | apply State.putCtx_kept | apply State.recordClamps_kept
    | apply State.refill_kept | intro _ | split | refine Kept.mk' ?_ rfl rfl rfl rfl | dsimp only)

theorem huskTable_kept {s0 : Start} (s : State) (h : HuskIn) (n : Nat) (hG : Kept s0 s) :
    Kept s0 (huskTable s h n).s := by
  unfold huskTable
  try dsimp only
  iterate 25 (all_goals try with_reducible first
    | assumption | exact id_kept (by assumption) | apply State.putPage_kept | apply State.putTrans_kept | intro _
    | split | refine Kept.mk' ?_ rfl rfl rfl rfl | dsimp only)

theorem huskGroupAt_kept {s0 : Start} (s : State) (h : HuskIn) (n : Nat) (hG : Kept s0 s) :
    Kept s0 (huskGroupAt s h n).s := by
  unfold huskGroupAt
  try dsimp only
  iterate 25 (all_goals try with_reducible first
    | assumption | exact id_kept (by assumption) | apply State.putGrp_kept | intro _ | split
    | refine Kept.mk' ?_ rfl rfl rfl rfl | dsimp only)

theorem huskSourceAt_kept {s0 : Start} (s : State) (h : HuskIn) (n : Nat) (hG : Kept s0 s) :
    Kept s0 (huskSourceAt s h n).s := by
  unfold huskSourceAt
  try dsimp only
  iterate 25 (all_goals try with_reducible first
    | assumption | exact id_kept (by assumption) | apply State.placeDelta_kept | apply State.placeSource_kept | intro _
    | split | refine Kept.mk' ?_ rfl rfl rfl rfl | dsimp only)

theorem huskFinish_kept {s0 : Start} (s : State) (h : HuskIn) (hG : Kept s0 s) : Kept s0 (huskFinish s h).1 := by
  unfold huskFinish
  try dsimp only
  iterate 25 (all_goals try with_reducible first
    | assumption | exact id_kept (by assumption) | apply State.mapSource_kept | apply State.onGrp_kept
    | refine foldl_kept (fun _ _ _ => ?_) ?_ | refine foldl_kept1 (fun _ _ _ => ?_) ?_ | intro _ | split
    | refine Kept.mk' ?_ rfl rfl rfl rfl | dsimp only)

theorem huskWord_kept {s0 : Start} (s : State) (h : HuskIn) (q : Nat) (owner : Option Nat) (hG : Kept s0 s) :
    Kept s0 (huskWord s h q owner).s := by
  unfold huskWord
  extract_lets n d a
  have ha : Kept s0 a.s := by
    unfold a; split
    · exact huskCounts_kept _ _ hG
    · exact hG
  clear_value a d n
  by_cases c : n = 0
  · rw [if_pos c]; exact huskFirst_kept _ _ hG
  rw [if_neg c]
  by_cases c : n = 1
  · rw [if_pos c]; exact hG
  rw [if_neg c]
  by_cases c : a.fail.isSome = true
  · rw [if_pos c]; exact ha
  rw [if_neg c]
  by_cases c : n + 1 = d.size
  · rw [if_pos c]; exact huskSettings_kept _ _ _ _ ha
  rw [if_neg c]
  by_cases c : n < d.pageAt
  · rw [if_pos c]; exact ha
  rw [if_neg c]
  by_cases c : n < d.groupAt
  · rw [if_pos c]; exact huskTable_kept _ _ _ ha
  rw [if_neg c]
  by_cases c : n < d.srcAt
  · rw [if_pos c]; exact huskGroupAt_kept _ _ _ ha
  rw [if_neg c]
  by_cases c : n < d.trailerAt
  · rw [if_pos c]; exact huskSourceAt_kept _ _ _ ha
  rw [if_neg c]
  repeat' split
  all_goals exact ha

theorem State.huskDone_kept {s0 : Start} (s : State) (h : HuskIn) (hG : Kept s0 s) :
    Kept s0 (State.huskDone s h) := by
  unfold State.huskDone
  try dsimp only
  iterate 25 (all_goals try with_reducible first
    | assumption | exact id_kept (by assumption) | apply State.onCtx_kept | intro _ | split
    | refine Kept.mk' ?_ rfl rfl rfl rfl | dsimp only)

theorem State.moveOut_kept {s0 : Start} (s : State) (e code : Nat) (hG : Kept s0 s) :
    Kept s0 (State.moveOut s e code) := by
  unfold State.moveOut
  try dsimp only
  iterate 25 (all_goals try with_reducible first
    | assumption | exact id_kept (by assumption) | apply State.commit_kept | apply State.drainCheck_kept
    | apply State.endActive_kept | apply State.endPending_kept | apply State.linkHeld_kept | apply State.onCtx_kept
    | apply State.staleFirst_kept | intro _ | split | refine Kept.mk' ?_ rfl rfl rfl rfl | dsimp only)

end Sys2Proof.Machine
end

