-- ==== Sys2Proof/Laws/KeptCdw.lean ====
section
/-! SUPPORT. What every operation of Machine/Cdw.lean keeps. -/
namespace Sys2Proof.Machine

theorem State.closeCdw_kept {s0 : Start} (s : State) (hG : Kept s0 s) : Kept s0 (State.closeCdw s) := by
  unfold State.closeCdw
  try dsimp only
  iterate 25 (all_goals try with_reducible first
    | assumption | exact id_kept (by assumption) | apply State.atBank_kept | intro _ | split
    | refine Kept.mk' ?_ rfl rfl rfl rfl | dsimp only)

theorem State.openCdw_kept {s0 : Start} (s : State) (q id : Nat) (owner : Option Nat) (outward : Bool) (left : Nat) (x : Xfer) (hG : Kept s0 s) :
    Kept s0 (State.openCdw s q id owner outward left x) := by
  unfold State.openCdw
  try dsimp only
  iterate 25 (all_goals try with_reducible first
    | assumption | exact id_kept (by assumption) | intro _ | split | refine Kept.mk' ?_ rfl rfl rfl rfl | dsimp only)

theorem State.claimCdw_kept {s0 : Start} (s : State) (q : Nat) (owner : Nat) (hG : Kept s0 s) :
    Kept s0 (State.claimCdw s q owner) := by
  unfold State.claimCdw
  try dsimp only
  iterate 25 (all_goals try with_reducible first
    | assumption | exact id_kept (by assumption) | intro _ | split | refine Kept.mk' ?_ rfl rfl rfl rfl | dsimp only)

theorem State.answerOwner_kept {s0 : Start} (s : State) (owner : Option Nat) (status : Nat) (result : List (BitVec 64)) (hG : Kept s0 s) :
    Kept s0 (State.answerOwner s owner status result) := by
  unfold State.answerOwner
  try dsimp only
  iterate 25 (all_goals try with_reducible first
    | assumption | exact id_kept (by assumption) | apply State.second_kept | intro _ | split
    | refine Kept.mk' ?_ rfl rfl rfl rfl | dsimp only)

theorem State.endShort_kept {s0 : Start} (s : State) (status : Nat) (hG : Kept s0 s) :
    Kept s0 (State.endShort s status) := by
  unfold State.endShort
  try dsimp only
  iterate 25 (all_goals try with_reducible first
    | assumption | exact id_kept (by assumption) | apply State.answerOwner_kept | apply State.closeCdw_kept
    | apply State.onCtx_kept | apply State.revert_kept | intro _ | split | refine Kept.mk' ?_ rfl rfl rfl rfl
    | dsimp only)

theorem State.stopCdw_kept {s0 : Start} (s : State) (hG : Kept s0 s) : Kept s0 (State.stopCdw s) := by
  unfold State.stopCdw
  try dsimp only
  iterate 25 (all_goals try with_reducible first
    | assumption | exact id_kept (by assumption) | apply State.answerOwner_kept | apply State.closeCdw_kept
    | apply State.endShort_kept | apply State.onCtx_kept | intro _ | split | refine Kept.mk' ?_ rfl rfl rfl rfl
    | dsimp only)

theorem State.cutCdw_kept {s0 : Start} (s : State) (hG : Kept s0 s) : Kept s0 (State.cutCdw s) := by
  unfold State.cutCdw
  try dsimp only
  iterate 25 (all_goals try with_reducible first
    | assumption | exact id_kept (by assumption) | apply State.endShort_kept | apply State.stopCdw_kept | intro _
    | split | refine Kept.mk' ?_ rfl rfl rfl rfl | dsimp only)

theorem State.xferOn_kept {s0 : Start} (s : State) (x : Xfer) (hG : Kept s0 s) : Kept s0 (State.xferOn s x) := by
  unfold State.xferOn
  try dsimp only
  iterate 25 (all_goals try with_reducible first
    | assumption | exact id_kept (by assumption) | intro _ | split | refine Kept.mk' ?_ rfl rfl rfl rfl | dsimp only)

theorem State.endInward_kept {s0 : Start} (s : State) (owner : Option Nat) (status result : Nat) (hG : Kept s0 s) :
    Kept s0 (State.endInward s owner status result) := by
  unfold State.endInward
  try dsimp only
  iterate 25 (all_goals try with_reducible first
    | assumption | exact id_kept (by assumption) | apply State.answerOwner_kept | apply State.closeCdw_kept | intro _
    | split | refine Kept.mk' ?_ rfl rfl rfl rfl | dsimp only)

theorem State.tellAgent_kept {s0 : Start} (s : State) (t : Nat) (old : Tgt) (hG : Kept s0 s) :
    Kept s0 (State.tellAgent s t old) := by
  unfold State.tellAgent
  try dsimp only
  iterate 25 (all_goals try with_reducible first
    | assumption | exact id_kept (by assumption) | apply State.onPort_kept | apply State.sendSettings_kept | intro _
    | split | refine Kept.mk' ?_ rfl rfl rfl rfl | dsimp only)

theorem State.pathChange_kept {s0 : Start} (s : State) (t : Nat) (old : Tgt) (hG : Kept s0 s) :
    Kept s0 (State.pathChange s t old) := by
  unfold State.pathChange
  try dsimp only
  iterate 25 (all_goals try with_reducible first
    | assumption | exact id_kept (by assumption) | apply State.bypassFor_kept | apply State.onPort_kept
    | apply State.reportRun_kept | intro _ | split | refine Kept.mk' ?_ rfl rfl rfl rfl | dsimp only)

theorem State.loadInstWord_kept {s0 : Start} (s : State) (i k : Nat) (w : BitVec 64) (hG : Kept s0 s) :
    Kept s0 (State.loadInstWord s i k w).1 := by
  unfold State.loadInstWord
  try dsimp only
  iterate 25 (all_goals try with_reducible first
    | assumption | exact id_kept (by assumption) | apply State.putCtx_kept | intro _ | split
    | refine Kept.mk' ?_ rfl rfl rfl rfl | dsimp only)

theorem State.loadTargetWord_kept {s0 : Start} (s : State) (q t k : Nat) (w : BitVec 64) (hG : Kept s0 s) :
    Kept s0 (State.loadTargetWord s q t k w) := by
  have hp : ∀ n cs, Kept s0 ((((s.putTgt t n).tellAgent t (s.tgt t)).pathChange t (s.tgt t)).recordClamps q 0x68 cs) :=
    fun n cs => State.recordClamps_kept _ _ _ _
      (State.pathChange_kept _ _ _ (State.tellAgent_kept _ _ _ (State.putTgt_kept _ _ _ hG)))
  unfold State.loadTargetWord
  extract_lets far c put
  have hput : ∀ n cs, Kept s0 (put n cs) := hp
  clear_value put
  by_cases h0 : k = 0
  · rw [if_pos h0]; exact hput _ _
  rw [if_neg h0]
  by_cases h0 : k = 1
  · rw [if_pos h0]; exact hput _ _
  rw [if_neg h0]
  by_cases h0 : k = 2
  · rw [if_pos h0]; exact hput _ _
  rw [if_neg h0]
  by_cases h0 : k = 3
  · rw [if_pos h0]; exact hput _ _
  rw [if_neg h0]
  by_cases h0 : k = 4 ∧ far = true
  · rw [if_pos h0]; exact hput _ _
  rw [if_neg h0]
  by_cases h0 : k = 5 ∧ far = true
  · rw [if_pos h0]; exact hput _ _
  rw [if_neg h0]
  by_cases h0 : k = 6 ∧ far = true
  · rw [if_pos h0]; exact hput _ _
  rw [if_neg h0]
  by_cases h0 : k = 7 ∧ far = true
  · rw [if_pos h0]; exact hput _ _
  rw [if_neg h0]
  by_cases h0 : k = 8
  · rw [if_pos h0]; exact hput _ _
  rw [if_neg h0]
  by_cases h0 : k = 9 ∧ far = true
  · rw [if_pos h0]; exact hput _ _
  rw [if_neg h0]
  by_cases h0 : 10 ≤ k ∧ k < 64
  · rw [if_pos h0]; exact hput _ _
  rw [if_neg h0]
  by_cases h0 : 64 ≤ k ∧ (!far) = true
  · rw [if_pos h0]; exact hput _ _
  rw [if_neg h0]
  exact hG

theorem State.loadWord_kept {s0 : Start} (s : State) (q addr : Nat) (w : BitVec 64) (hG : Kept s0 s) :
    Kept s0 (State.loadWord s q addr w).1 := by
  unfold State.loadWord
  try extract_lets a0 a1 a2 a3 a4 a5 a6 a7 a8 a9 a10
  try (have h0 : Kept s0 a0 := (by
    unfold a0
    try dsimp only
    iterate 25 (all_goals try with_reducible first
      | assumption | exact id_kept (by assumption) | apply State.loadInstWord_kept | apply State.loadTargetWord_kept
      | apply State.objectReplies_kept | apply State.onGrp_kept | apply State.putPage_kept | apply State.putTrans_kept
      | intro _ | split | refine Kept.mk' ?_ rfl rfl rfl rfl | dsimp only)))
  try (have h0 : Kept s0 a0.1 := (by
    unfold a0
    try dsimp only
    iterate 25 (all_goals try with_reducible first
      | assumption | exact id_kept (by assumption) | apply State.loadInstWord_kept | apply State.loadTargetWord_kept
      | apply State.objectReplies_kept | apply State.onGrp_kept | apply State.putPage_kept | apply State.putTrans_kept
      | intro _ | split | refine Kept.mk' ?_ rfl rfl rfl rfl | dsimp only)))
  try (have h0 : Kept s0 a0.s := (by
    unfold a0
    try dsimp only
    iterate 25 (all_goals try with_reducible first
      | assumption | exact id_kept (by assumption) | apply State.loadInstWord_kept | apply State.loadTargetWord_kept
      | apply State.objectReplies_kept | apply State.onGrp_kept | apply State.putPage_kept | apply State.putTrans_kept
      | intro _ | split | refine Kept.mk' ?_ rfl rfl rfl rfl | dsimp only)))
  try (have h1 : Kept s0 a1 := (by
    unfold a1
    try dsimp only
    iterate 25 (all_goals try with_reducible first
      | assumption | exact id_kept (by assumption) | apply State.loadInstWord_kept | apply State.loadTargetWord_kept
      | apply State.objectReplies_kept | apply State.onGrp_kept | apply State.putPage_kept | apply State.putTrans_kept
      | intro _ | split | refine Kept.mk' ?_ rfl rfl rfl rfl | dsimp only)))
  try (have h1 : Kept s0 a1.1 := (by
    unfold a1
    try dsimp only
    iterate 25 (all_goals try with_reducible first
      | assumption | exact id_kept (by assumption) | apply State.loadInstWord_kept | apply State.loadTargetWord_kept
      | apply State.objectReplies_kept | apply State.onGrp_kept | apply State.putPage_kept | apply State.putTrans_kept
      | intro _ | split | refine Kept.mk' ?_ rfl rfl rfl rfl | dsimp only)))
  try (have h1 : Kept s0 a1.s := (by
    unfold a1
    try dsimp only
    iterate 25 (all_goals try with_reducible first
      | assumption | exact id_kept (by assumption) | apply State.loadInstWord_kept | apply State.loadTargetWord_kept
      | apply State.objectReplies_kept | apply State.onGrp_kept | apply State.putPage_kept | apply State.putTrans_kept
      | intro _ | split | refine Kept.mk' ?_ rfl rfl rfl rfl | dsimp only)))
  try (have h2 : Kept s0 a2 := (by
    unfold a2
    try dsimp only
    iterate 25 (all_goals try with_reducible first
      | assumption | exact id_kept (by assumption) | apply State.loadInstWord_kept | apply State.loadTargetWord_kept
      | apply State.objectReplies_kept | apply State.onGrp_kept | apply State.putPage_kept | apply State.putTrans_kept
      | intro _ | split | refine Kept.mk' ?_ rfl rfl rfl rfl | dsimp only)))
  try (have h2 : Kept s0 a2.1 := (by
    unfold a2
    try dsimp only
    iterate 25 (all_goals try with_reducible first
      | assumption | exact id_kept (by assumption) | apply State.loadInstWord_kept | apply State.loadTargetWord_kept
      | apply State.objectReplies_kept | apply State.onGrp_kept | apply State.putPage_kept | apply State.putTrans_kept
      | intro _ | split | refine Kept.mk' ?_ rfl rfl rfl rfl | dsimp only)))
  try (have h2 : Kept s0 a2.s := (by
    unfold a2
    try dsimp only
    iterate 25 (all_goals try with_reducible first
      | assumption | exact id_kept (by assumption) | apply State.loadInstWord_kept | apply State.loadTargetWord_kept
      | apply State.objectReplies_kept | apply State.onGrp_kept | apply State.putPage_kept | apply State.putTrans_kept
      | intro _ | split | refine Kept.mk' ?_ rfl rfl rfl rfl | dsimp only)))
  try (have h3 : Kept s0 a3 := (by
    unfold a3
    try dsimp only
    iterate 25 (all_goals try with_reducible first
      | assumption | exact id_kept (by assumption) | apply State.loadInstWord_kept | apply State.loadTargetWord_kept
      | apply State.objectReplies_kept | apply State.onGrp_kept | apply State.putPage_kept | apply State.putTrans_kept
      | intro _ | split | refine Kept.mk' ?_ rfl rfl rfl rfl | dsimp only)))
  try (have h3 : Kept s0 a3.1 := (by
    unfold a3
    try dsimp only
    iterate 25 (all_goals try with_reducible first
      | assumption | exact id_kept (by assumption) | apply State.loadInstWord_kept | apply State.loadTargetWord_kept
      | apply State.objectReplies_kept | apply State.onGrp_kept | apply State.putPage_kept | apply State.putTrans_kept
      | intro _ | split | refine Kept.mk' ?_ rfl rfl rfl rfl | dsimp only)))
  try (have h3 : Kept s0 a3.s := (by
    unfold a3
    try dsimp only
    iterate 25 (all_goals try with_reducible first
      | assumption | exact id_kept (by assumption) | apply State.loadInstWord_kept | apply State.loadTargetWord_kept
      | apply State.objectReplies_kept | apply State.onGrp_kept | apply State.putPage_kept | apply State.putTrans_kept
      | intro _ | split | refine Kept.mk' ?_ rfl rfl rfl rfl | dsimp only)))
  try (have h4 : Kept s0 a4 := (by
    unfold a4
    try dsimp only
    iterate 25 (all_goals try with_reducible first
      | assumption | exact id_kept (by assumption) | apply State.loadInstWord_kept | apply State.loadTargetWord_kept
      | apply State.objectReplies_kept | apply State.onGrp_kept | apply State.putPage_kept | apply State.putTrans_kept
      | intro _ | split | refine Kept.mk' ?_ rfl rfl rfl rfl | dsimp only)))
  try (have h4 : Kept s0 a4.1 := (by
    unfold a4
    try dsimp only
    iterate 25 (all_goals try with_reducible first
      | assumption | exact id_kept (by assumption) | apply State.loadInstWord_kept | apply State.loadTargetWord_kept
      | apply State.objectReplies_kept | apply State.onGrp_kept | apply State.putPage_kept | apply State.putTrans_kept
      | intro _ | split | refine Kept.mk' ?_ rfl rfl rfl rfl | dsimp only)))
  try (have h4 : Kept s0 a4.s := (by
    unfold a4
    try dsimp only
    iterate 25 (all_goals try with_reducible first
      | assumption | exact id_kept (by assumption) | apply State.loadInstWord_kept | apply State.loadTargetWord_kept
      | apply State.objectReplies_kept | apply State.onGrp_kept | apply State.putPage_kept | apply State.putTrans_kept
      | intro _ | split | refine Kept.mk' ?_ rfl rfl rfl rfl | dsimp only)))
  try (have h5 : Kept s0 a5 := (by
    unfold a5
    try dsimp only
    iterate 25 (all_goals try with_reducible first
      | assumption | exact id_kept (by assumption) | apply State.loadInstWord_kept | apply State.loadTargetWord_kept
      | apply State.objectReplies_kept | apply State.onGrp_kept | apply State.putPage_kept | apply State.putTrans_kept
      | intro _ | split | refine Kept.mk' ?_ rfl rfl rfl rfl | dsimp only)))
  try (have h5 : Kept s0 a5.1 := (by
    unfold a5
    try dsimp only
    iterate 25 (all_goals try with_reducible first
      | assumption | exact id_kept (by assumption) | apply State.loadInstWord_kept | apply State.loadTargetWord_kept
      | apply State.objectReplies_kept | apply State.onGrp_kept | apply State.putPage_kept | apply State.putTrans_kept
      | intro _ | split | refine Kept.mk' ?_ rfl rfl rfl rfl | dsimp only)))
  try (have h5 : Kept s0 a5.s := (by
    unfold a5
    try dsimp only
    iterate 25 (all_goals try with_reducible first
      | assumption | exact id_kept (by assumption) | apply State.loadInstWord_kept | apply State.loadTargetWord_kept
      | apply State.objectReplies_kept | apply State.onGrp_kept | apply State.putPage_kept | apply State.putTrans_kept
      | intro _ | split | refine Kept.mk' ?_ rfl rfl rfl rfl | dsimp only)))
  try (have h6 : Kept s0 a6 := (by
    unfold a6
    try dsimp only
    iterate 25 (all_goals try with_reducible first
      | assumption | exact id_kept (by assumption) | apply State.loadInstWord_kept | apply State.loadTargetWord_kept
      | apply State.objectReplies_kept | apply State.onGrp_kept | apply State.putPage_kept | apply State.putTrans_kept
      | intro _ | split | refine Kept.mk' ?_ rfl rfl rfl rfl | dsimp only)))
  try (have h6 : Kept s0 a6.1 := (by
    unfold a6
    try dsimp only
    iterate 25 (all_goals try with_reducible first
      | assumption | exact id_kept (by assumption) | apply State.loadInstWord_kept | apply State.loadTargetWord_kept
      | apply State.objectReplies_kept | apply State.onGrp_kept | apply State.putPage_kept | apply State.putTrans_kept
      | intro _ | split | refine Kept.mk' ?_ rfl rfl rfl rfl | dsimp only)))
  try (have h6 : Kept s0 a6.s := (by
    unfold a6
    try dsimp only
    iterate 25 (all_goals try with_reducible first
      | assumption | exact id_kept (by assumption) | apply State.loadInstWord_kept | apply State.loadTargetWord_kept
      | apply State.objectReplies_kept | apply State.onGrp_kept | apply State.putPage_kept | apply State.putTrans_kept
      | intro _ | split | refine Kept.mk' ?_ rfl rfl rfl rfl | dsimp only)))
  try (have h7 : Kept s0 a7 := (by
    unfold a7
    try dsimp only
    iterate 25 (all_goals try with_reducible first
      | assumption | exact id_kept (by assumption) | apply State.loadInstWord_kept | apply State.loadTargetWord_kept
      | apply State.objectReplies_kept | apply State.onGrp_kept | apply State.putPage_kept | apply State.putTrans_kept
      | intro _ | split | refine Kept.mk' ?_ rfl rfl rfl rfl | dsimp only)))
  try (have h7 : Kept s0 a7.1 := (by
    unfold a7
    try dsimp only
    iterate 25 (all_goals try with_reducible first
      | assumption | exact id_kept (by assumption) | apply State.loadInstWord_kept | apply State.loadTargetWord_kept
      | apply State.objectReplies_kept | apply State.onGrp_kept | apply State.putPage_kept | apply State.putTrans_kept
      | intro _ | split | refine Kept.mk' ?_ rfl rfl rfl rfl | dsimp only)))
  try (have h7 : Kept s0 a7.s := (by
    unfold a7
    try dsimp only
    iterate 25 (all_goals try with_reducible first
      | assumption | exact id_kept (by assumption) | apply State.loadInstWord_kept | apply State.loadTargetWord_kept
      | apply State.objectReplies_kept | apply State.onGrp_kept | apply State.putPage_kept | apply State.putTrans_kept
      | intro _ | split | refine Kept.mk' ?_ rfl rfl rfl rfl | dsimp only)))
  try (have h8 : Kept s0 a8 := (by
    unfold a8
    try dsimp only
    iterate 25 (all_goals try with_reducible first
      | assumption | exact id_kept (by assumption) | apply State.loadInstWord_kept | apply State.loadTargetWord_kept
      | apply State.objectReplies_kept | apply State.onGrp_kept | apply State.putPage_kept | apply State.putTrans_kept
      | intro _ | split | refine Kept.mk' ?_ rfl rfl rfl rfl | dsimp only)))
  try (have h8 : Kept s0 a8.1 := (by
    unfold a8
    try dsimp only
    iterate 25 (all_goals try with_reducible first
      | assumption | exact id_kept (by assumption) | apply State.loadInstWord_kept | apply State.loadTargetWord_kept
      | apply State.objectReplies_kept | apply State.onGrp_kept | apply State.putPage_kept | apply State.putTrans_kept
      | intro _ | split | refine Kept.mk' ?_ rfl rfl rfl rfl | dsimp only)))
  try (have h8 : Kept s0 a8.s := (by
    unfold a8
    try dsimp only
    iterate 25 (all_goals try with_reducible first
      | assumption | exact id_kept (by assumption) | apply State.loadInstWord_kept | apply State.loadTargetWord_kept
      | apply State.objectReplies_kept | apply State.onGrp_kept | apply State.putPage_kept | apply State.putTrans_kept
      | intro _ | split | refine Kept.mk' ?_ rfl rfl rfl rfl | dsimp only)))
  try (have h9 : Kept s0 a9 := (by
    unfold a9
    try dsimp only
    iterate 25 (all_goals try with_reducible first
      | assumption | exact id_kept (by assumption) | apply State.loadInstWord_kept | apply State.loadTargetWord_kept
      | apply State.objectReplies_kept | apply State.onGrp_kept | apply State.putPage_kept | apply State.putTrans_kept
      | intro _ | split | refine Kept.mk' ?_ rfl rfl rfl rfl | dsimp only)))
  try (have h9 : Kept s0 a9.1 := (by
    unfold a9
    try dsimp only
    iterate 25 (all_goals try with_reducible first
      | assumption | exact id_kept (by assumption) | apply State.loadInstWord_kept | apply State.loadTargetWord_kept
      | apply State.objectReplies_kept | apply State.onGrp_kept | apply State.putPage_kept | apply State.putTrans_kept
      | intro _ | split | refine Kept.mk' ?_ rfl rfl rfl rfl | dsimp only)))
  try (have h9 : Kept s0 a9.s := (by
    unfold a9
    try dsimp only
    iterate 25 (all_goals try with_reducible first
      | assumption | exact id_kept (by assumption) | apply State.loadInstWord_kept | apply State.loadTargetWord_kept
      | apply State.objectReplies_kept | apply State.onGrp_kept | apply State.putPage_kept | apply State.putTrans_kept
      | intro _ | split | refine Kept.mk' ?_ rfl rfl rfl rfl | dsimp only)))
  try (have h10 : Kept s0 a10 := (by
    unfold a10
    try dsimp only
    iterate 25 (all_goals try with_reducible first
      | assumption | exact id_kept (by assumption) | apply State.loadInstWord_kept | apply State.loadTargetWord_kept
      | apply State.objectReplies_kept | apply State.onGrp_kept | apply State.putPage_kept | apply State.putTrans_kept
      | intro _ | split | refine Kept.mk' ?_ rfl rfl rfl rfl | dsimp only)))
  try (have h10 : Kept s0 a10.1 := (by
    unfold a10
    try dsimp only
    iterate 25 (all_goals try with_reducible first
      | assumption | exact id_kept (by assumption) | apply State.loadInstWord_kept | apply State.loadTargetWord_kept
      | apply State.objectReplies_kept | apply State.onGrp_kept | apply State.putPage_kept | apply State.putTrans_kept
      | intro _ | split | refine Kept.mk' ?_ rfl rfl rfl rfl | dsimp only)))
  try (have h10 : Kept s0 a10.s := (by
    unfold a10
    try dsimp only
    iterate 25 (all_goals try with_reducible first
      | assumption | exact id_kept (by assumption) | apply State.loadInstWord_kept | apply State.loadTargetWord_kept
      | apply State.objectReplies_kept | apply State.onGrp_kept | apply State.putPage_kept | apply State.putTrans_kept
      | intro _ | split | refine Kept.mk' ?_ rfl rfl rfl rfl | dsimp only)))
  try dsimp only
  iterate 25 (all_goals try with_reducible first
    | assumption | exact id_kept (by assumption) | apply State.loadInstWord_kept | apply State.loadTargetWord_kept
    | apply State.objectReplies_kept | apply State.onGrp_kept | apply State.putPage_kept | apply State.putTrans_kept
    | intro _ | split | refine Kept.mk' ?_ rfl rfl rfl rfl | dsimp only)

theorem State.patchLoaded_kept {s0 : Start} (s : State) (owner : Option Nat) (ws : List (BitVec 64)) (persist : Bool) (hG : Kept s0 s) :
    Kept s0 (State.patchLoaded s owner ws persist) := by
  unfold State.patchLoaded
  try dsimp only
  iterate 25 (all_goals try with_reducible first
    | assumption | exact id_kept (by assumption) | apply State.endInward_kept | intro _ | split
    | refine Kept.mk' ?_ rfl rfl rfl rfl | dsimp only)

theorem State.cdwHusk_kept {s0 : Start} (s : State) (h : HuskIn) (w : BitVec 64) (hG : Kept s0 s) :
    Kept s0 (State.cdwHusk s h w) := by
  unfold State.cdwHusk
  try dsimp only
  iterate 25 (all_goals try with_reducible first
    | assumption | exact id_kept (by assumption) | apply State.closeCdw_kept | apply State.endInward_kept
    | apply State.huskDone_kept | apply huskFinish_kept | apply huskWord_kept | apply State.revert_kept
    | apply State.xferOn_kept | intro _ | split | refine Kept.mk' ?_ rfl rfl rfl rfl | dsimp only)

theorem State.cdwTake_kept {s0 : Start} (s : State) (w : BitVec 64) (idx : Nat) (hG : Kept s0 s) :
    Kept s0 (State.cdwTake s w idx) := by
  unfold State.cdwTake
  try dsimp only
  iterate 25 (all_goals try with_reducible first
    | assumption | exact id_kept (by assumption) | apply State.cdwHusk_kept | apply State.endInward_kept
    | apply State.loadWord_kept | apply State.patchLoaded_kept | apply State.putPage_kept | apply State.putTrans_kept
    | apply State.xferOn_kept | intro _ | split | refine Kept.mk' ?_ rfl rfl rfl rfl | dsimp only)

theorem State.sendWord_kept {s0 : Start} (s : State) (e k addr : Nat) (w : BitVec 64) (ws : List (BitVec 64)) (hG : Kept s0 s) :
    Kept s0 (State.sendWord s e k addr w ws) := by
  unfold State.sendWord
  try dsimp only
  iterate 25 (all_goals try with_reducible first
    | assumption | exact id_kept (by assumption) | apply State.atBank_kept | apply State.sendOrder_kept | intro _
    | split | refine Kept.mk' ?_ rfl rfl rfl rfl | dsimp only)

theorem State.drainCdw_kept {s0 : Start} (s : State) (n : Nat) (hG : Kept s0 s) : Kept s0 (State.drainCdw s n) := by
  induction n generalizing s with
  | zero => unfold State.drainCdw; assumption
  | succ n ih =>
    unfold State.drainCdw
    try dsimp only
    iterate 25 (all_goals try with_reducible first
      | assumption | exact id_kept (by assumption) | apply ih | apply State.atBank_kept | apply State.cdwTake_kept
      | apply State.endInward_kept | apply State.sendWord_kept | intro _ | split | refine Kept.mk' ?_ rfl rfl rfl rfl
      | dsimp only)

theorem State.settleCdw_kept {s0 : Start} (s : State) (hG : Kept s0 s) : Kept s0 (State.settleCdw s) := by
  unfold State.settleCdw
  try dsimp only
  iterate 25 (all_goals try with_reducible first
    | assumption | exact id_kept (by assumption) | apply State.drainCdw_kept | intro _ | split
    | refine Kept.mk' ?_ rfl rfl rfl rfl | dsimp only)

theorem State.cdwIn_kept {s0 : Start} (s : State) (w : BitVec 64) (hG : Kept s0 s) :
    Kept s0 (State.cdwIn s w) := by
  unfold State.cdwIn
  try dsimp only
  iterate 25 (all_goals try with_reducible first
    | assumption | exact id_kept (by assumption) | apply State.settleCdw_kept | intro _ | split
    | refine Kept.mk' ?_ rfl rfl rfl rfl | dsimp only)

theorem State.huskNext_kept {s0 : Start} (s : State) (h : HuskOut) (hG : Kept s0 s) :
    Kept s0 (State.huskNext s h).1 := by
  unfold State.huskNext
  try dsimp only
  iterate 25 (all_goals try with_reducible first
    | assumption | exact id_kept (by assumption) | apply State.moveOut_kept | intro _ | split
    | refine Kept.mk' ?_ rfl rfl rfl rfl | dsimp only)

theorem State.cdwOut_kept {s0 : Start} (s : State) (hG : Kept s0 s) : Kept s0 (State.cdwOut s).1 := by
  unfold State.cdwOut
  try dsimp only
  iterate 25 (all_goals try with_reducible first
    | assumption | exact id_kept (by assumption) | apply State.closeCdw_kept | apply State.huskNext_kept
    | apply State.onCtx_kept | apply State.xferOn_kept | intro _ | split | refine Kept.mk' ?_ rfl rfl rfl rfl
    | dsimp only)

end Sys2Proof.Machine
end

