-- ==== Sys2Proof/Laws/KeptQueues.lean ====
section
/-! SUPPORT. What every operation of Machine/Queues.lean keeps. -/
namespace Sys2Proof.Machine

theorem State.firstReply_kept {s0 : Start} (s : State) (q status : Nat) (result : List (BitVec 64)) (hG : Kept s0 s) :
    Kept s0 (State.firstReply s q status result) := by
  unfold State.firstReply
  try dsimp only
  iterate 25 (all_goals try with_reducible first
    | assumption | exact id_kept (by assumption) | refine State.onQueue_kept _ _ (fun _ hq => hq) ?_
    | apply State.onQueue_kept | apply State.reply_kept | apply State.second_kept | intro _ | split
    | refine Kept.mk' ?_ rfl rfl rfl rfl | dsimp only)

theorem State.pumpOne_kept {s0 : Start} (s : State) (q : Nat) (hG : Kept s0 s) : Kept s0 (State.pumpOne s q) := by
  unfold State.pumpOne
  try dsimp only
  iterate 25 (all_goals try with_reducible first
    | assumption | exact id_kept (by assumption) | refine State.onQueue_kept _ _ (fun _ hq => hq) ?_
    | apply State.onQueue_kept | apply State.cutCdw_kept | apply State.firstReply_kept | intro _ | split
    | refine Kept.mk' ?_ rfl rfl rfl rfl | dsimp only)

theorem State.pumpN_kept {s0 : Start} (s : State) (q : Nat) (n : Nat) (hG : Kept s0 s) : Kept s0 (State.pumpN s q n) := by
  induction n generalizing s with
  | zero => unfold State.pumpN; assumption
  | succ n ih =>
    unfold State.pumpN
    try dsimp only
    iterate 25 (all_goals try with_reducible first
      | assumption | exact id_kept (by assumption) | apply ih | apply State.pumpOne_kept | intro _ | split
      | refine Kept.mk' ?_ rfl rfl rfl rfl | dsimp only)

theorem State.pump_kept {s0 : Start} (s : State) (q : Nat) (hG : Kept s0 s) : Kept s0 (State.pump s q) := by
  unfold State.pump
  try dsimp only
  iterate 25 (all_goals try with_reducible first
    | assumption | exact id_kept (by assumption) | apply State.pumpN_kept | intro _ | split
    | refine Kept.mk' ?_ rfl rfl rfl rfl | dsimp only)

theorem State.pumpAll_kept {s0 : Start} (s : State) (hG : Kept s0 s) : Kept s0 (State.pumpAll s) := by
  unfold State.pumpAll
  try dsimp only
  iterate 25 (all_goals try with_reducible first
    | assumption | exact id_kept (by assumption) | apply State.pump_kept | refine forEach_kept (fun _ _ _ => ?_) ?_
    | intro _ | split | refine Kept.mk' ?_ rfl rfl rfl rfl | dsimp only)

theorem State.flushLate_kept {s0 : Start} (s : State) (q : Nat) (n : Nat) (hG : Kept s0 s) : Kept s0 (State.flushLate s q n) := by
  induction n generalizing s with
  | zero => unfold State.flushLate; assumption
  | succ n ih =>
    unfold State.flushLate
    dsimp only
    split
    · assumption
    · split
      · rename_i hc
        apply ih
        apply State.raiseHouse_kept
        exact State.onQueue_kept' _ _ (fun _ => CmdQueue.give_len _ _ hc) hG
      · assumption

theorem State.cutReply_kept {s0 : Start} (s : State) (q status : Nat) (hG : Kept s0 s) :
    Kept s0 (State.cutReply s q status) := by
  unfold State.cutReply
  try dsimp only
  iterate 25 (all_goals try with_reducible first
    | assumption | exact id_kept (by assumption) | apply State.dropPart_kept | apply State.firstReply_kept | intro _
    | split | refine Kept.mk' ?_ rfl rfl rfl rfl | dsimp only)

theorem State.runCmd_kept {s0 : Start} (s : State) (q op : Nat) (body : State → Packet → State) (h_body : ∀ s p, Kept s0 s → Kept s0 (body s p)) (hG : Kept s0 s) :
    Kept s0 (State.runCmd s q op body) := by
  unfold State.runCmd
  try dsimp only
  iterate 25 (all_goals try with_reducible first
    | assumption | exact id_kept (by assumption) | apply h_body | apply State.firstReply_kept | apply State.pump_kept
    | intro _ | split | refine Kept.mk' ?_ rfl rfl rfl rfl | dsimp only)

theorem State.done_kept {s0 : Start} (s : State) (q : Nat) (p : Packet) (cs : List Clamped) (result : List (BitVec 64)) (hG : Kept s0 s) :
    Kept s0 (State.done s q p cs result) := by
  unfold State.done
  try dsimp only
  iterate 25 (all_goals try with_reducible first
    | assumption | exact id_kept (by assumption) | apply State.firstReply_kept | apply State.recordClamps_kept
    | intro _ | split | refine Kept.mk' ?_ rfl rfl rfl rfl | dsimp only)

theorem State.deferCmd_kept {s0 : Start} (s : State) (q : Nat) (p : Packet) (cs : List Clamped) (w : Work) (result : List (BitVec 64)) (hG : Kept s0 s) :
    Kept s0 (State.deferCmd s q p cs w result) := by
  unfold State.deferCmd
  try dsimp only
  iterate 25 (all_goals try with_reducible first
    | assumption | exact id_kept (by assumption) | apply State.defer_kept | apply State.firstReply_kept
    | apply State.recordClamps_kept | intro _ | split | refine Kept.mk' ?_ rfl rfl rfl rfl | dsimp only)

theorem State.settleCommit_kept {s0 : Start} (s : State) (hG : Kept s0 s) : Kept s0 (State.settleCommit s) := by
  unfold State.settleCommit
  try dsimp only
  iterate 25 (all_goals try with_reducible first
    | assumption | exact id_kept (by assumption) | apply State.firstReply_kept | intro _ | split
    | refine Kept.mk' ?_ rfl rfl rfl rfl | dsimp only)

theorem State.holdD3_kept {s0 : Start} (s : State) (warm : Bool) (hG : Kept s0 s) :
    Kept s0 (State.holdD3 s warm) := by
  unfold State.holdD3
  try dsimp only
  iterate 25 (all_goals try with_reducible first
    | assumption | exact id_kept (by assumption) | refine State.onQueue_kept _ _ (fun _ hq => hq) ?_
    | apply State.onQueue_kept | apply State.dropPart_kept | apply State.second_kept | apply State.stopCdw_kept
    | refine forEach_kept (fun _ _ _ => ?_) ?_ | intro _ | split | refine Kept.mk' ?_ rfl rfl rfl rfl | dsimp only)

theorem State.loadPatch_kept {s0 : Start} (s : State) (hG : Kept s0 s) : Kept s0 (State.loadPatch s) := by
  unfold State.loadPatch
  try dsimp only
  iterate 25 (all_goals try with_reducible first
    | assumption | exact id_kept (by assumption) | intro _ | split | refine Kept.mk' ?_ rfl rfl rfl rfl | dsimp only)

theorem State.holderIn_kept {s0 : Start} (s : State) (hG : Kept s0 s) : Kept s0 (State.holderIn s) := by
  unfold State.holderIn
  try dsimp only
  iterate 25 (all_goals try with_reducible first
    | assumption | exact id_kept (by assumption) | refine State.onQueue_kept _ _ (fun _ hq => hq) ?_
    | apply State.onQueue_kept | intro _ | split | refine Kept.mk' ?_ rfl rfl rfl rfl | dsimp only)

theorem State.gateReplies_kept {s0 : Start} (s : State) (hG : Kept s0 s) : Kept s0 (State.gateReplies s) := by
  unfold State.gateReplies
  try dsimp only
  iterate 25 (all_goals try with_reducible first
    | assumption | exact id_kept (by assumption) | refine State.onQueue_kept _ _ (fun _ hq => hq) ?_
    | apply State.onQueue_kept | apply State.reply_kept | apply State.second_kept
    | refine forEach_kept (fun _ _ _ => ?_) ?_ | intro _ | split | refine Kept.mk' ?_ rfl rfl rfl rfl | dsimp only)

theorem State.releaseD3_kept {s0 : Start} (s : State) (warm fresh : Bool) (hG : Kept s0 s) :
    Kept s0 (State.releaseD3 s warm fresh) := by
  unfold State.releaseD3
  try dsimp only
  iterate 25 (all_goals try with_reducible first
    | assumption | exact id_kept (by assumption) | apply State.gateReplies_kept | apply State.holderIn_kept
    | apply State.loadPatch_kept | apply State.reply_kept | apply State.restartWalk_kept
    | refine forEach_kept (fun _ _ _ => ?_) ?_ | intro _ | split | refine Kept.mk' ?_ rfl rfl rfl rfl | dsimp only)

end Sys2Proof.Machine
end

