-- ==== Sys2Proof/Laws/KeptAccess.lean ====
section
/-! SUPPORT. What every operation of Machine/Access.lean keeps. -/
namespace Sys2Proof.Machine

theorem State.accessFault_kept {s0 : Start} (s : State) (master : Nat) (slot : Option Nat) (kind : Nat) (hG : Kept s0 s) :
    Kept s0 (State.accessFault s master slot kind) := by
  unfold State.accessFault
  try dsimp only
  iterate 25 (all_goals try with_reducible first
    | assumption | exact id_kept (by assumption) | apply State.report_kept | intro _ | split
    | refine Kept.mk' ?_ rfl rfl rfl rfl | dsimp only)

theorem State.respond_kept {s0 : Start} (s : State) (b : BusReq) (hot : Bool) (status : Nat) (data : BitVec 64) (hG : Kept s0 s) :
    Kept s0 (State.respond s b hot status data) := by
  unfold State.respond
  try dsimp only
  iterate 25 (all_goals try with_reducible first
    | assumption | exact id_kept (by assumption) | intro _ | split | refine Kept.mk' ?_ rfl rfl rfl rfl | dsimp only)

theorem State.violation_kept {s0 : Start} (s : State) (b : BusReq) (write hot : Bool) (v : Verdict) (slot : Option Nat) (hG : Kept s0 s) :
    Kept s0 (State.violation s b write hot v slot) := by
  unfold State.violation
  try dsimp only
  iterate 25 (all_goals try with_reducible first
    | assumption | exact id_kept (by assumption) | apply State.raiseHouse_kept | intro _ | split
    | refine Kept.mk' ?_ rfl rfl rfl rfl | dsimp only)

theorem State.refuseAccess_kept {s0 : Start} (s : State) (b : BusReq) (write hot : Bool) (v : Verdict) (slot : Option Nat) (hG : Kept s0 s) :
    Kept s0 (State.refuseAccess s b write hot v slot) := by
  unfold State.refuseAccess
  try dsimp only
  iterate 25 (all_goals try with_reducible first
    | assumption | exact id_kept (by assumption) | apply State.accessFault_kept | apply State.notice_kept
    | apply State.respond_kept | apply State.violation_kept | intro _ | split | refine Kept.mk' ?_ rfl rfl rfl rfl
    | dsimp only)

theorem State.refuseShape_kept {s0 : Start} (s : State) (b : BusReq) (write hot : Bool) (v : Verdict) (slot : Option Nat) (hG : Kept s0 s) :
    Kept s0 (State.refuseShape s b write hot v slot) := by
  unfold State.refuseShape
  try dsimp only
  iterate 25 (all_goals try with_reducible first
    | assumption | exact id_kept (by assumption) | apply State.notice_kept | apply State.respond_kept
    | apply State.violation_kept | intro _ | split | refine Kept.mk' ?_ rfl rfl rfl rfl | dsimp only)

theorem State.refillAll_kept {s0 : Start} (s : State) (hG : Kept s0 s) : Kept s0 (State.refillAll s) := by
  unfold State.refillAll
  try dsimp only
  iterate 25 (all_goals try with_reducible first
    | assumption | exact id_kept (by assumption) | apply State.dueRefills_kept
    | refine forEach_kept (fun _ _ _ => ?_) ?_ | intro _ | split | refine Kept.mk' ?_ rfl rfl rfl rfl | dsimp only)

theorem State.wakeRung_kept {s0 : Start} (s : State) (k : WakeSrc) (hG : Kept s0 s) :
    Kept s0 (State.wakeRung s k) := by
  unfold State.wakeRung
  try dsimp only
  iterate 25 (all_goals try with_reducible first
    | assumption | exact id_kept (by assumption) | apply State.refillAll_kept | apply State.standIn_kept | intro _
    | split | refine Kept.mk' ?_ rfl rfl rfl rfl | dsimp only)

theorem State.parkWake_kept {s0 : Start} (s : State) (k : WakeSrc) (hG : Kept s0 s) :
    Kept s0 (State.parkWake s k) := by
  unfold State.parkWake
  try dsimp only
  iterate 25 (all_goals try with_reducible first
    | assumption | exact id_kept (by assumption) | apply State.enterMode_kept | apply State.park_kept | intro _ | split
    | refine Kept.mk' ?_ rfl rfl rfl rfl | dsimp only)

theorem State.wake_kept {s0 : Start} (s : State) (k : WakeSrc) (hG : Kept s0 s) : Kept s0 (State.wake s k) := by
  unfold State.wake
  try dsimp only
  iterate 25 (all_goals try with_reducible first
    | assumption | exact id_kept (by assumption) | apply State.park_kept | apply State.parkWake_kept
    | apply State.wakeRung_kept | intro _ | split | refine Kept.mk' ?_ rfl rfl rfl rfl | dsimp only)

theorem State.heldPort_kept {s0 : Start} (s : State) (b : BusReq) (write : Bool) (hG : Kept s0 s) :
    Kept s0 (State.heldPort s b write) := by
  unfold State.heldPort
  try dsimp only
  iterate 25 (all_goals try with_reducible first
    | assumption | exact id_kept (by assumption) | apply State.park_kept | apply State.respond_kept
    | apply State.wake_kept | intro _ | split | refine Kept.mk' ?_ rfl rfl rfl rfl | dsimp only)

theorem State.tagReused_kept {s0 : Start} (s : State) (b : BusReq) (hG : Kept s0 s) :
    Kept s0 (State.tagReused s b) := by
  unfold State.tagReused
  try dsimp only
  iterate 25 (all_goals try with_reducible first
    | assumption | exact id_kept (by assumption) | apply State.report_kept | intro _ | split
    | refine Kept.mk' ?_ rfl rfl rfl rfl | dsimp only)

theorem State.narrow_kept {s0 : Start} (s : State) (b : BusReq) (write : Bool) (d : Decoded) (v : Verdict) (hG : Kept s0 s) :
    Kept s0 (State.narrow s b write d v) := by
  unfold State.narrow
  try dsimp only
  iterate 25 (all_goals try with_reducible first
    | assumption | exact id_kept (by assumption) | refine State.onQueue_kept _ _ (fun _ hq => hq) ?_
    | apply State.onQueue_kept | apply State.refuseShape_kept | apply State.respond_kept | intro _ | split
    | refine Kept.mk' ?_ rfl rfl rfl rfl | dsimp only)

theorem State.enterAccess_kept {s0 : Start} (s : State) (b : BusReq) (hot : Bool) (hG : Kept s0 s) :
    Kept s0 (State.enterAccess s b hot) := by
  unfold State.enterAccess
  try dsimp only
  iterate 25 (all_goals try with_reducible first
    | assumption | exact id_kept (by assumption) | intro _ | split | refine Kept.mk' ?_ rfl rfl rfl rfl | dsimp only)

theorem State.access_kept {s0 : Start} (s : State) (b : BusReq) (write : Bool) (act : State → Decoded → Verdict → State)
    (hact : ∀ s d v, Kept s0 s → Kept s0 (act s d v)) (hG : Kept s0 s) : Kept s0 (State.access s b write act) := by
  unfold State.access
  extract_lets d hot asleep fifo s1 s2 v k1 k2
  have h1 : Kept s0 s1 := by
    unfold s1
    repeat' split
    · exact State.wake_kept _ _ hG
    · exact State.wakeRung_kept _ _ hG
    · exact hG
  have h2 : Kept s0 s2 := State.enterAccess_kept _ _ _ h1
  clear_value k2 k1 v s2 s1 fifo asleep hot d
  by_cases c : (!s.portOn) = true
  · rw [if_pos c]; exact hG
  rw [if_neg c]
  by_cases c : s.portShut = true
  · rw [if_pos c]; exact State.heldPort_kept _ _ _ hG
  rw [if_neg c]
  by_cases c : (!s.accepts (hotEntries b write d)) = true
  · rw [if_pos c]; exact hG
  rw [if_neg c]
  by_cases c : (asleep && !fifo && !b.posted) = true
  · rw [if_pos c]; exact State.respond_kept _ _ _ _ _ (State.wakeRung_kept _ _ hG)
  rw [if_neg c]
  by_cases c : (!b.posted && s1.bus.outstanding.any (·.1 == b.tag.toNat)) = true
  · rw [if_pos c]; exact State.tagReused_kept _ _ h1
  rw [if_neg c]
  by_cases c : badShape b write d = true
  · rw [if_pos c]; exact State.refuseShape_kept _ _ _ _ _ _ h2
  rw [if_neg c]
  by_cases c : (!v.ok) = true
  · rw [if_pos c]; exact State.refuseAccess_kept _ _ _ _ _ _ h2
  rw [if_neg c]
  by_cases c : (!b.size8 && !d.masked && d.reg.wideOnly) = true
  · rw [if_pos c]; exact State.narrow_kept _ _ _ _ _ h2
  rw [if_neg c]
  by_cases c : k2 ≠ 0
  · rw [if_pos c]; exact State.refuseAccess_kept _ _ _ _ _ _ h2
  rw [if_neg c]
  exact hact _ _ _ h2

end Sys2Proof.Machine
end

