-- ==== Sys2Proof/Laws/KeptNib.lean ====
section
/-! SUPPORT. What every operation of Machine/Nib.lean keeps. -/
namespace Sys2Proof.Machine

theorem State.takeShown_kept {s0 : Start} (s : State) (t : Nat) (hG : Kept s0 s) :
    Kept s0 (State.takeShown s t) := by
  unfold State.takeShown
  try dsimp only
  iterate 25 (all_goals try with_reducible first
    | assumption | exact id_kept (by assumption) | apply State.onTgt_kept | apply State.applyTake_kept
    | apply State.clearShown_kept | apply State.onPort_kept | intro _ | split | refine Kept.mk' ?_ rfl rfl rfl rfl
    | dsimp only)

theorem State.levelReport_kept {s0 : Start} (s : State) (t v : Nat) (hG : Kept s0 s) :
    Kept s0 (State.levelReport s t v) := by
  unfold State.levelReport
  try dsimp only
  iterate 25 (all_goals try with_reducible first
    | assumption | exact id_kept (by assumption) | apply State.nibNotice_kept | apply State.onPort_kept
    | apply State.reportRun_kept | intro _ | split | refine Kept.mk' ?_ rfl rfl rfl rfl | dsimp only)

theorem State.idleReport_kept {s0 : Start} (s : State) (t v : Nat) (hG : Kept s0 s) :
    Kept s0 (State.idleReport s t v) := by
  unfold State.idleReport
  try dsimp only
  iterate 25 (all_goals try with_reducible first
    | assumption | exact id_kept (by assumption) | apply State.bypassFor_kept | apply State.nibNotice_kept
    | apply State.onPort_kept | intro _ | split | refine Kept.mk' ?_ rfl rfl rfl rfl | dsimp only)

theorem State.portDown_kept {s0 : Start} (s : State) (n : Nat) (hG : Kept s0 s) :
    Kept s0 (State.portDown s n) := by
  unfold State.portDown
  try dsimp only
  iterate 25 (all_goals try with_reducible first
    | assumption | exact id_kept (by assumption) | apply State.onTgt_kept | apply State.clearShown_kept
    | apply State.onPort_kept | apply State.reportTakes_kept | apply State.resolveTaken_kept
    | apply State.resolveWithdrawn_kept | apply State.returnQueued_kept | intro _ | split
    | refine Kept.mk' ?_ rfl rfl rfl rfl | dsimp only)

end Sys2Proof.Machine
end

