-- ==== Sys2Proof/Laws/KeptLinks.lean ====
section
/-! SUPPORT. What every operation of Machine/Links.lean keeps. -/
namespace Sys2Proof.Machine

theorem State.linkDrop_kept {s0 : Start} (s : State) (g : Nat) (hG : Kept s0 s) :
    Kept s0 (State.linkDrop s g) := by
  unfold State.linkDrop
  try dsimp only
  iterate 25 (all_goals try with_reducible first
    | assumption | exact id_kept (by assumption) | apply State.clearShown_kept | apply State.onPort_kept
    | apply State.resolveCrossed_kept | apply State.resolveWithdrawn_kept | apply State.returnQueued_kept
    | refine forEach_kept (fun _ _ _ => ?_) ?_ | intro _ | split | refine Kept.mk' ?_ rfl rfl rfl rfl | dsimp only)

theorem State.linkLost_kept {s0 : Start} (s : State) (g cause : Nat) (hG : Kept s0 s) :
    Kept s0 (State.linkLost s g cause) := by
  unfold State.linkLost
  try dsimp only
  iterate 25 (all_goals try with_reducible first
    | assumption | exact id_kept (by assumption) | apply State.faultTarget_kept | apply State.linkDrop_kept
    | apply State.onLink_kept | apply State.report_kept | refine forEach_kept (fun _ _ _ => ?_) ?_ | intro _ | split
    | refine Kept.mk' ?_ rfl rfl rfl rfl | dsimp only)

theorem State.sendNak_kept {s0 : Start} (s : State) (g : Nat) (hG : Kept s0 s) : Kept s0 (State.sendNak s g) := by
  unfold State.sendNak
  try dsimp only
  iterate 25 (all_goals try with_reducible first
    | assumption | exact id_kept (by assumption) | apply State.discard_kept | apply State.linkLost_kept
    | apply State.onLink_kept | apply State.sendLink_kept | intro _ | split | refine Kept.mk' ?_ rfl rfl rfl rfl
    | dsimp only)

theorem State.acceptFlit_kept {s0 : Start} (s : State) (g : Nat) (h : FlitHead) (hG : Kept s0 s) :
    Kept s0 (State.acceptFlit s g h) := by
  unfold State.acceptFlit
  try dsimp only
  iterate 25 (all_goals try with_reducible first
    | assumption | exact id_kept (by assumption) | apply State.linkLost_kept | apply State.onLink_kept | intro _
    | split | refine Kept.mk' ?_ rfl rfl rfl rfl | dsimp only)

theorem State.receive_kept {s0 : Start} (s : State) (g : Nat) (h : FlitHead) (act : State → State) (h_act : ∀ s, Kept s0 s → Kept s0 (act s)) (hG : Kept s0 s) :
    Kept s0 (State.receive s g h act) := by
  unfold State.receive
  try dsimp only
  iterate 25 (all_goals try with_reducible first
    | assumption | exact id_kept (by assumption) | apply h_act | apply State.acceptFlit_kept | apply State.discard_kept
    | apply State.onLink_kept | apply State.report_kept | apply State.sendNak_kept | apply State.wake_kept | intro _
    | split | refine Kept.mk' ?_ rfl rfl rfl rfl | dsimp only)

theorem State.creditBack_kept {s0 : Start} (s : State) (g : Nat) (hG : Kept s0 s) :
    Kept s0 (State.creditBack s g) := by
  unfold State.creditBack
  try dsimp only
  iterate 25 (all_goals try with_reducible first
    | assumption | exact id_kept (by assumption) | apply State.onLink_kept | intro _ | split
    | refine Kept.mk' ?_ rfl rfl rfl rfl | dsimp only)

theorem State.lateTake_kept {s0 : Start} (s : State) (t e q : Nat) (hG : Kept s0 s) :
    Kept s0 (State.lateTake s t e q) := by
  unfold State.lateTake
  try dsimp only
  iterate 25 (all_goals try with_reducible first
    | assumption | exact id_kept (by assumption) | apply State.onTgt_kept | apply State.atBank_kept
    | apply State.nibNotice_kept | apply State.takeNow_kept | intro _ | split | refine Kept.mk' ?_ rfl rfl rfl rfl
    | dsimp only)

theorem State.flitTake_kept {s0 : Start} (s : State) (t e q : Nat) (hG : Kept s0 s) :
    Kept s0 (State.flitTake s t e q) := by
  unfold State.flitTake
  try dsimp only
  iterate 25 (all_goals try with_reducible first
    | assumption | exact id_kept (by assumption) | apply State.onTgt_kept | apply State.lateTake_kept
    | apply State.reportTakes_kept | apply State.resolveCrossed_kept | apply State.takeShown_kept | intro _ | split
    | refine Kept.mk' ?_ rfl rfl rfl rfl | dsimp only)

theorem State.linkFell_kept {s0 : Start} (s : State) (g : Nat) (hG : Kept s0 s) :
    Kept s0 (State.linkFell s g) := by
  unfold State.linkFell
  try dsimp only
  iterate 25 (all_goals try with_reducible first
    | assumption | exact id_kept (by assumption) | apply State.linkDrop_kept | apply State.onLink_kept
    | apply State.onPort_kept | apply State.reportTakes_kept | refine forEach_kept (fun _ _ _ => ?_) ?_ | intro _
    | split | refine Kept.mk' ?_ rfl rfl rfl rfl | dsimp only)

theorem State.rises_kept {s0 : Start} (s : State) (b : Boundary) (hG : Kept s0 s) :
    Kept s0 (State.rises s b) := by
  unfold State.rises
  try dsimp only
  iterate 25 (all_goals try with_reducible first
    | assumption | exact id_kept (by assumption) | intro _ | split | refine Kept.mk' ?_ rfl rfl rfl rfl | dsimp only)

end Sys2Proof.Machine
end

