-- ==== Sys2Proof/Laws/KeptClocks.lean ====
section
/-! SUPPORT. What every operation of Machine/Clocks.lean keeps. -/
namespace Sys2Proof.Machine

theorem State.resynced_kept {s0 : Start} (s : State) (n : Nat) (hG : Kept s0 s) :
    Kept s0 (State.resynced s n) := by
  unfold State.resynced
  try dsimp only
  iterate 25 (all_goals try with_reducible first
    | assumption | exact id_kept (by assumption) | apply State.recCount_kept | intro _ | split
    | refine Kept.mk' ?_ rfl rfl rfl rfl | dsimp only)

theorem State.timeGood_kept {s0 : Start} (s : State) (hG : Kept s0 s) : Kept s0 (State.timeGood s) := by
  unfold State.timeGood
  try dsimp only
  iterate 25 (all_goals try with_reducible first
    | assumption | exact id_kept (by assumption) | apply State.onGrp_kept | apply State.resynced_kept
    | apply State.ring_kept | refine forEach_kept (fun _ _ _ => ?_) ?_ | intro _ | split
    | refine Kept.mk' ?_ rfl rfl rfl rfl | dsimp only)

theorem State.timeLost_kept {s0 : Start} (s : State) (hG : Kept s0 s) : Kept s0 (State.timeLost s) := by
  unfold State.timeLost
  try dsimp only
  iterate 25 (all_goals try with_reducible first
    | assumption | exact id_kept (by assumption) | apply State.raiseHouse_kept | apply State.ring_kept | intro _
    | split | refine Kept.mk' ?_ rfl rfl rfl rfl | dsimp only)

theorem State.fabDown_kept {s0 : Start} (s : State) (hG : Kept s0 s) : Kept s0 (State.fabDown s) := by
  unfold State.fabDown
  try dsimp only
  iterate 25 (all_goals try with_reducible first
    | assumption | exact id_kept (by assumption) | apply State.closeFar_kept | apply State.closeIntake_kept | intro _
    | split | refine Kept.mk' ?_ rfl rfl rfl rfl | dsimp only)

end Sys2Proof.Machine
end

