-- ==== Sys2Proof/Laws/KeptLines.lean ====
section
/-! SUPPORT. What every operation of Machine/Lines.lean keeps. -/
namespace Sys2Proof.Machine

theorem State.overrun_kept {s0 : Start} (s : State) (k : Nat) (hG : Kept s0 s) : Kept s0 (State.overrun s k) := by
  unfold State.overrun
  try dsimp only
  iterate 25 (all_goals try with_reducible first
    | assumption | exact id_kept (by assumption) | apply State.onLine_kept | apply State.raiseHouse_kept | intro _
    | split | refine Kept.mk' ?_ rfl rfl rfl rfl | dsimp only)

theorem State.badItem_kept {s0 : Start} (s : State) (id : Nat) (hG : Kept s0 s) :
    Kept s0 (State.badItem s id) := by
  unfold State.badItem
  try dsimp only
  iterate 25 (all_goals try with_reducible first
    | assumption | exact id_kept (by assumption) | apply State.refuse_kept | apply State.report_kept | intro _ | split
    | refine Kept.mk' ?_ rfl rfl rfl rfl | dsimp only)

end Sys2Proof.Machine
end

