-- ==== Sys2Proof/Laws/KeptMessages.lean ====
section
/-! SUPPORT. What every operation of Machine/Messages.lean keeps. -/
namespace Sys2Proof.Machine

theorem State.deliver_kept {s0 : Start} (s : State) (m : MsgWrite) (f : PulseFrom) (stamp cell : Nat) (v : Verdict1) (hG : Kept s0 s) :
    Kept s0 (State.deliver s m f stamp cell v) := by
  unfold State.deliver
  try dsimp only
  iterate 25 (all_goals try with_reducible first
    | assumption | exact id_kept (by assumption) | apply State.refuse_kept | apply State.sendOrder_kept | intro _
    | split | refine Kept.mk' ?_ rfl rfl rfl rfl | dsimp only)

theorem State.judgeOut_kept {s0 : Start} (s : State) (c : Nat) (m : MsgWrite) (slot : Option Nat) (j : Ruling) (cell : Nat) (hG : Kept s0 s) :
    Kept s0 (State.judgeOut s c m slot j cell) := by
  unfold State.judgeOut
  try dsimp only
  iterate 25 (all_goals try with_reducible first
    | assumption | exact id_kept (by assumption) | apply State.accessFault_kept | apply State.deliver_kept
    | apply State.onChan_kept | apply State.stageOk_kept | refine forEach_kept (fun _ _ _ => ?_) ?_ | intro _ | split
    | refine Kept.mk' ?_ rfl rfl rfl rfl | dsimp only)

theorem State.judgeNext_kept {s0 : Start} (s : State) (w : ByCluster (Fin 16)) (m : MsgWrite) (hG : Kept s0 s) :
    Kept s0 (State.judgeNext s w m) := by
  unfold State.judgeNext
  try dsimp only
  iterate 25 (all_goals try with_reducible first
    | assumption | exact id_kept (by assumption) | apply State.byCluster_kept | apply State.judgeOut_kept
    | apply State.onChan_kept | apply State.poolWaits_kept | apply State.useCell_kept | intro _ | split
    | refine Kept.mk' ?_ rfl rfl rfl rfl | dsimp only)

end Sys2Proof.Machine
end

