-- ==== Sys2Proof/Laws/KeptEngine.lean ====
section
/-! SUPPORT. What every operation of Machine/Engine.lean keeps. -/
namespace Sys2Proof.Machine

theorem State.engineAt_kept {s0 : Start} (s : State) (e : Nat) (f : State → State) (h_f : ∀ s, Kept s0 s → Kept s0 (f s)) (hG : Kept s0 s) :
    Kept s0 (State.engineAt s e f) := by
  unfold State.engineAt
  try dsimp only
  iterate 25 (all_goals try with_reducible first
    | assumption | exact id_kept (by assumption) | apply h_f | apply State.atBank_kept | intro _ | split
    | refine Kept.mk' ?_ rfl rfl rfl rfl | dsimp only)

theorem State.releaseItem_kept {s0 : Start} (s : State) (e : Nat) (f : Held → Held) (left : Left) (hG : Kept s0 s) :
    Kept s0 (State.releaseItem s e f left) := by
  unfold State.releaseItem
  try dsimp only
  iterate 25 (all_goals try with_reducible first
    | assumption | exact id_kept (by assumption) | apply State.dueRefills_kept | apply State.engineAt_kept
    | apply State.releaseHeld_kept | apply State.wake_kept | intro _ | split | refine Kept.mk' ?_ rfl rfl rfl rfl
    | dsimp only)

theorem State.placeResult_kept {s0 : Start} (s : State) (e changes : Nat) (hG : Kept s0 s) :
    Kept s0 (State.placeResult s e changes) := by
  unfold State.placeResult
  try dsimp only
  iterate 25 (all_goals try with_reducible first
    | assumption | exact id_kept (by assumption) | apply State.dueRefills_kept | apply State.engineAt_kept
    | apply State.placeNow_kept | apply State.wake_kept | intro _ | split | refine Kept.mk' ?_ rfl rfl rfl rfl
    | dsimp only)

theorem State.groupDrained_kept {s0 : Start} (s : State) (g : Nat) (hG : Kept s0 s) :
    Kept s0 (State.groupDrained s g) := by
  unfold State.groupDrained
  try dsimp only
  iterate 25 (all_goals try with_reducible first
    | assumption | exact id_kept (by assumption) | apply State.objectReplies_kept | apply State.putGrp_kept | intro _
    | split | refine Kept.mk' ?_ rfl rfl rfl rfl | dsimp only)

theorem State.batchEnds_kept {s0 : Start} (s : State) (g : Nat) (hG : Kept s0 s) :
    Kept s0 (State.batchEnds s g) := by
  unfold State.batchEnds
  try dsimp only
  iterate 25 (all_goals try with_reducible first
    | assumption | exact id_kept (by assumption) | apply State.groupDrained_kept | apply State.onGrp_kept | intro _
    | split | refine Kept.mk' ?_ rfl rfl rfl rfl | dsimp only)

theorem State.batchCell_kept {s0 : Start} (s : State) (g n : Nat) (hG : Kept s0 s) :
    Kept s0 (State.batchCell s g n) := by
  unfold State.batchCell
  try dsimp only
  iterate 25 (all_goals try with_reducible first
    | assumption | exact id_kept (by assumption) | apply State.onGrp_kept | apply State.useCell_kept | intro _ | split
    | refine Kept.mk' ?_ rfl rfl rfl rfl | dsimp only)

theorem State.batchStep_kept {s0 : Start} (s : State) (w : ByCluster (Fin 65536)) (b : Batch) (hG : Kept s0 s) :
    Kept s0 (State.batchStep s w b) := by
  unfold State.batchStep
  try dsimp only
  iterate 25 (all_goals try with_reducible first
    | assumption | exact id_kept (by assumption) | apply State.batchCell_kept | apply State.batchEnds_kept
    | apply State.byCluster_kept | apply State.releaseItem_kept | intro _ | split | refine Kept.mk' ?_ rfl rfl rfl rfl
    | dsimp only)

theorem State.switchTo_kept {s0 : Start} (s : State) (t k : Nat) (hG : Kept s0 s) :
    Kept s0 (State.switchTo s t k) := by
  unfold State.switchTo
  try dsimp only
  iterate 25 (all_goals try with_reducible first
    | assumption | exact id_kept (by assumption) | apply State.onTgt_kept | intro _ | split
    | refine Kept.mk' ?_ rfl rfl rfl rfl | dsimp only)

theorem State.makeDormant_kept {s0 : Start} (s : State) (e : Nat) (hG : Kept s0 s) :
    Kept s0 (State.makeDormant s e) := by
  unfold State.makeDormant
  try dsimp only
  iterate 25 (all_goals try with_reducible first
    | assumption | exact id_kept (by assumption) | apply State.addReason_kept | apply State.engineAt_kept | intro _
    | split | refine Kept.mk' ?_ rfl rfl rfl rfl | dsimp only)

theorem State.switchStep_kept {s0 : Start} (s : State) (t : Nat) (w : SwitchWork) (hG : Kept s0 s) :
    Kept s0 (State.switchStep s t w) := by
  unfold State.switchStep
  try dsimp only
  iterate 25 (all_goals try with_reducible first
    | assumption | exact id_kept (by assumption) | apply State.onTgt_kept | apply State.makeDormant_kept
    | apply State.releaseItem_kept | apply State.switchTo_kept | intro _ | split | refine Kept.mk' ?_ rfl rfl rfl rfl
    | dsimp only)

theorem State.switchRun_kept {s0 : Start} (s : State) (x : ByCluster (Fin 1024)) (w : SwitchWork) (hG : Kept s0 s) :
    Kept s0 (State.switchRun s x w) := by
  unfold State.switchRun
  try dsimp only
  iterate 25 (all_goals try with_reducible first
    | assumption | exact id_kept (by assumption) | apply State.onTgt_kept | apply State.byCluster_kept
    | apply State.switchStep_kept | apply State.useCell_kept | apply State.wake_kept | intro _ | split
    | refine Kept.mk' ?_ rfl rfl rfl rfl | dsimp only)

end Sys2Proof.Machine
end

