-- ==== Sys2Proof/Laws/KeptRanking.lean ====
section
/-! SUPPORT. What every operation of Machine/Ranking.lean keeps. -/
namespace Sys2Proof.Machine

theorem State.disagree_kept {s0 : Start} (s : State) (t : Nat) (hG : Kept s0 s) :
    Kept s0 (State.disagree s t) := by
  unfold State.disagree
  try dsimp only
  iterate 25 (all_goals try with_reducible first
    | assumption | exact id_kept (by assumption) | apply State.onTgt_kept | apply State.faultTarget_kept
    | apply State.report_kept | apply State.second_kept | apply State.settleMode_kept | apply State.startRepair_kept
    | intro _ | split | refine Kept.mk' ?_ rfl rfl rfl rfl | dsimp only)

theorem State.offerNib_kept {s0 : Start} (s : State) (t e : Nat) (hG : Kept s0 s) :
    Kept s0 (State.offerNib s t e) := by
  unfold State.offerNib
  try dsimp only
  iterate 25 (all_goals try with_reducible first
    | assumption | exact id_kept (by assumption) | apply State.atBank_kept | apply State.commit_kept
    | apply State.present_kept | intro _ | split | refine Kept.mk' ?_ rfl rfl rfl rfl | dsimp only)

theorem State.preempt_kept {s0 : Start} (s : State) (x : Nat) (hG : Kept s0 s) : Kept s0 (State.preempt s x) := by
  unfold State.preempt
  try dsimp only
  iterate 25 (all_goals try with_reducible first
    | assumption | exact id_kept (by assumption) | apply State.commit_kept | apply State.staleFirst_kept
    | apply State.startWithdrawal_kept | intro _ | split | refine Kept.mk' ?_ rfl rfl rfl rfl | dsimp only)

theorem State.decideNib_kept {s0 : Start} (s : State) (t : Nat) (hG : Kept s0 s) :
    Kept s0 (State.decideNib s t) := by
  unfold State.decideNib
  try dsimp only
  iterate 25 (all_goals try with_reducible first
    | assumption | exact id_kept (by assumption) | apply State.offerNib_kept | apply State.preempt_kept | intro _
    | split | refine Kept.mk' ?_ rfl rfl rfl rfl | dsimp only)

theorem State.decideFar_kept {s0 : Start} (s : State) (t : Nat) (hG : Kept s0 s) :
    Kept s0 (State.decideFar s t) := by
  unfold State.decideFar
  try dsimp only
  iterate 25 (all_goals try with_reducible first
    | assumption | exact id_kept (by assumption) | apply State.preempt_kept | intro _ | split
    | refine Kept.mk' ?_ rfl rfl rfl rfl | dsimp only)

theorem State.agreed_kept {s0 : Start} (s : State) (t : Nat) (hG : Kept s0 s) : Kept s0 (State.agreed s t) := by
  unfold State.agreed
  try dsimp only
  iterate 25 (all_goals try with_reducible first
    | assumption | exact id_kept (by assumption) | apply State.onTgt_kept | apply State.stageOk_kept | intro _ | split
    | refine Kept.mk' ?_ rfl rfl rfl rfl | dsimp only)

theorem State.useDecision_kept {s0 : Start} (s : State) (t : Nat) (hG : Kept s0 s) :
    Kept s0 (State.useDecision s t) := by
  unfold State.useDecision
  try dsimp only
  iterate 25 (all_goals try with_reducible first
    | assumption | exact id_kept (by assumption) | apply State.agreed_kept | apply State.decideFar_kept
    | apply State.decideNib_kept | intro _ | split | refine Kept.mk' ?_ rfl rfl rfl rfl | dsimp only)

end Sys2Proof.Machine
end

