-- ==== Sys2Proof/Laws/KeptFar.lean ====
section
/-! SUPPORT. What every operation of Machine/Far.lean keeps. -/
namespace Sys2Proof.Machine

theorem State.offer_kept {s0 : Start} (s : State) (t e cell : Nat) (hG : Kept s0 s) :
    Kept s0 (State.offer s t e cell) := by
  unfold State.offer
  try dsimp only
  iterate 25 (all_goals try with_reducible first
    | assumption | exact id_kept (by assumption) | apply State.onTgt_kept | apply State.commit_kept
    | apply State.onFar_kept | apply State.onSource_kept | apply State.useCell_kept | intro _ | split
    | refine Kept.mk' ?_ rfl rfl rfl rfl | dsimp only)

theorem State.offerFar_kept {s0 : Start} (s : State) (t e : Nat) (hG : Kept s0 s) :
    Kept s0 (State.offerFar s t e) := by
  unfold State.offerFar
  try dsimp only
  iterate 25 (all_goals try with_reducible first
    | assumption | exact id_kept (by assumption) | apply State.atBank_kept | apply State.offer_kept
    | apply State.onFar_kept | apply State.poolWaits_kept | intro _ | split | refine Kept.mk' ?_ rfl rfl rfl rfl
    | dsimp only)

theorem State.wakeWait_kept {s0 : Start} (s : State) (f : Far) (hG : Kept s0 s) :
    Kept s0 (State.wakeWait s f) := by
  unfold State.wakeWait
  try dsimp only
  iterate 25 (all_goals try with_reducible first
    | assumption | exact id_kept (by assumption) | apply State.wake_kept | intro _ | split
    | refine Kept.mk' ?_ rfl rfl rfl rfl | dsimp only)

theorem State.transfer_kept {s0 : Start} (s : State) (t : Nat) (w : FarWrite) (hG : Kept s0 s) :
    Kept s0 (State.transfer s t w) := by
  unfold State.transfer
  try dsimp only
  iterate 25 (all_goals try with_reducible first
    | assumption | exact id_kept (by assumption) | apply State.atBank_kept | apply State.clearTarget_kept
    | apply State.onFar_kept | apply State.onPort_kept | apply State.takeNow_kept | apply State.wakeWait_kept | intro _
    | split | refine Kept.mk' ?_ rfl rfl rfl rfl | dsimp only)

theorem State.stallExpire_kept {s0 : Start} (s : State) (t e due : Nat) (w : FarWrite) (hG : Kept s0 s) :
    Kept s0 (State.stallExpire s t e due w) := by
  unfold State.stallExpire
  try dsimp only
  iterate 25 (all_goals try with_reducible first
    | assumption | exact id_kept (by assumption) | apply State.onFar_kept | apply State.preempt_kept
    | apply State.raiseHouse_kept | intro _ | split | refine Kept.mk' ?_ rfl rfl rfl rfl | dsimp only)

end Sys2Proof.Machine
end

