-- ==== Sys2Proof/Laws/KeptSweeps.lean ====
section
/-! SUPPORT. What every operation of Machine/Sweeps.lean keeps. -/
namespace Sys2Proof.Machine

theorem State.onSweep_kept {s0 : Start} (s : State) (n : SweepName) (f : Sweep → Sweep) (hG : Kept s0 s) :
    Kept s0 (State.onSweep s n f) := by
  unfold State.onSweep
  try dsimp only
  iterate 25 (all_goals try with_reducible first
    | assumption | exact id_kept (by assumption) | intro _ | split | refine Kept.mk' ?_ rfl rfl rfl rfl | dsimp only)

theorem State.relinkHeld_kept {s0 : Start} (s : State) (e : Nat) (hG : Kept s0 s) :
    Kept s0 (State.relinkHeld s e) := by
  unfold State.relinkHeld
  try dsimp only
  iterate 25 (all_goals try with_reducible first
    | assumption | exact id_kept (by assumption) | apply State.onTgt_kept | apply State.bypass_kept
    | apply State.linkHeld_kept | intro _ | split | refine Kept.mk' ?_ rfl rfl rfl rfl | dsimp only)

theorem State.countCell_kept {s0 : Start} (s : State) (e : Nat) (hG : Kept s0 s) :
    Kept s0 (State.countCell s e) := by
  unfold State.countCell
  try dsimp only
  iterate 25 (all_goals try with_reducible first
    | assumption | exact id_kept (by assumption) | apply State.onCtx_kept | intro _ | split
    | refine Kept.mk' ?_ rfl rfl rfl rfl | dsimp only)

theorem State.linkHead_kept {s0 : Start} (s : State) (t p e : Nat) (hG : Kept s0 s) :
    Kept s0 (State.linkHead s t p e) := by
  unfold State.linkHead
  try dsimp only
  iterate 25 (all_goals try with_reducible first
    | assumption | exact id_kept (by assumption) | apply State.onTgt_kept | intro _ | split
    | refine Kept.mk' ?_ rfl rfl rfl rfl | dsimp only)

theorem State.requeue_kept {s0 : Start} (s : State) (e : Nat) (hG : Kept s0 s) : Kept s0 (State.requeue s e) := by
  unfold State.requeue
  try dsimp only
  iterate 25 (all_goals try with_reducible first
    | assumption | exact id_kept (by assumption) | apply State.enqueue_kept | apply State.onSource_kept | intro _
    | split | refine Kept.mk' ?_ rfl rfl rfl rfl | dsimp only)

theorem State.scanRecord_kept {s0 : Start} (s : State) (e : Nat) (warm : Bool) (hG : Kept s0 s) :
    Kept s0 (State.scanRecord s e warm) := by
  unfold State.scanRecord
  try dsimp only
  iterate 25 (all_goals try with_reducible first
    | assumption | exact id_kept (by assumption) | apply State.clearTarget_kept | apply State.commit_kept
    | apply State.countCell_kept | apply State.dueRefills_kept | apply State.hold_kept | apply State.linkHead_kept
    | apply State.queueOrHold_kept | apply State.relinkHeld_kept | apply State.requeue_kept
    | apply State.restoreCell_kept | apply State.startWithdrawal_kept | intro _ | split
    | refine Kept.mk' ?_ rfl rfl rfl rfl | dsimp only)

theorem State.repairRecord_kept {s0 : Start} (s : State) (l : ListName) (e : Nat) (hG : Kept s0 s) :
    Kept s0 (State.repairRecord s l e) := by
  unfold State.repairRecord
  try dsimp only
  iterate 25 (all_goals try with_reducible first
    | assumption | exact id_kept (by assumption) | apply State.linkHead_kept | apply State.linkTail_kept
    | apply State.relinkHeld_kept | intro _ | split | refine Kept.mk' ?_ rfl rfl rfl rfl | dsimp only)

theorem State.destroyRecord_kept {s0 : Start} (s : State) (i e : Nat) (hG : Kept s0 s) :
    Kept s0 (State.destroyRecord s i e) := by
  unfold State.destroyRecord
  try dsimp only
  iterate 25 (all_goals try with_reducible first
    | assumption | exact id_kept (by assumption) | apply State.commit_kept | apply State.endActive_kept
    | apply State.endPending_kept | apply State.guestOut_kept | apply State.onSource_kept
    | apply State.sourceReplies_kept | intro _ | split | refine Kept.mk' ?_ rfl rfl rfl rfl | dsimp only)

theorem State.drainRecord_kept {s0 : Start} (s : State) (i e : Nat) (hG : Kept s0 s) :
    Kept s0 (State.drainRecord s i e) := by
  unfold State.drainRecord
  try dsimp only
  iterate 25 (all_goals try with_reducible first
    | assumption | exact id_kept (by assumption) | apply State.putSource_kept | apply State.commit_kept
    | apply State.drainCheck_kept | apply State.endPending_kept | apply State.startWithdrawal_kept | intro _ | split
    | refine Kept.mk' ?_ rfl rfl rfl rfl | dsimp only)

theorem State.staleRecord_kept {s0 : Start} (s : State) (i e : Nat) (hG : Kept s0 s) :
    Kept s0 (State.staleRecord s i e) := by
  unfold State.staleRecord
  try dsimp only
  iterate 25 (all_goals try with_reducible first
    | assumption | exact id_kept (by assumption) | apply State.commit_kept | apply State.discardStale_kept | intro _
    | split | refine Kept.mk' ?_ rfl rfl rfl rfl | dsimp only)

theorem State.parkRecord_kept {s0 : Start} (s : State) (e : Nat) (hG : Kept s0 s) :
    Kept s0 (State.parkRecord s e) := by
  unfold State.parkRecord
  try dsimp only
  iterate 25 (all_goals try with_reducible first
    | assumption | exact id_kept (by assumption) | apply State.commit_kept | apply State.endActive_kept
    | apply State.endPending_kept | intro _ | split | refine Kept.mk' ?_ rfl rfl rfl rfl | dsimp only)

theorem State.failsafeRecord_kept {s0 : Start} (s : State) (e : Nat) (hG : Kept s0 s) :
    Kept s0 (State.failsafeRecord s e) := by
  unfold State.failsafeRecord
  try dsimp only
  iterate 25 (all_goals try with_reducible first
    | assumption | exact id_kept (by assumption) | apply State.putSource_kept | apply State.commit_kept
    | apply State.freeCell_kept | apply State.hold_kept | apply State.startWithdrawal_kept | intro _ | split
    | refine Kept.mk' ?_ rfl rfl rfl rfl | dsimp only)

theorem State.sweepRecord_kept {s0 : Start} (s : State) (n : SweepName) (e : Nat) (hG : Kept s0 s) :
    Kept s0 (State.sweepRecord s n e) := by
  unfold State.sweepRecord
  try dsimp only
  iterate 25 (all_goals try with_reducible first
    | assumption | exact id_kept (by assumption) | apply State.addReason_kept | apply State.destroyRecord_kept
    | apply State.drainRecord_kept | apply State.failsafeRecord_kept | apply State.park_kept
    | apply State.parkRecord_kept | apply State.repairRecord_kept | apply State.scanRecord_kept
    | apply State.staleRecord_kept | apply State.takerLost_kept | intro _ | split | refine Kept.mk' ?_ rfl rfl rfl rfl
    | dsimp only)

theorem State.sweepStep_kept {s0 : Start} (s : State) (n : SweepName) (bank : Nat) (hG : Kept s0 s) :
    Kept s0 (State.sweepStep s n bank) := by
  unfold State.sweepStep
  try dsimp only
  iterate 25 (all_goals try with_reducible first
    | assumption | exact id_kept (by assumption) | apply State.onSweep_kept | apply State.park_kept
    | apply State.sweepRecord_kept | intro _ | split | refine Kept.mk' ?_ rfl rfl rfl rfl | dsimp only)

theorem State.newGeneration_kept {s0 : Start} (s : State) (i : Nat) (hG : Kept s0 s) :
    Kept s0 (State.newGeneration s i) := by
  unfold State.newGeneration
  try dsimp only
  iterate 25 (all_goals try with_reducible first
    | assumption | exact id_kept (by assumption) | apply State.onCtx_kept | apply State.startSweep_kept | intro _
    | split | refine Kept.mk' ?_ rfl rfl rfl rfl | dsimp only)

theorem State.instDrained_kept {s0 : Start} (s : State) (i : Nat) (hG : Kept s0 s) :
    Kept s0 (State.instDrained s i) := by
  unfold State.instDrained
  try dsimp only
  iterate 25 (all_goals try with_reducible first
    | assumption | exact id_kept (by assumption) | apply State.finishWork_kept | apply State.newGeneration_kept
    | apply State.objectReplies_kept | apply State.onCtx_kept | intro _ | split | refine Kept.mk' ?_ rfl rfl rfl rfl
    | dsimp only)

theorem State.freeStalePool_kept {s0 : Start} (s : State) (i : Nat) (hG : Kept s0 s) :
    Kept s0 (State.freeStalePool s i) := by
  unfold State.freeStalePool
  try dsimp only
  iterate 25 (all_goals try with_reducible first
    | assumption | exact id_kept (by assumption) | apply State.onTgt_kept | apply State.groupDrained_kept
    | apply State.onGrp_kept | apply State.unpark_kept | refine forEach_kept (fun _ _ _ => ?_) ?_ | intro _ | split
    | refine Kept.mk' ?_ rfl rfl rfl rfl | dsimp only)

end Sys2Proof.Machine
end

