-- ==== Sys2Proof/Laws/KeptAudit.lean ====
section
/-! SUPPORT. What every operation of Machine/Audit.lean keeps. -/
namespace Sys2Proof.Machine

theorem State.periodFrom_kept {s0 : Start} (s : State) (t : Nat) (hG : Kept s0 s) :
    Kept s0 (State.periodFrom s t) := by
  unfold State.periodFrom
  try dsimp only
  iterate 25 (all_goals try with_reducible first
    | assumption | exact id_kept (by assumption) | intro _ | split | refine Kept.mk' ?_ rfl rfl rfl rfl | dsimp only)

theorem State.startAudit_kept {s0 : Start} (s : State) (hG : Kept s0 s) : Kept s0 (State.startAudit s) := by
  unfold State.startAudit
  try dsimp only
  iterate 25 (all_goals try with_reducible first
    | assumption | exact id_kept (by assumption) | apply State.startSweep_kept | intro _ | split
    | refine Kept.mk' ?_ rfl rfl rfl rfl | dsimp only)

theorem State.recMove_kept {s0 : Start} (s : State) (k d : Nat) (hG : Kept s0 s) :
    Kept s0 (State.recMove s k d) := by
  unfold State.recMove
  try dsimp only
  iterate 25 (all_goals try with_reducible first
    | assumption | exact id_kept (by assumption) | apply State.recCount_kept | intro _ | split
    | refine Kept.mk' ?_ rfl rfl rfl rfl | dsimp only)

theorem State.countRebase_kept {s0 : Start} (s : State) (d : Nat) (hG : Kept s0 s) :
    Kept s0 (State.countRebase s d) := by
  unfold State.countRebase
  try dsimp only
  iterate 25 (all_goals try with_reducible first
    | assumption | exact id_kept (by assumption) | apply State.recCount_kept | intro _ | split
    | refine Kept.mk' ?_ rfl rfl rfl rfl | dsimp only)

theorem State.rebaseInst_kept {s0 : Start} (s : State) (i count : Nat) (hG : Kept s0 s) : Kept s0 (State.rebaseInst s i count) := by
  unfold State.rebaseInst
  extract_lets l l' dA b b2 a1 s2
  have h2 : Kept s0 s2 := by
    refine ⟨hG.pend, hG.strap, hG.inv, fun x y => ?_⟩
    have hb := hG.bal x y
    refine ⟨fun p hp => ?_, ?_⟩
    · rcases mem_tset (fun _ => ({} : Ledger)) s.ldg.inst i l' _ hp with h | h
      · rw [h]; simp [l', Ledger.rebase, Ledger.balanced, Ledger.rhs]
      · exact hb.1 p h
    · have h1 := State.ledger_bal hb i
      have h2 := hb.2
      change l.balanced = true at h1
      change b.balanced = true at h2
      show Ledger.balanced b2 = true
      simp only [b2, dA, l', Ledger.rebase, Ledger.balanced, Ledger.rhs, diff64, beq_iff_eq] at *
      omega
  exact State.countRebase_kept _ _ (State.recMove_kept _ _ _ h2)

theorem Ledger.add_bal (a b : Ledger) (ha : a.balanced = true) (hb : b.balanced = true) : (a.add b).balanced = true := by
  simp only [Ledger.add, Ledger.balanced, Ledger.rhs, beq_iff_eq] at *
  omega
theorem ledgerSum_bal (l : Table Ledger) (a : Ledger) (ha : a.balanced = true) (h : ∀ p ∈ l, p.2.balanced = true) :
    (l.foldl (fun a p => a.add p.2) a).balanced = true := by
  induction l generalizing a with
  | nil => exact ha
  | cons x l ih => exact ih _ (Ledger.add_bal _ _ ha (h x (by simp))) (fun p hp => h p (by simp [hp]))
theorem State.rebaseBlock_kept {s0 : Start} (s : State) (hG : Kept s0 s) : Kept s0 (State.rebaseBlock s) := by
  unfold State.rebaseBlock
  extract_lets b n a1 s2 s3
  have h2 : Kept s0 s2 := by
    refine ⟨hG.pend, hG.strap, hG.inv, fun x y => ?_⟩
    have hb := hG.bal x y
    exact ⟨hb.1, ledgerSum_bal _ _ rfl hb.1⟩
  have h3 : Kept s0 s3 := forEach_kept (fun _ _ h => State.recMove_kept _ _ _ h) h2
  exact State.countRebase_kept _ _ h3

theorem State.concludeAudit_kept {s0 : Start} (s : State) (w : Sweep) (fails : List AuditFail) (insts : List Nat) (blk : State → Bool) (hG : Kept s0 s) :
    Kept s0 (State.concludeAudit s w fails insts blk) := by
  unfold State.concludeAudit
  try dsimp only
  iterate 25 (all_goals try with_reducible first
    | assumption | exact id_kept (by assumption) | apply State.answerOwner_kept | apply State.raiseHouse_kept
    | apply State.rebaseBlock_kept | apply State.rebaseInst_kept | apply State.report_kept
    | refine forEach_kept (fun _ _ _ => ?_) ?_ | intro _ | split | refine Kept.mk' ?_ rfl rfl rfl rfl | dsimp only)

theorem State.concludeScan_kept {s0 : Start} (s : State) (w : Sweep) (hG : Kept s0 s) :
    Kept s0 (State.concludeScan s w) := by
  unfold State.concludeScan
  try dsimp only
  iterate 25 (all_goals try with_reducible first
    | assumption | exact id_kept (by assumption) | apply State.concludeAudit_kept | apply State.endSweep_kept
    | refine foldl_kept (fun _ _ _ => ?_) ?_ | refine foldl_kept1 (fun _ _ _ => ?_) ?_ | intro _ | split
    | refine Kept.mk' ?_ rfl rfl rfl rfl | dsimp only)

theorem State.afterRebuild_kept {s0 : Start} (s : State) (hG : Kept s0 s) : Kept s0 (State.afterRebuild s) := by
  unfold State.afterRebuild
  try dsimp only
  iterate 25 (all_goals try with_reducible first
    | assumption | exact id_kept (by assumption) | apply State.goTo_kept | intro _ | split
    | refine Kept.mk' ?_ rfl rfl rfl rfl | dsimp only)

theorem State.answerCut_kept {s0 : Start} (s : State) (hG : Kept s0 s) : Kept s0 (State.answerCut s) := by
  unfold State.answerCut
  try dsimp only
  iterate 25 (all_goals try with_reducible first
    | assumption | exact id_kept (by assumption) | apply State.answerOwner_kept
    | refine forEach_kept (fun _ _ _ => ?_) ?_ | intro _ | split | refine Kept.mk' ?_ rfl rfl rfl rfl | dsimp only)

theorem State.rebuilt_kept {s0 : Start} (s : State) (hG : Kept s0 s) : Kept s0 (State.rebuilt s) := by
  unfold State.rebuilt
  try dsimp only
  iterate 25 (all_goals try with_reducible first
    | assumption | exact id_kept (by assumption) | apply State.afterRebuild_kept | apply State.answerCut_kept
    | apply State.settleCommit_kept | intro _ | split | refine Kept.mk' ?_ rfl rfl rfl rfl | dsimp only)

theorem State.releaseKept_kept {s0 : Start} (s : State) (hG : Kept s0 s) : Kept s0 (State.releaseKept s) := by
  unfold State.releaseKept
  try dsimp only
  iterate 25 (all_goals try with_reducible first
    | assumption | exact id_kept (by assumption) | apply State.releaseAll_kept | intro _ | split
    | refine Kept.mk' ?_ rfl rfl rfl rfl | dsimp only)

end Sys2Proof.Machine
end

