-- ==== Sys2Proof/Laws/KeptCmdSources.lean ====
section
/-! SUPPORT. What every operation of Machine/CmdSources.lean keeps. -/
namespace Sys2Proof.Machine

theorem State.settleStale_kept {s0 : Start} (s : State) (es : List Nat) (hG : Kept s0 s) :
    Kept s0 (State.settleStale s es) := by
  unfold State.settleStale
  try dsimp only
  iterate 25 (all_goals try with_reducible first
    | assumption | exact id_kept (by assumption) | apply State.atBank_kept | refine forEach_kept (fun _ _ _ => ?_) ?_
    | intro _ | split | refine Kept.mk' ?_ rfl rfl rfl rfl | dsimp only)

theorem State.issue_kept {s0 : Start} (s : State) (q : Nat) (p : Packet) (cs : List Clamped) (cmd : SrcCmd) (es : List Nat) (hG : Kept s0 s) :
    Kept s0 (State.issue s q p cs cmd es) := by
  unfold State.issue
  try dsimp only
  iterate 25 (all_goals try with_reducible first
    | assumption | exact id_kept (by assumption) | apply State.issued_kept | apply State.putPart_kept
    | apply State.sendCommand_kept | refine forEach_kept (fun _ _ _ => ?_) ?_ | intro _ | split
    | refine Kept.mk' ?_ rfl rfl rfl rfl | dsimp only)

theorem State.runSources_kept {s0 : Start} (s : State) (q : Nat) (p : Packet) (cmd : SrcCmd) (f : State → Nat → State × Bool) (h_f : ∀ s e, Kept s0 s → Kept s0 (f s e).1) (hG : Kept s0 s) :
    Kept s0 (State.runSources s q p cmd f) := by
  unfold State.runSources
  try dsimp only
  iterate 25 (all_goals try with_reducible first
    | assumption | exact id_kept (by assumption) | apply h_f | apply State.firstReply_kept | apply State.issue_kept
    | apply State.recordClamps_kept | intro _ | split | refine Kept.mk' ?_ rfl rfl rfl rfl | dsimp only)

end Sys2Proof.Machine
end

