-- ==== Sys2Proof/Laws/KeptCmdTables.lean ====
section
/-! SUPPORT. What every operation of Machine/CmdTables.lean keeps. -/
namespace Sys2Proof.Machine

theorem State.clearRun_kept {s0 : Start} (s : State) (p : PageEntry) (hG : Kept s0 s) :
    Kept s0 (State.clearRun s p) := by
  unfold State.clearRun
  try dsimp only
  iterate 25 (all_goals try with_reducible first
    | assumption | exact id_kept (by assumption) | apply State.putTrans_kept | refine forEach_kept (fun _ _ _ => ?_) ?_
    | intro _ | split | refine Kept.mk' ?_ rfl rfl rfl rfl | dsimp only)

theorem State.ligTiming_kept {s0 : Start} (s : State) (g : Nat) (v : Nat × Nat) (hG : Kept s0 s) :
    Kept s0 (State.ligTiming s g v) := by
  unfold State.ligTiming
  try dsimp only
  iterate 25 (all_goals try with_reducible first
    | assumption | exact id_kept (by assumption) | apply State.onGrp_kept | apply State.releaseNow_kept | intro _
    | split | refine Kept.mk' ?_ rfl rfl rfl rfl | dsimp only)

theorem State.ligEnable_kept {s0 : Start} (s : State) (g a : Nat) (hG : Kept s0 s) :
    Kept s0 (State.ligEnable s g a).1 := by
  unfold State.ligEnable
  try dsimp only
  iterate 25 (all_goals try with_reducible first
    | assumption | exact id_kept (by assumption) | apply State.cancelWork_kept | apply State.onGrp_kept
    | apply State.releaseNow_kept | intro _ | split | refine Kept.mk' ?_ rfl rfl rfl rfl | dsimp only)

theorem State.ligApply_kept {s0 : Start} (s : State) (g : Nat) (c : LigSet) (hG : Kept s0 s) :
    Kept s0 (State.ligApply s g c).1 := by
  unfold State.ligApply
  try dsimp only
  iterate 25 (all_goals try with_reducible first
    | assumption | exact id_kept (by assumption) | apply State.ligEnable_kept | apply State.ligTiming_kept
    | apply State.onGrp_kept | intro _ | split | refine Kept.mk' ?_ rfl rfl rfl rfl | dsimp only)

theorem State.flush_kept {s0 : Start} (s : State) (g : Nat) (hG : Kept s0 s) : Kept s0 (State.flush s g) := by
  unfold State.flush
  try dsimp only
  iterate 25 (all_goals try with_reducible first
    | assumption | exact id_kept (by assumption) | apply State.releaseNow_kept | intro _ | split
    | refine Kept.mk' ?_ rfl rfl rfl rfl | dsimp only)

theorem State.orderOnline_kept {s0 : Start} (s : State) (t : Nat) (hG : Kept s0 s) :
    Kept s0 (State.orderOnline s t).s := by
  unfold State.orderOnline
  try dsimp only
  iterate 25 (all_goals try with_reducible first
    | assumption | exact id_kept (by assumption) | apply State.onTgt_kept | apply State.goOnline_kept | intro _ | split
    | refine Kept.mk' ?_ rfl rfl rfl rfl | dsimp only)

theorem State.orderOffline_kept {s0 : Start} (s : State) (t : Nat) (hG : Kept s0 s) :
    Kept s0 (State.orderOffline s t).s := by
  unfold State.orderOffline
  try dsimp only
  iterate 25 (all_goals try with_reducible first
    | assumption | exact id_kept (by assumption) | apply State.onTgt_kept | apply State.cancelWork_kept
    | apply State.leave_kept | intro _ | split | refine Kept.mk' ?_ rfl rfl rfl rfl | dsimp only)

theorem State.orderTarget_kept {s0 : Start} (s : State) (t a : Nat) (hG : Kept s0 s) :
    Kept s0 (State.orderTarget s t a).s := by
  unfold State.orderTarget
  try dsimp only
  iterate 25 (all_goals try with_reducible first
    | assumption | exact id_kept (by assumption) | apply State.orderOffline_kept | apply State.orderOnline_kept
    | intro _ | split | refine Kept.mk' ?_ rfl rfl rfl rfl | dsimp only)

end Sys2Proof.Machine
end

