-- ==== Sys2Proof/Laws/KeptCmdInst.lean ====
section
/-! SUPPORT. What every operation of Machine/CmdInst.lean keeps. -/
namespace Sys2Proof.Machine

theorem State.instEnable_kept {s0 : Start} (s : State) (i a : Nat) (hG : Kept s0 s) :
    Kept s0 (State.instEnable s i a).1 := by
  unfold State.instEnable
  try dsimp only
  iterate 25 (all_goals try with_reducible first
    | assumption | exact id_kept (by assumption) | apply State.cancelWork_kept | apply State.newGeneration_kept
    | apply State.onCtx_kept | apply State.startSweep_kept | intro _ | split | refine Kept.mk' ?_ rfl rfl rfl rfl
    | dsimp only)

theorem State.instShare_kept {s0 : Start} (s : State) (i : Nat) (p : Packet) (hG : Kept s0 s) :
    Kept s0 (State.instShare s i p).1 := by
  unfold State.instShare
  try dsimp only
  iterate 25 (all_goals try with_reducible first
    | assumption | exact id_kept (by assumption) | apply State.dueRefills_kept | apply State.onCtx_kept
    | apply State.refill_kept | intro _ | split | refine Kept.mk' ?_ rfl rfl rfl rfl | dsimp only)

theorem State.closeWindows_kept {s0 : Start} (s : State) (i : Nat) (hG : Kept s0 s) :
    Kept s0 (State.closeWindows s i) := by
  unfold State.closeWindows
  try dsimp only
  iterate 25 (all_goals try with_reducible first
    | assumption | exact id_kept (by assumption) | apply State.onGrp_kept | refine forEach_kept (fun _ _ _ => ?_) ?_
    | intro _ | split | refine Kept.mk' ?_ rfl rfl rfl rfl | dsimp only)

theorem State.endFreeze_kept {s0 : Start} (s : State) (i : Nat) (hG : Kept s0 s) :
    Kept s0 (State.endFreeze s i) := by
  unfold State.endFreeze
  try dsimp only
  iterate 25 (all_goals try with_reducible first
    | assumption | exact id_kept (by assumption) | apply State.endSweep_kept | apply State.finishWork_kept | intro _
    | split | refine Kept.mk' ?_ rfl rfl rfl rfl | dsimp only)

theorem State.thawWaiting_kept {s0 : Start} (s : State) (i : Nat) (hG : Kept s0 s) :
    Kept s0 (State.thawWaiting s i) := by
  unfold State.thawWaiting
  try dsimp only
  iterate 25 (all_goals try with_reducible first
    | assumption | exact id_kept (by assumption) | apply State.putSource_kept | apply State.commit_kept
    | refine forEach_kept (fun _ _ _ => ?_) ?_ | intro _ | split | refine Kept.mk' ?_ rfl rfl rfl rfl | dsimp only)

end Sys2Proof.Machine
end

