-- ==== Sys2Proof/Laws/KeptRegisters.lean ====
section
/-! SUPPORT. What every operation of Machine/Registers.lean keeps. -/
namespace Sys2Proof.Machine

theorem State.modeRequest_kept {s0 : Start} (s : State) (code : Nat) (hG : Kept s0 s) :
    Kept s0 (State.modeRequest s code) := by
  unfold State.modeRequest
  try dsimp only
  iterate 25 (all_goals try with_reducible first
    | assumption | exact id_kept (by assumption) | apply State.clamp_kept | apply State.goTo_kept
    | apply State.settleCommit_kept | intro _ | split | refine Kept.mk' ?_ rfl rfl rfl rfl | dsimp only)

theorem State.unsealExpire_kept {s0 : Start} (s : State) (hG : Kept s0 s) : Kept s0 (State.unsealExpire s) := by
  unfold State.unsealExpire
  try dsimp only
  iterate 25 (all_goals try with_reducible first
    | assumption | exact id_kept (by assumption) | apply State.report_kept | apply State.settleMode_kept | intro _
    | split | refine Kept.mk' ?_ rfl rfl rfl rfl | dsimp only)

theorem State.clampFld_kept {s0 : Start} (s : State) (r : RegAt) (lsb width wr ap : Nat) (hG : Kept s0 s) :
    Kept s0 (State.clampFld s r lsb width wr ap) := by
  unfold State.clampFld
  try dsimp only
  iterate 25 (all_goals try with_reducible first
    | assumption | exact id_kept (by assumption) | apply State.clamp_kept | intro _ | split
    | refine Kept.mk' ?_ rfl rfl rfl rfl | dsimp only)

theorem State.writeGlb_kept {s0 : Start} (s : State) (o : Nat) (w : RegWrite) (hG : Kept s0 s) :
    Kept s0 (State.writeGlb s o w) := by
  unfold State.writeGlb
  try dsimp only
  iterate 25 (all_goals try with_reducible first
    | assumption | exact id_kept (by assumption) | apply State.clampFld_kept | apply State.modeRequest_kept
    | apply State.unsealExpire_kept | intro _ | split | refine Kept.mk' ?_ rfl rfl rfl rfl | dsimp only)

theorem State.resync_kept {s0 : Start} (s : State) (q : Nat) (hG : Kept s0 s) : Kept s0 (State.resync s q) := by
  unfold State.resync
  try dsimp only
  iterate 25 (all_goals try with_reducible first
    | assumption | exact id_kept (by assumption) | refine State.onQueue_kept _ _ (fun _ hq => hq) ?_
    | apply State.onQueue_kept | apply State.firstReply_kept | apply State.pump_kept | intro _ | split
    | refine Kept.mk' ?_ rfl rfl rfl rfl | dsimp only)

theorem State.writeCmd_kept {s0 : Start} (s : State) (o : Nat) (w : RegWrite) (hG : Kept s0 s) :
    Kept s0 (State.writeCmd s o w) := by
  unfold State.writeCmd
  try dsimp only
  iterate 25 (all_goals try with_reducible first
    | assumption | exact id_kept (by assumption) | refine State.onQueue_kept _ _ (fun _ hq => hq) ?_
    | apply State.onQueue_kept | apply State.resync_kept | intro _ | split | refine Kept.mk' ?_ rfl rfl rfl rfl
    | dsimp only)

theorem State.writeAcc_kept {s0 : Start} (s : State) (o : Nat) (w : RegWrite) (hG : Kept s0 s) :
    Kept s0 (State.writeAcc s o w) := by
  unfold State.writeAcc
  try dsimp only
  iterate 25 (all_goals try with_reducible first
    | assumption | exact id_kept (by assumption) | intro _ | split | refine Kept.mk' ?_ rfl rfl rfl rfl | dsimp only)

theorem State.writeInt_kept {s0 : Start} (s : State) (o : Nat) (w : RegWrite) (hG : Kept s0 s) :
    Kept s0 (State.writeInt s o w) := by
  unfold State.writeInt
  try dsimp only
  iterate 25 (all_goals try with_reducible first
    | assumption | exact id_kept (by assumption) | intro _ | split | refine Kept.mk' ?_ rfl rfl rfl rfl | dsimp only)

theorem State.writePwr_kept {s0 : Start} (s : State) (o : Nat) (w : RegWrite) (hG : Kept s0 s) :
    Kept s0 (State.writePwr s o w) := by
  unfold State.writePwr
  try dsimp only
  iterate 25 (all_goals try with_reducible first
    | assumption | exact id_kept (by assumption) | apply State.clampFld_kept | intro _ | split
    | refine Kept.mk' ?_ rfl rfl rfl rfl | dsimp only)

theorem State.writeLdg_kept {s0 : Start} (s : State) (o : Nat) (w : RegWrite) (hG : Kept s0 s) :
    Kept s0 (State.writeLdg s o w) := by
  unfold State.writeLdg
  try dsimp only
  iterate 25 (all_goals try with_reducible first
    | assumption | exact id_kept (by assumption) | apply State.clampFld_kept | intro _ | split
    | refine Kept.mk' ?_ rfl rfl rfl rfl | dsimp only)

theorem State.writeFlt_kept {s0 : Start} (s : State) (o : Nat) (w : RegWrite) (hG : Kept s0 s) :
    Kept s0 (State.writeFlt s o w) := by
  unfold State.writeFlt
  try dsimp only
  iterate 25 (all_goals try with_reducible first
    | assumption | exact id_kept (by assumption) | apply State.clampFld_kept | apply State.hold_kept | intro _ | split
    | refine Kept.mk' ?_ rfl rfl rfl rfl | dsimp only)

theorem State.writeTbs_kept {s0 : Start} (s : State) (o : Nat) (w : RegWrite) (hG : Kept s0 s) :
    Kept s0 (State.writeTbs s o w) := by
  unfold State.writeTbs
  try dsimp only
  iterate 25 (all_goals try with_reducible first
    | assumption | exact id_kept (by assumption) | intro _ | split | refine Kept.mk' ?_ rfl rfl rfl rfl | dsimp only)

theorem State.writeLineCfg_kept {s0 : Start} (s : State) (k : Nat) (w : RegWrite) (hG : Kept s0 s) :
    Kept s0 (State.writeLineCfg s k w) := by
  unfold State.writeLineCfg
  try dsimp only
  iterate 25 (all_goals try with_reducible first
    | assumption | exact id_kept (by assumption) | apply State.sendOrder_kept | intro _ | split
    | refine Kept.mk' ?_ rfl rfl rfl rfl | dsimp only)

theorem State.writeLineStat_kept {s0 : Start} (s : State) (k : Nat) (w : RegWrite) (hG : Kept s0 s) :
    Kept s0 (State.writeLineStat s k w) := by
  unfold State.writeLineStat
  try dsimp only
  iterate 25 (all_goals try with_reducible first
    | assumption | exact id_kept (by assumption) | apply State.onLine_kept | apply State.overrun_kept | intro _ | split
    | refine Kept.mk' ?_ rfl rfl rfl rfl | dsimp only)

theorem State.hotPush_kept {s0 : Start} (s : State) (h : HotWrite) (hG : Kept s0 s) :
    Kept s0 (State.hotPush s h) := by
  unfold State.hotPush
  try dsimp only
  iterate 25 (all_goals try with_reducible first
    | assumption | exact id_kept (by assumption) | intro _ | split | refine Kept.mk' ?_ rfl rfl rfl rfl | dsimp only)

theorem State.writeTarget_kept {s0 : Start} (s : State) (t o : Nat) (w : RegWrite) (hG : Kept s0 s) :
    Kept s0 (State.writeTarget s t o w) := by
  unfold State.writeTarget
  try dsimp only
  iterate 25 (all_goals try with_reducible first
    | assumption | exact id_kept (by assumption) | apply State.clampFld_kept | apply State.done_kept
    | apply State.hotPush_kept | apply State.onFar_kept | apply State.onPort_kept | intro _ | split
    | refine Kept.mk' ?_ rfl rfl rfl rfl | dsimp only)

theorem State.writeInst_kept {s0 : Start} (s : State) (b : BusReq) (i o : Nat) (w : RegWrite) (hG : Kept s0 s) :
    Kept s0 (State.writeInst s b i o w) := by
  unfold State.writeInst
  try dsimp only
  iterate 25 (all_goals try with_reducible first
    | assumption | exact id_kept (by assumption) | apply State.hotPush_kept | apply State.onCtx_kept | intro _ | split
    | refine Kept.mk' ?_ rfl rfl rfl rfl | dsimp only)

theorem State.writeReg_kept {s0 : Start} (s : State) (b : BusReq) (r : RegAt) (data mask : Nat) (hG : Kept s0 s) :
    Kept s0 (State.writeReg s b r data mask) := by
  unfold State.writeReg
  try dsimp only
  iterate 25 (all_goals try with_reducible first
    | assumption | exact id_kept (by assumption) | apply State.writeAcc_kept | apply State.writeCmd_kept
    | apply State.writeFlt_kept | apply State.writeGlb_kept | apply State.writeInst_kept | apply State.writeInt_kept
    | apply State.writeLdg_kept | apply State.writeLineCfg_kept | apply State.writeLineStat_kept
    | apply State.writePwr_kept | apply State.writeTarget_kept | apply State.writeTbs_kept | intro _ | split
    | refine Kept.mk' ?_ rfl rfl rfl rfl | dsimp only)

theorem State.pushWord_kept {s0 : Start} (s : State) (q : Nat) (w : BitVec 64) (hG : Kept s0 s) :
    Kept s0 (State.pushWord s q w) := by
  unfold State.pushWord
  try dsimp only
  iterate 25 (all_goals try with_reducible first
    | assumption | exact id_kept (by assumption) | refine State.onQueue_kept _ _ (fun _ hq => hq) ?_
    | apply State.onQueue_kept | apply State.firstReply_kept | apply State.pump_kept | intro _ | split
    | refine Kept.mk' ?_ rfl rfl rfl rfl | dsimp only)

theorem State.cdwWriteNow_kept {s0 : Start} (s : State) (b : BusReq) (hG : Kept s0 s) :
    Kept s0 (State.cdwWriteNow s b) := by
  unfold State.cdwWriteNow
  try dsimp only
  iterate 25 (all_goals try with_reducible first
    | assumption | exact id_kept (by assumption) | refine State.onQueue_kept _ _ (fun _ hq => hq) ?_
    | apply State.onQueue_kept | apply State.cdwIn_kept | apply State.endShort_kept | apply State.respond_kept
    | intro _ | split | refine Kept.mk' ?_ rfl rfl rfl rfl | dsimp only)

theorem State.cdwReadNow_kept {s0 : Start} (s : State) (b : BusReq) (hG : Kept s0 s) :
    Kept s0 (State.cdwReadNow s b) := by
  unfold State.cdwReadNow
  try dsimp only
  iterate 25 (all_goals try with_reducible first
    | assumption | exact id_kept (by assumption) | apply State.cdwOut_kept | apply State.respond_kept | intro _ | split
    | refine Kept.mk' ?_ rfl rfl rfl rfl | dsimp only)

theorem State.popReply_kept {s0 : Start} (s : State) (b : BusReq) (q : Nat) (hG : Kept s0 s) : Kept s0 (State.popReply s b q) := by
  unfold State.popReply
  split
  · exact State.respond_kept _ _ _ _ _ hG
  · rename_i w ws heq
    dsimp only
    apply State.pump_kept
    apply State.flushLate_kept
    apply State.respond_kept
    refine State.onQueue_kept' _ _ (fun h => ?_) hG
    rw [heq] at h
    simp at h ⊢
    omega

theorem State.sealRefused_kept {s0 : Start} (s : State) (hG : Kept s0 s) : Kept s0 (State.sealRefused s) := by
  unfold State.sealRefused
  try dsimp only
  iterate 25 (all_goals try with_reducible first
    | assumption | exact id_kept (by assumption) | intro _ | split | refine Kept.mk' ?_ rfl rfl rfl rfl | dsimp only)

theorem State.busWrite_kept {s0 : Start} (s : State) (b : BusReq) (hG : Kept s0 s) :
    Kept s0 (State.busWrite s b) := by
  unfold State.busWrite
  try dsimp only
  iterate 25 (all_goals try with_reducible first
    | assumption | exact id_kept (by assumption) | apply State.access_kept | apply State.cdwWriteNow_kept
    | apply State.pushWord_kept | apply State.refuseAccess_kept | apply State.respond_kept
    | apply State.sealRefused_kept | apply State.writeReg_kept | refine foldl_kept (fun _ _ _ => ?_) ?_
    | refine foldl_kept1 (fun _ _ _ => ?_) ?_ | intro _ | split | refine Kept.mk' ?_ rfl rfl rfl rfl | dsimp only)

theorem State.capture_kept {s0 : Start} (s : State) (r : RegAt) (hG : Kept s0 s) :
    Kept s0 (State.capture s r) := by
  unfold State.capture
  try dsimp only
  iterate 25 (all_goals try with_reducible first
    | assumption | exact id_kept (by assumption) | apply State.onTgt_kept | intro _ | split
    | refine Kept.mk' ?_ rfl rfl rfl rfl | dsimp only)

theorem State.busRead_kept {s0 : Start} (s : State) (b : BusReq) (hG : Kept s0 s) :
    Kept s0 (State.busRead s b) := by
  unfold State.busRead
  try dsimp only
  iterate 25 (all_goals try with_reducible first
    | assumption | exact id_kept (by assumption) | apply State.access_kept | apply State.capture_kept
    | apply State.cdwReadNow_kept | apply State.popReply_kept | apply State.respond_kept | intro _ | split
    | refine Kept.mk' ?_ rfl rfl rfl rfl | dsimp only)

theorem State.hotApply_kept {s0 : Start} (s : State) (hG : Kept s0 s) : Kept s0 (State.hotApply s) := by
  unfold State.hotApply
  try dsimp only
  iterate 25 (all_goals try with_reducible first
    | assumption | exact id_kept (by assumption) | apply State.onTgt_kept | apply State.applyTake_kept
    | apply State.done_kept | apply State.onPort_kept | apply State.orderDone_kept | apply State.orderPulse_kept
    | apply State.reportRun_kept | apply State.stageOk_kept | apply State.takePool_kept | intro _ | split
    | refine Kept.mk' ?_ rfl rfl rfl rfl | dsimp only)

end Sys2Proof.Machine
end

