-- ==== Sys2Proof/Laws/KeptWatch.lean ====
section
/-! SUPPORT. What every operation of Machine/Watch.lean keeps. -/
namespace Sys2Proof.Machine

theorem State.loseRecord_kept {s0 : Start} (s : State) (e : Nat) (hG : Kept s0 s) :
    Kept s0 (State.loseRecord s e).1 := by
  unfold State.loseRecord
  try dsimp only
  iterate 25 (all_goals try with_reducible first
    | assumption | exact id_kept (by assumption) | apply State.putSource_kept | apply State.clearTarget_kept
    | apply State.commit_kept | apply State.endPending_kept | apply State.endService_kept | apply State.guestIn_kept
    | apply State.guestOut_kept | apply State.onSource_kept | apply State.restoreCell_kept
    | apply State.settleSplice_kept | apply State.sourceReplies_kept | apply State.unpark_kept | intro _ | split
    | refine Kept.mk' ?_ rfl rfl rfl rfl | dsimp only)

theorem State.loseCell_kept {s0 : Start} (s : State) (e : Nat) (hG : Kept s0 s) :
    Kept s0 (State.loseCell s e) := by
  unfold State.loseCell
  try dsimp only
  iterate 25 (all_goals try with_reducible first
    | assumption | exact id_kept (by assumption) | apply State.onSource_kept | apply State.restoreCell_kept
    | apply State.startListRepair_kept | intro _ | split | refine Kept.mk' ?_ rfl rfl rfl rfl | dsimp only)

theorem State.losePool_kept {s0 : Start} (s : State) (n : Nat) (hG : Kept s0 s) :
    Kept s0 (State.losePool s n) := by
  unfold State.losePool
  try dsimp only
  iterate 25 (all_goals try with_reducible first
    | assumption | exact id_kept (by assumption) | apply State.onTgt_kept | refine forEach_kept (fun _ _ _ => ?_) ?_
    | intro _ | split | refine Kept.mk' ?_ rfl rfl rfl rfl | dsimp only)

theorem State.loseGroup_kept {s0 : Start} (s : State) (g : Nat) (hG : Kept s0 s) :
    Kept s0 (State.loseGroup s g) := by
  unfold State.loseGroup
  try dsimp only
  iterate 25 (all_goals try with_reducible first
    | assumption | exact id_kept (by assumption) | apply State.cancelWork_kept | apply State.objectReplies_kept
    | apply State.putGrp_kept | apply State.releaseNow_kept | intro _ | split | refine Kept.mk' ?_ rfl rfl rfl rfl
    | dsimp only)

theorem State.loseInst_kept {s0 : Start} (s : State) (i : Nat) (hG : Kept s0 s) :
    Kept s0 (State.loseInst s i) := by
  unfold State.loseInst
  try dsimp only
  iterate 25 (all_goals try with_reducible first
    | assumption | exact id_kept (by assumption) | apply State.putCtx_kept | apply State.startSweep_kept | intro _
    | split | refine Kept.mk' ?_ rfl rfl rfl rfl | dsimp only)

theorem State.loseLedger_kept {s0 : Start} (s : State) (x : Nat × Nat) (hb : s0.b = false) (hG : Kept s0 s) : Kept s0 (State.loseLedger s x) := by
  exact ⟨hG.pend, hG.strap, hG.inv, fun h => by simp [hb] at h⟩

theorem State.loseCommand_kept {s0 : Start} (s : State) (hG : Kept s0 s) : Kept s0 (State.loseCommand s) := by
  unfold State.loseCommand
  try dsimp only
  iterate 25 (all_goals try with_reducible first
    | assumption | exact id_kept (by assumption) | apply State.cutReply_kept | apply State.pump_kept | intro _ | split
    | refine Kept.mk' ?_ rfl rfl rfl rfl | dsimp only)

theorem State.loseScratch_kept {s0 : Start} (s : State) (a : Nat) (hG : Kept s0 s) :
    Kept s0 (State.loseScratch s a) := by
  unfold State.loseScratch
  try dsimp only
  iterate 25 (all_goals try with_reducible first
    | assumption | exact id_kept (by assumption) | apply State.loadPatch_kept | apply State.loseCommand_kept | intro _
    | split | refine Kept.mk' ?_ rfl rfl rfl rfl | dsimp only)

theorem State.loseWord_kept {s0 : Start} (s : State) (a : Nat) (hb : s0.b = false) (hG : Kept s0 s) :
    Kept s0 (State.loseWord s a).1 := by
  unfold State.loseWord
  try dsimp only
  iterate 25 (all_goals try with_reducible first
    | assumption | exact id_kept (by assumption) | apply State.faultTarget_kept | apply State.loseCell_kept
    | apply State.loseCommand_kept | apply State.loseGroup_kept | apply State.loseInst_kept
    | apply State.loseLedger_kept | apply State.losePool_kept | apply State.loseRecord_kept
    | apply State.loseScratch_kept | apply State.putPage_kept | apply State.putTrans_kept | intro _ | split
    | refine Kept.mk' ?_ rfl rfl rfl rfl | dsimp only)

theorem State.scrubRestore_kept {s0 : Start} (s : State) (a : Nat) (hG : Kept s0 s) :
    Kept s0 (State.scrubRestore s a) := by
  unfold State.scrubRestore
  try dsimp only
  iterate 25 (all_goals try with_reducible first
    | assumption | exact id_kept (by assumption) | apply State.restoreCell_kept | intro _ | split
    | refine Kept.mk' ?_ rfl rfl rfl rfl | dsimp only)

theorem State.fit_kept {s0 : Start} (s : State) (n v : Nat) (hG : Kept s0 s) : Kept s0 (State.fit s n v).1 := by
  unfold State.fit
  try dsimp only
  iterate 25 (all_goals try with_reducible first
    | assumption | exact id_kept (by assumption) | intro _ | split | refine Kept.mk' ?_ rfl rfl rfl rfl | dsimp only)

theorem State.witnessPeriod_kept {s0 : Start} (s : State) (revs : Nat) (hG : Kept s0 s) :
    Kept s0 (State.witnessPeriod s revs).1 := by
  unfold State.witnessPeriod
  try dsimp only
  iterate 25 (all_goals try with_reducible first
    | assumption | exact id_kept (by assumption) | intro _ | split | refine Kept.mk' ?_ rfl rfl rfl rfl | dsimp only)

theorem State.witnessAdd_kept {s0 : Start} (s : State) (t revs : Nat) (hG : Kept s0 s) :
    Kept s0 (State.witnessAdd s t revs) := by
  unfold State.witnessAdd
  try dsimp only
  iterate 25 (all_goals try with_reducible first
    | assumption | exact id_kept (by assumption) | intro _ | split | refine Kept.mk' ?_ rfl rfl rfl rfl | dsimp only)

theorem State.publish_kept {s0 : Start} (s : State) (revs : Nat) (tempC : Int) (hG : Kept s0 s) :
    Kept s0 (State.publish s revs tempC) := by
  unfold State.publish
  try dsimp only
  iterate 25 (all_goals try with_reducible first
    | assumption | exact id_kept (by assumption) | apply State.fit_kept | apply State.report_kept
    | apply State.witnessAdd_kept | apply State.witnessPeriod_kept | refine foldl_kept (fun _ _ _ => ?_) ?_
    | refine foldl_kept1 (fun _ _ _ => ?_) ?_ | intro _ | split | refine Kept.mk' ?_ rfl rfl rfl rfl | dsimp only)

theorem State.walkOne_kept {s0 : Start} (s : State) (hG : Kept s0 s) : Kept s0 (State.walkOne s) := by
  unfold State.walkOne
  try dsimp only
  iterate 25 (all_goals try with_reducible first
    | assumption | exact id_kept (by assumption) | intro _ | split | refine Kept.mk' ?_ rfl rfl rfl rfl | dsimp only)

theorem State.latchRef_kept {s0 : Start} (s : State) (hG : Kept s0 s) : Kept s0 (State.latchRef s) := by
  unfold State.latchRef
  try dsimp only
  iterate 25 (all_goals try with_reducible first
    | assumption | exact id_kept (by assumption) | apply State.firstReply_kept | apply State.goTo_kept | intro _
    | split | refine Kept.mk' ?_ rfl rfl rfl rfl | dsimp only)

theorem State.compareRef_kept {s0 : Start} (s : State) (hG : Kept s0 s) : Kept s0 (State.compareRef s) := by
  unfold State.compareRef
  try dsimp only
  iterate 25 (all_goals try with_reducible first
    | assumption | exact id_kept (by assumption) | apply State.report_kept | apply State.settleMode_kept | intro _
    | split | refine Kept.mk' ?_ rfl rfl rfl rfl | dsimp only)

theorem State.endBlinks_kept {s0 : Start} (s : State) (hG : Kept s0 s) : Kept s0 (State.endBlinks s) := by
  unfold State.endBlinks
  try dsimp only
  iterate 25 (all_goals try with_reducible first
    | assumption | exact id_kept (by assumption) | apply State.onPort_kept | refine forEach_kept (fun _ _ _ => ?_) ?_
    | intro _ | split | refine Kept.mk' ?_ rfl rfl rfl rfl | dsimp only)

theorem passTick_kept {s0 : Start} (s : State) (hG : Kept s0 s) : Kept s0 (passTick s) := by
  unfold passTick
  try dsimp only
  iterate 25 (all_goals try with_reducible first
    | assumption | exact id_kept (by assumption) | apply State.recCount_kept | apply State.endBlinks_kept
    | apply State.onFarChan_kept | apply State.pumpAll_kept | apply State.settleCdw_kept | apply State.walkOne_kept
    | refine forEach_kept (fun _ _ _ => ?_) ?_ | intro _ | split | refine Kept.mk' ?_ rfl rfl rfl rfl | dsimp only)

end Sys2Proof.Machine
end

