-- ==== Sys2Proof/Laws/KeptFaults.lean ====
section
/-! SUPPORT. What every operation of Machine/Faults.lean keeps. -/
namespace Sys2Proof.Machine

theorem State.datapathFault_kept {s0 : Start} (s : State) (part unit : Nat) (hG : Kept s0 s) :
    Kept s0 (State.datapathFault s part unit) := by
  unfold State.datapathFault
  try dsimp only
  iterate 25 (all_goals try with_reducible first
    | assumption | exact id_kept (by assumption) | apply State.faultTarget_kept | apply State.report_kept
    | apply State.settleMode_kept | intro _ | split | refine Kept.mk' ?_ rfl rfl rfl rfl | dsimp only)

theorem State.bankFault_kept {s0 : Start} (s : State) (bank : Nat) (hG : Kept s0 s) :
    Kept s0 (State.bankFault s bank) := by
  unfold State.bankFault
  try dsimp only
  iterate 25 (all_goals try with_reducible first
    | assumption | exact id_kept (by assumption) | apply State.report_kept | apply State.settleMode_kept | intro _
    | split | refine Kept.mk' ?_ rfl rfl rfl rfl | dsimp only)

theorem State.disablePair_kept {s0 : Start} (s : State) (p info : Nat) (hG : Kept s0 s) :
    Kept s0 (State.disablePair s p info) := by
  unfold State.disablePair
  try dsimp only
  iterate 25 (all_goals try with_reducible first
    | assumption | exact id_kept (by assumption) | apply State.report_kept | apply State.settleMode_kept | intro _
    | split | refine Kept.mk' ?_ rfl rfl rfl rfl | dsimp only)

theorem State.dropWithheld_kept {s0 : Start} (s : State) (q : Nat) (hG : Kept s0 s) :
    Kept s0 (State.dropWithheld s q) := by
  unfold State.dropWithheld
  try dsimp only
  iterate 25 (all_goals try with_reducible first
    | assumption | exact id_kept (by assumption) | intro _ | split | refine Kept.mk' ?_ rfl rfl rfl rfl | dsimp only)

theorem State.mismatch_kept {s0 : Start} (s : State) (p q opcode : Nat) (hG : Kept s0 s) :
    Kept s0 (State.mismatch s p q opcode) := by
  unfold State.mismatch
  try dsimp only
  iterate 25 (all_goals try with_reducible first
    | assumption | exact id_kept (by assumption) | apply State.cutReply_kept | apply State.disablePair_kept
    | apply State.dropWithheld_kept | apply State.pumpAll_kept | apply State.report_kept | intro _ | split
    | refine Kept.mk' ?_ rfl rfl rfl rfl | dsimp only)

theorem State.restartDone_kept {s0 : Start} (s : State) (p : Nat) (pass : Bool) (hG : Kept s0 s) :
    Kept s0 (State.restartDone s p pass) := by
  unfold State.restartDone
  try dsimp only
  iterate 25 (all_goals try with_reducible first
    | assumption | exact id_kept (by assumption) | apply State.disablePair_kept | apply State.pumpAll_kept | intro _
    | split | refine Kept.mk' ?_ rfl rfl rfl rfl | dsimp only)

end Sys2Proof.Machine
end

