-- ==== Sys2Proof/Laws/KeptImage.lean ====
section
/-! SUPPORT. What every operation of Machine/Image.lean keeps. -/
namespace Sys2Proof.Machine

theorem State.openRead_kept {s0 : Start} (s : State) (id : Nat) (ok : Bool) (ws : List (BitVec 64)) (hG : Kept s0 s) :
    Kept s0 (State.openRead s id ok ws) := by
  unfold State.openRead
  try dsimp only
  iterate 25 (all_goals try with_reducible first
    | assumption | exact id_kept (by assumption) | apply State.answerOwner_kept | apply State.openCdw_kept | intro _
    | split | refine Kept.mk' ?_ rfl rfl rfl rfl | dsimp only)

theorem State.readCopy_kept {s0 : Start} (s : State) (id : Nat) (b : Bool) (hG : Kept s0 s) :
    Kept s0 (State.readCopy s id b) := by
  unfold State.readCopy
  try dsimp only
  iterate 25 (all_goals try with_reducible first
    | assumption | exact id_kept (by assumption) | apply State.openRead_kept | intro _ | split
    | refine Kept.mk' ?_ rfl rfl rfl rfl | dsimp only)

theorem State.settleReads_kept {s0 : Start} (s : State) (hG : Kept s0 s) : Kept s0 (State.settleReads s) := by
  unfold State.settleReads
  try dsimp only
  iterate 25 (all_goals try with_reducible first
    | assumption | exact id_kept (by assumption) | apply State.readCopy_kept | refine forEach_kept (fun _ _ _ => ?_) ?_
    | intro _ | split | refine Kept.mk' ?_ rfl rfl rfl rfl | dsimp only)

end Sys2Proof.Machine
end

