-- ==== Sys2Proof/Laws/KeptReset.lean ====
section
/-! SUPPORT. What every operation of Machine/Reset.lean keeps. -/
namespace Sys2Proof.Machine

theorem State.coldRelease_kept {s0 : Start} (s : State) (src : ColdSrc) (pins : StrapPins) (hk : s0.k = false) (hG : Kept s0 s) : Kept s0 (State.coldRelease s src pins) := by
  unfold State.coldRelease
  split
  · assumption
  · extract_lets left a b s1 s2 c d s3
    have h1 : Kept s0 s1 := Kept.mk' hG rfl rfl rfl rfl
    split
    · assumption
    · have h2 : Kept s0 s2 := State.sampleStraps_kept _ _ hk h1
      exact State.enterMode_kept _ _ (Kept.mk' h2 rfl rfl rfl rfl)

theorem State.warmNow_kept {s0 : Start} (s : State) (src : WarmSrc) (hG : Kept s0 s) :
    Kept s0 (State.warmNow s src) := by
  unfold State.warmNow
  try dsimp only
  iterate 25 (all_goals try with_reducible first
    | assumption | exact id_kept (by assumption) | apply State.stopCdw_kept | apply State.warmAssert_kept | intro _
    | split | refine Kept.mk' ?_ rfl rfl rfl rfl | dsimp only)

theorem State.warmRelease_kept {s0 : Start} (s : State) (src : WarmSrc) (hG : Kept s0 s) :
    Kept s0 (State.warmRelease s src) := by
  unfold State.warmRelease
  try dsimp only
  iterate 25 (all_goals try with_reducible first
    | assumption | exact id_kept (by assumption) | apply State.startWarmDuctus_kept | intro _ | split
    | refine Kept.mk' ?_ rfl rfl rfl rfl | dsimp only)

theorem State.holdDomain_kept {s0 : Start} (s : State) (n : Nat) (hG : Kept s0 s) :
    Kept s0 (State.holdDomain s n) := by
  unfold State.holdDomain
  try dsimp only
  iterate 25 (all_goals try with_reducible first
    | assumption | exact id_kept (by assumption) | intro _ | split | refine Kept.mk' ?_ rfl rfl rfl rfl | dsimp only)

theorem State.dropBuffers_kept {s0 : Start} (s : State) (hG : Kept s0 s) : Kept s0 (State.dropBuffers s) := by
  unfold State.dropBuffers
  try dsimp only
  iterate 25 (all_goals try with_reducible first
    | assumption | exact id_kept (by assumption) | apply State.onChan_kept | apply State.report_kept
    | refine forEach_kept (fun _ _ _ => ?_) ?_ | refine foldl_kept (fun _ _ _ => ?_) ?_
    | refine foldl_kept1 (fun _ _ _ => ?_) ?_ | intro _ | split | refine Kept.mk' ?_ rfl rfl rfl rfl | dsimp only)

theorem State.countEsc_kept {s0 : Start} (s : State) (v : Nat) (hG : Kept s0 s) :
    Kept s0 (State.countEsc s v) := by
  unfold State.countEsc
  try dsimp only
  iterate 25 (all_goals try with_reducible first
    | assumption | exact id_kept (by assumption) | apply State.recCount_kept | intro _ | split
    | refine Kept.mk' ?_ rfl rfl rfl rfl | dsimp only)

theorem State.escRecover_kept {s0 : Start} (s : State) (hG : Kept s0 s) : Kept s0 (State.escRecover s) := by
  unfold State.escRecover
  try dsimp only
  iterate 25 (all_goals try with_reducible first
    | assumption | exact id_kept (by assumption) | apply State.enterMode_kept | apply State.park_kept
    | apply State.wake_kept | intro _ | split | refine Kept.mk' ?_ rfl rfl rfl rfl | dsimp only)

theorem State.cutWithdrawal_kept {s0 : Start} (s : State) (t : Nat) (hG : Kept s0 s) :
    Kept s0 (State.cutWithdrawal s t) := by
  unfold State.cutWithdrawal
  try dsimp only
  iterate 25 (all_goals try with_reducible first
    | assumption | exact id_kept (by assumption) | apply State.onPort_kept | apply State.onSource_kept
    | apply State.resolveTaken_kept | apply State.resolveWithdrawn_kept | intro _ | split
    | refine Kept.mk' ?_ rfl rfl rfl rfl | dsimp only)

theorem State.dropBlot_kept {s0 : Start} (s : State) (t : Nat) (hG : Kept s0 s) :
    Kept s0 (State.dropBlot s t) := by
  unfold State.dropBlot
  try dsimp only
  iterate 25 (all_goals try with_reducible first
    | assumption | exact id_kept (by assumption) | apply State.clearShown_kept | intro _ | split
    | refine Kept.mk' ?_ rfl rfl rfl rfl | dsimp only)

theorem State.domainHold_kept {s0 : Start} (s : State) (late : Bool) (hG : Kept s0 s) :
    Kept s0 (State.domainHold s late) := by
  unfold State.domainHold
  try dsimp only
  iterate 25 (all_goals try with_reducible first
    | assumption | exact id_kept (by assumption) | apply State.closeFar_kept | apply State.cutWithdrawal_kept
    | apply State.dropBlot_kept | apply State.dropBuffers_kept | apply State.holdD3_kept | apply State.holdDomain_kept
    | refine forEach_kept (fun _ _ _ => ?_) ?_ | intro _ | split | refine Kept.mk' ?_ rfl rfl rfl rfl | dsimp only)

theorem State.repairAll_kept {s0 : Start} (s : State) (hG : Kept s0 s) : Kept s0 (State.repairAll s) := by
  unfold State.repairAll
  try dsimp only
  iterate 25 (all_goals try with_reducible first
    | assumption | exact id_kept (by assumption) | intro _ | split | refine Kept.mk' ?_ rfl rfl rfl rfl | dsimp only)

theorem State.domainActions_kept {s0 : Start} (s : State) (n : Nat) (hG : Kept s0 s) :
    Kept s0 (State.domainActions s n) := by
  unfold State.domainActions
  try dsimp only
  iterate 25 (all_goals try with_reducible first
    | assumption | exact id_kept (by assumption) | apply State.openFar_kept | apply State.readCopies_kept
    | apply State.releaseD3_kept | apply State.releaseIntake_kept | apply State.releaseNib_kept
    | apply State.repairAll_kept | apply State.restartWitness_kept | apply State.startScan_kept | intro _ | split
    | refine Kept.mk' ?_ rfl rfl rfl rfl | dsimp only)

end Sys2Proof.Machine
end

