-- ==== Sys2Proof/Laws/KeptRecord.lean ====
section
/-! SUPPORT. What every operation of Machine/Record.lean keeps. -/
namespace Sys2Proof.Machine

theorem State.writeLoss_kept {s0 : Start} (s : State) (hG : Kept s0 s) : Kept s0 (State.writeLoss s) := by
  unfold State.writeLoss
  try dsimp only
  iterate 25 (all_goals try with_reducible first
    | assumption | exact id_kept (by assumption) | apply State.endSweep_kept | apply State.park_kept | intro _ | split
    | refine Kept.mk' ?_ rfl rfl rfl rfl | dsimp only)

theorem State.skipWrite_kept {s0 : Start} (s : State) (hG : Kept s0 s) : Kept s0 (State.skipWrite s) := by
  unfold State.skipWrite
  try dsimp only
  iterate 25 (all_goals try with_reducible first
    | assumption | exact id_kept (by assumption) | apply State.recCount_kept | apply State.answerOwner_kept
    | apply State.report_kept | refine forEach_kept (fun _ _ _ => ?_) ?_ | intro _ | split
    | refine Kept.mk' ?_ rfl rfl rfl rfl | dsimp only)

theorem State.startWrite_kept {s0 : Start} (s : State) (hG : Kept s0 s) : Kept s0 (State.startWrite s) := by
  unfold State.startWrite
  try dsimp only
  iterate 25 (all_goals try with_reducible first
    | assumption | exact id_kept (by assumption) | intro _ | split | refine Kept.mk' ?_ rfl rfl rfl rfl | dsimp only)

end Sys2Proof.Machine
end

