-- ==== Sys2Proof/Laws/KeptPower.lean ====
section
/-! SUPPORT. What every operation of Machine/Power.lean keeps. -/
namespace Sys2Proof.Machine

theorem State.setNack_kept {s0 : Start} (s : State) (before : Nat) (hG : Kept s0 s) :
    Kept s0 (State.setNack s before) := by
  unfold State.setNack
  try dsimp only
  iterate 25 (all_goals try with_reducible first
    | assumption | exact id_kept (by assumption) | intro _ | split | refine Kept.mk' ?_ rfl rfl rfl rfl | dsimp only)

theorem State.sleepNow_kept {s0 : Start} (s : State) (hG : Kept s0 s) : Kept s0 (State.sleepNow s) := by
  unfold State.sleepNow
  try dsimp only
  iterate 25 (all_goals try with_reducible first
    | assumption | exact id_kept (by assumption) | apply State.ring_kept | apply State.standIn_kept | intro _ | split
    | refine Kept.mk' ?_ rfl rfl rfl rfl | dsimp only)

theorem State.moveParked_kept {s0 : Start} (s : State) (a : Nat) (hG : Kept s0 s) :
    Kept s0 (State.moveParked s a) := by
  unfold State.moveParked
  try dsimp only
  iterate 25 (all_goals try with_reducible first
    | assumption | exact id_kept (by assumption) | apply State.ackRung_kept | apply State.sleepNow_kept
    | apply State.standIn_kept | intro _ | split | refine Kept.mk' ?_ rfl rfl rfl rfl | dsimp only)

theorem State.leaveRung_kept {s0 : Start} (s : State) (hG : Kept s0 s) : Kept s0 (State.leaveRung s) := by
  unfold State.leaveRung
  try dsimp only
  iterate 25 (all_goals try with_reducible first
    | assumption | exact id_kept (by assumption) | apply State.refillAll_kept | apply State.standIn_kept | intro _
    | split | refine Kept.mk' ?_ rfl rfl rfl rfl | dsimp only)

theorem State.withdrawAll_kept {s0 : Start} (s : State) (hG : Kept s0 s) : Kept s0 (State.withdrawAll s) := by
  unfold State.withdrawAll
  try dsimp only
  iterate 25 (all_goals try with_reducible first
    | assumption | exact id_kept (by assumption) | apply State.commit_kept | apply State.cutWithdrawal_kept
    | apply State.startWithdrawal_kept | refine forEach_kept (fun _ _ _ => ?_) ?_ | intro _ | split
    | refine Kept.mk' ?_ rfl rfl rfl rfl | dsimp only)

theorem State.startPark_kept {s0 : Start} (s : State) (hG : Kept s0 s) : Kept s0 (State.startPark s) := by
  unfold State.startPark
  try dsimp only
  iterate 25 (all_goals try with_reducible first
    | assumption | exact id_kept (by assumption) | apply State.closeFar_kept | apply State.closeIntake_kept
    | apply State.onSweep_kept | apply State.park_kept | apply State.startSweep_kept | apply State.withdrawAll_kept
    | intro _ | split | refine Kept.mk' ?_ rfl rfl rfl rfl | dsimp only)

theorem State.parkDrained_kept {s0 : Start} (s : State) (hG : Kept s0 s) : Kept s0 (State.parkDrained s) := by
  unfold State.parkDrained
  try dsimp only
  iterate 25 (all_goals try with_reducible first
    | assumption | exact id_kept (by assumption) | apply State.startPark_kept | intro _ | split
    | refine Kept.mk' ?_ rfl rfl rfl rfl | dsimp only)

theorem State.applyRung_kept {s0 : Start} (s : State) (before : Nat) (hG : Kept s0 s) :
    Kept s0 (State.applyRung s before) := by
  unfold State.applyRung
  try dsimp only
  iterate 25 (all_goals try with_reducible first
    | assumption | exact id_kept (by assumption) | apply State.ackRung_kept | apply State.leaveRung_kept
    | apply State.moveParked_kept | apply State.park_kept | apply State.parkCheck_kept | apply State.parkDrained_kept
    | apply State.setNack_kept | apply State.settleAck_kept | apply State.wake_kept | intro _ | split
    | refine Kept.mk' ?_ rfl rfl rfl rfl | dsimp only)

theorem State.enterPark_kept {s0 : Start} (s : State) (hG : Kept s0 s) : Kept s0 (State.enterPark s) := by
  unfold State.enterPark
  extract_lets qs s1 c1 c2 c3 c4 s2 s3 s4 r s5 due c5 s6
  have h1 : Kept s0 s1 := State.initInkwell_kept _ hG
  have h2 : Kept s0 s2 := by
    refine ⟨h1.pend, h1.strap, fun i => ?_, h1.bal⟩
    have := h1.inv i
    refine ⟨this.1, fun k => ?_, this.2.2⟩
    show (tget CmdQueue.dflt (List.filter (fun q => q.2 != CmdQueue.dflt q.1) qs) k).rpl.length ≤ 512
    refine tget_all _ (fun c : CmdQueue => c.rpl.length ≤ 512) _ _ (Nat.zero_le _) ?_
    intro p hp
    simp only [qs, List.mem_filter, List.mem_map] at hp
    obtain ⟨⟨q, _, rfl⟩, _⟩ := hp
    simp [CmdQueue.bindOnly]
  clear_value s2
  have h3 : Kept s0 s3 := State.restartWitness_kept _ h2
  have h4 : Kept s0 s4 := State.enterMode_kept _ _ h3
  have h5 : Kept s0 s5 := by
    refine State.ackRung_kept _ _ ?_
    split
    · exact State.sleepNow_kept _ h4
    · exact State.standIn_kept _ _ h4
  have h6 : Kept s0 s6 := Kept.mk' h5 rfl rfl rfl rfl
  clear_value s6 due
  cases due with
  | none => exact State.moveParked_kept _ _ h6
  | some k => exact State.parkWake_kept _ _ h6

end Sys2Proof.Machine
end

