-- ==== Sys2Proof/Laws/KeptCmdSystem.lean ====
section
/-! SUPPORT. What every operation of Machine/CmdSystem.lean keeps. -/
namespace Sys2Proof.Machine

theorem State.applyPair_kept {s0 : Start} (s : State) (a b : BitVec 64) (k : Nat) (hG : Kept s0 s) : Kept s0 (State.applyPair s a b k).1 := by
  unfold State.applyPair
  dsimp only
  split
  · exact Kept.mk' hG rfl rfl rfl rfl
  · split
    · exact Kept.mk' hG rfl rfl rfl rfl
    · exact State.onQueue_kept _ _ (fun _ h => h) hG

theorem State.applyPairs_kept {s0 : Start} (s : State) (ps : List (BitVec 64 × BitVec 64 × Nat)) (hG : Kept s0 s) :
    Kept s0 (State.applyPairs s ps).1 := by
  unfold State.applyPairs
  try dsimp only
  iterate 25 (all_goals try with_reducible first
    | assumption | exact id_kept (by assumption) | apply State.applyPair_kept | refine foldl_kept (fun _ _ _ => ?_) ?_
    | refine foldl_kept1 (fun _ _ _ => ?_) ?_ | intro _ | split | refine Kept.mk' ?_ rfl rfl rfl rfl | dsimp only)

theorem State.sealNow_kept {s0 : Start} (s : State) (q tag : Nat) (hG : Kept s0 s) :
    Kept s0 (State.sealNow s q tag) := by
  unfold State.sealNow
  try dsimp only
  iterate 25 (all_goals try with_reducible first
    | assumption | exact id_kept (by assumption) | apply State.restartWalk_kept | intro _ | split
    | refine Kept.mk' ?_ rfl rfl rfl rfl | dsimp only)

theorem State.unsealNow_kept {s0 : Start} (s : State) (hG : Kept s0 s) : Kept s0 (State.unsealNow s) := by
  unfold State.unsealNow
  try dsimp only
  iterate 25 (all_goals try with_reducible first
    | assumption | exact id_kept (by assumption) | intro _ | split | refine Kept.mk' ?_ rfl rfl rfl rfl | dsimp only)

theorem State.readRecord_kept {s0 : Start} (s : State) (id copy : Nat) (hG : Kept s0 s) :
    Kept s0 (State.readRecord s id copy) := by
  unfold State.readRecord
  try dsimp only
  iterate 25 (all_goals try with_reducible first
    | assumption | exact id_kept (by assumption) | apply State.openRead_kept | apply State.readCopy_kept | intro _
    | split | refine Kept.mk' ?_ rfl rfl rfl rfl | dsimp only)

theorem State.askIdle_kept {s0 : Start} (s : State) (n : Nat) (hG : Kept s0 s) : Kept s0 (State.askIdle s n) := by
  unfold State.askIdle
  try dsimp only
  iterate 25 (all_goals try with_reducible first
    | assumption | exact id_kept (by assumption) | apply State.closeIntake_kept | apply State.preempt_kept
    | apply State.stretch_kept | refine forEach_kept (fun _ _ _ => ?_) ?_ | intro _ | split
    | refine Kept.mk' ?_ rfl rfl rfl rfl | dsimp only)

theorem State.startDomain_kept {s0 : Start} (s : State) (n id : Nat) (hG : Kept s0 s) :
    Kept s0 (State.startDomain s n id) := by
  unfold State.startDomain
  try dsimp only
  iterate 25 (all_goals try with_reducible first
    | assumption | exact id_kept (by assumption) | apply State.askIdle_kept | intro _ | split
    | refine Kept.mk' ?_ rfl rfl rfl rfl | dsimp only)

end Sys2Proof.Machine
end

