-- ==== Sys2Proof/Laws/State.lean ====
section
/-! SUPPORT. What each named update of the state leaves: every other field, every other reading, and the entry it writes. -/
namespace Sys2Proof.Machine

variable (s : State)

/-! ### putSource -/

@[simp] theorem State.putSource_pending (e : Nat) (r : SrcRec) : (s.putSource e r).pending = s.pending := rfl
@[simp] theorem State.putSource_now (e : Nat) (r : SrcRec) : (s.putSource e r).now = s.now := rfl
@[simp] theorem State.putSource_free (e : Nat) (r : SrcRec) : (s.putSource e r).free = s.free := rfl
@[simp] theorem State.putSource_pins (e : Nat) (r : SrcRec) : (s.putSource e r).pins = s.pins := rfl
@[simp] theorem State.putSource_strap (e : Nat) (r : SrcRec) : (s.putSource e r).strap = s.strap := rfl
@[simp] theorem State.putSource_mode (e : Nat) (r : SrcRec) : (s.putSource e r).mode = s.mode := rfl
@[simp] theorem State.putSource_rst (e : Nat) (r : SrcRec) : (s.putSource e r).rst = s.rst := rfl
@[simp] theorem State.putSource_tb (e : Nat) (r : SrcRec) : (s.putSource e r).tb = s.tb := rfl
@[simp] theorem State.putSource_pwr (e : Nat) (r : SrcRec) : (s.putSource e r).pwr = s.pwr := rfl
@[simp] theorem State.putSource_cfg (e : Nat) (r : SrcRec) : (s.putSource e r).cfg = s.cfg := rfl
@[simp] theorem State.putSource_lines (e : Nat) (r : SrcRec) : (s.putSource e r).lines = s.lines := rfl
@[simp] theorem State.putSource_lost (e : Nat) (r : SrcRec) : (s.putSource e r).lost = s.lost := rfl
@[simp] theorem State.putSource_scrub (e : Nat) (r : SrcRec) : (s.putSource e r).scrub = s.scrub := rfl
@[simp] theorem State.putSource_scrubbed (e : Nat) (r : SrcRec) : (s.putSource e r).scrubbed = s.scrubbed := rfl
@[simp] theorem State.putSource_parked (e : Nat) (r : SrcRec) : (s.putSource e r).parked = s.parked := rfl
@[simp] theorem State.putSource_waiting (e : Nat) (r : SrcRec) : (s.putSource e r).waiting = s.waiting := rfl
@[simp] theorem State.putSource_house (e : Nat) (r : SrcRec) : (s.putSource e r).house = s.house := rfl
@[simp] theorem State.putSource_trans (e : Nat) (r : SrcRec) : (s.putSource e r).trans = s.trans := rfl
@[simp] theorem State.putSource_pages (e : Nat) (r : SrcRec) : (s.putSource e r).pages = s.pages := rfl
@[simp] theorem State.putSource_groups (e : Nat) (r : SrcRec) : (s.putSource e r).groups = s.groups := rfl
@[simp] theorem State.putSource_counts (e : Nat) (r : SrcRec) : (s.putSource e r).counts = s.counts := rfl
@[simp] theorem State.putSource_insts (e : Nat) (r : SrcRec) : (s.putSource e r).insts = s.insts := rfl
@[simp] theorem State.putSource_tgts (e : Nat) (r : SrcRec) : (s.putSource e r).tgts = s.tgts := rfl
@[simp] theorem State.putSource_links (e : Nat) (r : SrcRec) : (s.putSource e r).links = s.links := rfl
@[simp] theorem State.putSource_inch (e : Nat) (r : SrcRec) : (s.putSource e r).inch = s.inch := rfl
@[simp] theorem State.putSource_relays (e : Nat) (r : SrcRec) : (s.putSource e r).relays = s.relays := rfl
@[simp] theorem State.putSource_poolTop (e : Nat) (r : SrcRec) : (s.putSource e r).poolTop = s.poolTop := rfl
@[simp] theorem State.putSource_relayTop (e : Nat) (r : SrcRec) : (s.putSource e r).relayTop = s.relayTop := rfl
@[simp] theorem State.putSource_farch (e : Nat) (r : SrcRec) : (s.putSource e r).farch = s.farch := rfl
@[simp] theorem State.putSource_ldg (e : Nat) (r : SrcRec) : (s.putSource e r).ldg = s.ldg := rfl
@[simp] theorem State.putSource_sweeps (e : Nat) (r : SrcRec) : (s.putSource e r).sweeps = s.sweeps := rfl
@[simp] theorem State.putSource_clusters (e : Nat) (r : SrcRec) : (s.putSource e r).clusters = s.clusters := rfl
@[simp] theorem State.putSource_rank (e : Nat) (r : SrcRec) : (s.putSource e r).rank = s.rank := rfl
@[simp] theorem State.putSource_cmd (e : Nat) (r : SrcRec) : (s.putSource e r).cmd = s.cmd := rfl
@[simp] theorem State.putSource_acc (e : Nat) (r : SrcRec) : (s.putSource e r).acc = s.acc := rfl
@[simp] theorem State.putSource_bus (e : Nat) (r : SrcRec) : (s.putSource e r).bus = s.bus := rfl
@[simp] theorem State.putSource_flt (e : Nat) (r : SrcRec) : (s.putSource e r).flt = s.flt := rfl
@[simp] theorem State.putSource_rcd (e : Nat) (r : SrcRec) : (s.putSource e r).rcd = s.rcd := rfl
@[simp] theorem State.putSource_at_ctx (e : Nat) (r : SrcRec) (x : Nat) : (s.putSource e r).ctx x = s.ctx x := rfl
@[simp] theorem State.putSource_at_tgt (e : Nat) (r : SrcRec) (x : Nat) : (s.putSource e r).tgt x = s.tgt x := rfl
@[simp] theorem State.putSource_at_grp (e : Nat) (r : SrcRec) (x : Nat) : (s.putSource e r).grp x = s.grp x := rfl
@[simp] theorem State.putSource_at_link (e : Nat) (r : SrcRec) (x : Nat) : (s.putSource e r).link x = s.link x := rfl
@[simp] theorem State.putSource_at_chan (e : Nat) (r : SrcRec) (x : Nat) : (s.putSource e r).chan x = s.chan x := rfl
@[simp] theorem State.putSource_at_farChan (e : Nat) (r : SrcRec) (x : Nat) : (s.putSource e r).farChan x = s.farChan x := rfl
@[simp] theorem State.putSource_at_line (e : Nat) (r : SrcRec) (x : Nat) : (s.putSource e r).line x = s.line x := rfl
@[simp] theorem State.putSource_at_transEntry (e : Nat) (r : SrcRec) (x : Nat) : (s.putSource e r).transEntry x = s.transEntry x := rfl
@[simp] theorem State.putSource_at_page (e : Nat) (r : SrcRec) (x : Nat) : (s.putSource e r).page x = s.page x := rfl
@[simp] theorem State.putSource_at_queue (e : Nat) (r : SrcRec) (x : Nat) : (s.putSource e r).queue x = s.queue x := rfl
@[simp] theorem State.putSource_at_ledger (e : Nat) (r : SrcRec) (x : Nat) : (s.putSource e r).ledger x = s.ledger x := rfl
@[simp] theorem State.putSource_at_isHeld (e : Nat) (r : SrcRec) (x : Nat) : (s.putSource e r).isHeld x = s.isHeld x := rfl
@[simp] theorem State.putSource_at_slot (e : Nat) (r : SrcRec) (x : Nat) : (s.putSource e r).slot x = s.slot x := rfl
@[simp] theorem State.putSource_tick (e : Nat) (r : SrcRec) : (s.putSource e r).tick = s.tick := rfl

/-! ### onSource -/

@[simp] theorem State.onSource_pending (e : Nat) (f : SrcRec → SrcRec) : (s.onSource e f).pending = s.pending := rfl
@[simp] theorem State.onSource_now (e : Nat) (f : SrcRec → SrcRec) : (s.onSource e f).now = s.now := rfl
@[simp] theorem State.onSource_free (e : Nat) (f : SrcRec → SrcRec) : (s.onSource e f).free = s.free := rfl
@[simp] theorem State.onSource_pins (e : Nat) (f : SrcRec → SrcRec) : (s.onSource e f).pins = s.pins := rfl
@[simp] theorem State.onSource_strap (e : Nat) (f : SrcRec → SrcRec) : (s.onSource e f).strap = s.strap := rfl
@[simp] theorem State.onSource_mode (e : Nat) (f : SrcRec → SrcRec) : (s.onSource e f).mode = s.mode := rfl
@[simp] theorem State.onSource_rst (e : Nat) (f : SrcRec → SrcRec) : (s.onSource e f).rst = s.rst := rfl
@[simp] theorem State.onSource_tb (e : Nat) (f : SrcRec → SrcRec) : (s.onSource e f).tb = s.tb := rfl
@[simp] theorem State.onSource_pwr (e : Nat) (f : SrcRec → SrcRec) : (s.onSource e f).pwr = s.pwr := rfl
@[simp] theorem State.onSource_cfg (e : Nat) (f : SrcRec → SrcRec) : (s.onSource e f).cfg = s.cfg := rfl
@[simp] theorem State.onSource_lines (e : Nat) (f : SrcRec → SrcRec) : (s.onSource e f).lines = s.lines := rfl
@[simp] theorem State.onSource_lost (e : Nat) (f : SrcRec → SrcRec) : (s.onSource e f).lost = s.lost := rfl
@[simp] theorem State.onSource_scrub (e : Nat) (f : SrcRec → SrcRec) : (s.onSource e f).scrub = s.scrub := rfl
@[simp] theorem State.onSource_scrubbed (e : Nat) (f : SrcRec → SrcRec) : (s.onSource e f).scrubbed = s.scrubbed := rfl
@[simp] theorem State.onSource_parked (e : Nat) (f : SrcRec → SrcRec) : (s.onSource e f).parked = s.parked := rfl
@[simp] theorem State.onSource_waiting (e : Nat) (f : SrcRec → SrcRec) : (s.onSource e f).waiting = s.waiting := rfl
@[simp] theorem State.onSource_house (e : Nat) (f : SrcRec → SrcRec) : (s.onSource e f).house = s.house := rfl
@[simp] theorem State.onSource_trans (e : Nat) (f : SrcRec → SrcRec) : (s.onSource e f).trans = s.trans := rfl
@[simp] theorem State.onSource_pages (e : Nat) (f : SrcRec → SrcRec) : (s.onSource e f).pages = s.pages := rfl
@[simp] theorem State.onSource_groups (e : Nat) (f : SrcRec → SrcRec) : (s.onSource e f).groups = s.groups := rfl
@[simp] theorem State.onSource_counts (e : Nat) (f : SrcRec → SrcRec) : (s.onSource e f).counts = s.counts := rfl
@[simp] theorem State.onSource_insts (e : Nat) (f : SrcRec → SrcRec) : (s.onSource e f).insts = s.insts := rfl
@[simp] theorem State.onSource_tgts (e : Nat) (f : SrcRec → SrcRec) : (s.onSource e f).tgts = s.tgts := rfl
@[simp] theorem State.onSource_links (e : Nat) (f : SrcRec → SrcRec) : (s.onSource e f).links = s.links := rfl
@[simp] theorem State.onSource_inch (e : Nat) (f : SrcRec → SrcRec) : (s.onSource e f).inch = s.inch := rfl
@[simp] theorem State.onSource_relays (e : Nat) (f : SrcRec → SrcRec) : (s.onSource e f).relays = s.relays := rfl
@[simp] theorem State.onSource_poolTop (e : Nat) (f : SrcRec → SrcRec) : (s.onSource e f).poolTop = s.poolTop := rfl
@[simp] theorem State.onSource_relayTop (e : Nat) (f : SrcRec → SrcRec) : (s.onSource e f).relayTop = s.relayTop := rfl
@[simp] theorem State.onSource_farch (e : Nat) (f : SrcRec → SrcRec) : (s.onSource e f).farch = s.farch := rfl
@[simp] theorem State.onSource_ldg (e : Nat) (f : SrcRec → SrcRec) : (s.onSource e f).ldg = s.ldg := rfl
@[simp] theorem State.onSource_sweeps (e : Nat) (f : SrcRec → SrcRec) : (s.onSource e f).sweeps = s.sweeps := rfl
@[simp] theorem State.onSource_clusters (e : Nat) (f : SrcRec → SrcRec) : (s.onSource e f).clusters = s.clusters := rfl
@[simp] theorem State.onSource_rank (e : Nat) (f : SrcRec → SrcRec) : (s.onSource e f).rank = s.rank := rfl
@[simp] theorem State.onSource_cmd (e : Nat) (f : SrcRec → SrcRec) : (s.onSource e f).cmd = s.cmd := rfl
@[simp] theorem State.onSource_acc (e : Nat) (f : SrcRec → SrcRec) : (s.onSource e f).acc = s.acc := rfl
@[simp] theorem State.onSource_bus (e : Nat) (f : SrcRec → SrcRec) : (s.onSource e f).bus = s.bus := rfl
@[simp] theorem State.onSource_flt (e : Nat) (f : SrcRec → SrcRec) : (s.onSource e f).flt = s.flt := rfl
@[simp] theorem State.onSource_rcd (e : Nat) (f : SrcRec → SrcRec) : (s.onSource e f).rcd = s.rcd := rfl
@[simp] theorem State.onSource_at_ctx (e : Nat) (f : SrcRec → SrcRec) (x : Nat) : (s.onSource e f).ctx x = s.ctx x := rfl
@[simp] theorem State.onSource_at_tgt (e : Nat) (f : SrcRec → SrcRec) (x : Nat) : (s.onSource e f).tgt x = s.tgt x := rfl
@[simp] theorem State.onSource_at_grp (e : Nat) (f : SrcRec → SrcRec) (x : Nat) : (s.onSource e f).grp x = s.grp x := rfl
@[simp] theorem State.onSource_at_link (e : Nat) (f : SrcRec → SrcRec) (x : Nat) : (s.onSource e f).link x = s.link x := rfl
@[simp] theorem State.onSource_at_chan (e : Nat) (f : SrcRec → SrcRec) (x : Nat) : (s.onSource e f).chan x = s.chan x := rfl
@[simp] theorem State.onSource_at_farChan (e : Nat) (f : SrcRec → SrcRec) (x : Nat) : (s.onSource e f).farChan x = s.farChan x := rfl
@[simp] theorem State.onSource_at_line (e : Nat) (f : SrcRec → SrcRec) (x : Nat) : (s.onSource e f).line x = s.line x := rfl
@[simp] theorem State.onSource_at_transEntry (e : Nat) (f : SrcRec → SrcRec) (x : Nat) : (s.onSource e f).transEntry x = s.transEntry x := rfl
@[simp] theorem State.onSource_at_page (e : Nat) (f : SrcRec → SrcRec) (x : Nat) : (s.onSource e f).page x = s.page x := rfl
@[simp] theorem State.onSource_at_queue (e : Nat) (f : SrcRec → SrcRec) (x : Nat) : (s.onSource e f).queue x = s.queue x := rfl
@[simp] theorem State.onSource_at_ledger (e : Nat) (f : SrcRec → SrcRec) (x : Nat) : (s.onSource e f).ledger x = s.ledger x := rfl
@[simp] theorem State.onSource_at_isHeld (e : Nat) (f : SrcRec → SrcRec) (x : Nat) : (s.onSource e f).isHeld x = s.isHeld x := rfl
@[simp] theorem State.onSource_at_slot (e : Nat) (f : SrcRec → SrcRec) (x : Nat) : (s.onSource e f).slot x = s.slot x := rfl
@[simp] theorem State.onSource_tick (e : Nat) (f : SrcRec → SrcRec) : (s.onSource e f).tick = s.tick := rfl

/-! ### putCtx -/

@[simp] theorem State.putCtx_pending (i : Nat) (c : Inst) : (s.putCtx i c).pending = s.pending := rfl
@[simp] theorem State.putCtx_now (i : Nat) (c : Inst) : (s.putCtx i c).now = s.now := rfl
@[simp] theorem State.putCtx_free (i : Nat) (c : Inst) : (s.putCtx i c).free = s.free := rfl
@[simp] theorem State.putCtx_pins (i : Nat) (c : Inst) : (s.putCtx i c).pins = s.pins := rfl
@[simp] theorem State.putCtx_strap (i : Nat) (c : Inst) : (s.putCtx i c).strap = s.strap := rfl
@[simp] theorem State.putCtx_mode (i : Nat) (c : Inst) : (s.putCtx i c).mode = s.mode := rfl
@[simp] theorem State.putCtx_rst (i : Nat) (c : Inst) : (s.putCtx i c).rst = s.rst := rfl
@[simp] theorem State.putCtx_tb (i : Nat) (c : Inst) : (s.putCtx i c).tb = s.tb := rfl
@[simp] theorem State.putCtx_pwr (i : Nat) (c : Inst) : (s.putCtx i c).pwr = s.pwr := rfl
@[simp] theorem State.putCtx_cfg (i : Nat) (c : Inst) : (s.putCtx i c).cfg = s.cfg := rfl
@[simp] theorem State.putCtx_lines (i : Nat) (c : Inst) : (s.putCtx i c).lines = s.lines := rfl
@[simp] theorem State.putCtx_src (i : Nat) (c : Inst) : (s.putCtx i c).src = s.src := rfl
@[simp] theorem State.putCtx_lost (i : Nat) (c : Inst) : (s.putCtx i c).lost = s.lost := rfl
@[simp] theorem State.putCtx_scrub (i : Nat) (c : Inst) : (s.putCtx i c).scrub = s.scrub := rfl
@[simp] theorem State.putCtx_scrubbed (i : Nat) (c : Inst) : (s.putCtx i c).scrubbed = s.scrubbed := rfl
@[simp] theorem State.putCtx_parked (i : Nat) (c : Inst) : (s.putCtx i c).parked = s.parked := rfl
@[simp] theorem State.putCtx_waiting (i : Nat) (c : Inst) : (s.putCtx i c).waiting = s.waiting := rfl
@[simp] theorem State.putCtx_house (i : Nat) (c : Inst) : (s.putCtx i c).house = s.house := rfl
@[simp] theorem State.putCtx_trans (i : Nat) (c : Inst) : (s.putCtx i c).trans = s.trans := rfl
@[simp] theorem State.putCtx_pages (i : Nat) (c : Inst) : (s.putCtx i c).pages = s.pages := rfl
@[simp] theorem State.putCtx_groups (i : Nat) (c : Inst) : (s.putCtx i c).groups = s.groups := rfl
@[simp] theorem State.putCtx_counts (i : Nat) (c : Inst) : (s.putCtx i c).counts = s.counts := rfl
@[simp] theorem State.putCtx_tgts (i : Nat) (c : Inst) : (s.putCtx i c).tgts = s.tgts := rfl
@[simp] theorem State.putCtx_links (i : Nat) (c : Inst) : (s.putCtx i c).links = s.links := rfl
@[simp] theorem State.putCtx_inch (i : Nat) (c : Inst) : (s.putCtx i c).inch = s.inch := rfl
@[simp] theorem State.putCtx_relays (i : Nat) (c : Inst) : (s.putCtx i c).relays = s.relays := rfl
@[simp] theorem State.putCtx_poolTop (i : Nat) (c : Inst) : (s.putCtx i c).poolTop = s.poolTop := rfl
@[simp] theorem State.putCtx_relayTop (i : Nat) (c : Inst) : (s.putCtx i c).relayTop = s.relayTop := rfl
@[simp] theorem State.putCtx_farch (i : Nat) (c : Inst) : (s.putCtx i c).farch = s.farch := rfl
@[simp] theorem State.putCtx_ldg (i : Nat) (c : Inst) : (s.putCtx i c).ldg = s.ldg := rfl
@[simp] theorem State.putCtx_sweeps (i : Nat) (c : Inst) : (s.putCtx i c).sweeps = s.sweeps := rfl
@[simp] theorem State.putCtx_clusters (i : Nat) (c : Inst) : (s.putCtx i c).clusters = s.clusters := rfl
@[simp] theorem State.putCtx_rank (i : Nat) (c : Inst) : (s.putCtx i c).rank = s.rank := rfl
@[simp] theorem State.putCtx_cmd (i : Nat) (c : Inst) : (s.putCtx i c).cmd = s.cmd := rfl
@[simp] theorem State.putCtx_acc (i : Nat) (c : Inst) : (s.putCtx i c).acc = s.acc := rfl
@[simp] theorem State.putCtx_bus (i : Nat) (c : Inst) : (s.putCtx i c).bus = s.bus := rfl
@[simp] theorem State.putCtx_flt (i : Nat) (c : Inst) : (s.putCtx i c).flt = s.flt := rfl
@[simp] theorem State.putCtx_rcd (i : Nat) (c : Inst) : (s.putCtx i c).rcd = s.rcd := rfl
@[simp] theorem State.putCtx_at_source (i : Nat) (c : Inst) (x : Nat) : (s.putCtx i c).source x = s.source x := rfl
@[simp] theorem State.putCtx_at_tgt (i : Nat) (c : Inst) (x : Nat) : (s.putCtx i c).tgt x = s.tgt x := rfl
@[simp] theorem State.putCtx_at_grp (i : Nat) (c : Inst) (x : Nat) : (s.putCtx i c).grp x = s.grp x := rfl
@[simp] theorem State.putCtx_at_link (i : Nat) (c : Inst) (x : Nat) : (s.putCtx i c).link x = s.link x := rfl
@[simp] theorem State.putCtx_at_chan (i : Nat) (c : Inst) (x : Nat) : (s.putCtx i c).chan x = s.chan x := rfl
@[simp] theorem State.putCtx_at_farChan (i : Nat) (c : Inst) (x : Nat) : (s.putCtx i c).farChan x = s.farChan x := rfl
@[simp] theorem State.putCtx_at_line (i : Nat) (c : Inst) (x : Nat) : (s.putCtx i c).line x = s.line x := rfl
@[simp] theorem State.putCtx_at_transEntry (i : Nat) (c : Inst) (x : Nat) : (s.putCtx i c).transEntry x = s.transEntry x := rfl
@[simp] theorem State.putCtx_at_page (i : Nat) (c : Inst) (x : Nat) : (s.putCtx i c).page x = s.page x := rfl
@[simp] theorem State.putCtx_at_queue (i : Nat) (c : Inst) (x : Nat) : (s.putCtx i c).queue x = s.queue x := rfl
@[simp] theorem State.putCtx_at_ledger (i : Nat) (c : Inst) (x : Nat) : (s.putCtx i c).ledger x = s.ledger x := rfl
@[simp] theorem State.putCtx_at_isHeld (i : Nat) (c : Inst) (x : Nat) : (s.putCtx i c).isHeld x = s.isHeld x := rfl
@[simp] theorem State.putCtx_at_slot (i : Nat) (c : Inst) (x : Nat) : (s.putCtx i c).slot x = s.slot x := rfl
@[simp] theorem State.putCtx_tick (i : Nat) (c : Inst) : (s.putCtx i c).tick = s.tick := rfl

/-! ### onCtx -/

@[simp] theorem State.onCtx_pending (i : Nat) (f : Inst → Inst) : (s.onCtx i f).pending = s.pending := rfl
@[simp] theorem State.onCtx_now (i : Nat) (f : Inst → Inst) : (s.onCtx i f).now = s.now := rfl
@[simp] theorem State.onCtx_free (i : Nat) (f : Inst → Inst) : (s.onCtx i f).free = s.free := rfl
@[simp] theorem State.onCtx_pins (i : Nat) (f : Inst → Inst) : (s.onCtx i f).pins = s.pins := rfl
@[simp] theorem State.onCtx_strap (i : Nat) (f : Inst → Inst) : (s.onCtx i f).strap = s.strap := rfl
@[simp] theorem State.onCtx_mode (i : Nat) (f : Inst → Inst) : (s.onCtx i f).mode = s.mode := rfl
@[simp] theorem State.onCtx_rst (i : Nat) (f : Inst → Inst) : (s.onCtx i f).rst = s.rst := rfl
@[simp] theorem State.onCtx_tb (i : Nat) (f : Inst → Inst) : (s.onCtx i f).tb = s.tb := rfl
@[simp] theorem State.onCtx_pwr (i : Nat) (f : Inst → Inst) : (s.onCtx i f).pwr = s.pwr := rfl
@[simp] theorem State.onCtx_cfg (i : Nat) (f : Inst → Inst) : (s.onCtx i f).cfg = s.cfg := rfl
@[simp] theorem State.onCtx_lines (i : Nat) (f : Inst → Inst) : (s.onCtx i f).lines = s.lines := rfl
@[simp] theorem State.onCtx_src (i : Nat) (f : Inst → Inst) : (s.onCtx i f).src = s.src := rfl
@[simp] theorem State.onCtx_lost (i : Nat) (f : Inst → Inst) : (s.onCtx i f).lost = s.lost := rfl
@[simp] theorem State.onCtx_scrub (i : Nat) (f : Inst → Inst) : (s.onCtx i f).scrub = s.scrub := rfl
@[simp] theorem State.onCtx_scrubbed (i : Nat) (f : Inst → Inst) : (s.onCtx i f).scrubbed = s.scrubbed := rfl
@[simp] theorem State.onCtx_parked (i : Nat) (f : Inst → Inst) : (s.onCtx i f).parked = s.parked := rfl
@[simp] theorem State.onCtx_waiting (i : Nat) (f : Inst → Inst) : (s.onCtx i f).waiting = s.waiting := rfl
@[simp] theorem State.onCtx_house (i : Nat) (f : Inst → Inst) : (s.onCtx i f).house = s.house := rfl
@[simp] theorem State.onCtx_trans (i : Nat) (f : Inst → Inst) : (s.onCtx i f).trans = s.trans := rfl
@[simp] theorem State.onCtx_pages (i : Nat) (f : Inst → Inst) : (s.onCtx i f).pages = s.pages := rfl
@[simp] theorem State.onCtx_groups (i : Nat) (f : Inst → Inst) : (s.onCtx i f).groups = s.groups := rfl
@[simp] theorem State.onCtx_counts (i : Nat) (f : Inst → Inst) : (s.onCtx i f).counts = s.counts := rfl
@[simp] theorem State.onCtx_tgts (i : Nat) (f : Inst → Inst) : (s.onCtx i f).tgts = s.tgts := rfl
@[simp] theorem State.onCtx_links (i : Nat) (f : Inst → Inst) : (s.onCtx i f).links = s.links := rfl
@[simp] theorem State.onCtx_inch (i : Nat) (f : Inst → Inst) : (s.onCtx i f).inch = s.inch := rfl
@[simp] theorem State.onCtx_relays (i : Nat) (f : Inst → Inst) : (s.onCtx i f).relays = s.relays := rfl
@[simp] theorem State.onCtx_poolTop (i : Nat) (f : Inst → Inst) : (s.onCtx i f).poolTop = s.poolTop := rfl
@[simp] theorem State.onCtx_relayTop (i : Nat) (f : Inst → Inst) : (s.onCtx i f).relayTop = s.relayTop := rfl
@[simp] theorem State.onCtx_farch (i : Nat) (f : Inst → Inst) : (s.onCtx i f).farch = s.farch := rfl
@[simp] theorem State.onCtx_ldg (i : Nat) (f : Inst → Inst) : (s.onCtx i f).ldg = s.ldg := rfl
@[simp] theorem State.onCtx_sweeps (i : Nat) (f : Inst → Inst) : (s.onCtx i f).sweeps = s.sweeps := rfl
@[simp] theorem State.onCtx_clusters (i : Nat) (f : Inst → Inst) : (s.onCtx i f).clusters = s.clusters := rfl
@[simp] theorem State.onCtx_rank (i : Nat) (f : Inst → Inst) : (s.onCtx i f).rank = s.rank := rfl
@[simp] theorem State.onCtx_cmd (i : Nat) (f : Inst → Inst) : (s.onCtx i f).cmd = s.cmd := rfl
@[simp] theorem State.onCtx_acc (i : Nat) (f : Inst → Inst) : (s.onCtx i f).acc = s.acc := rfl
@[simp] theorem State.onCtx_bus (i : Nat) (f : Inst → Inst) : (s.onCtx i f).bus = s.bus := rfl
@[simp] theorem State.onCtx_flt (i : Nat) (f : Inst → Inst) : (s.onCtx i f).flt = s.flt := rfl
@[simp] theorem State.onCtx_rcd (i : Nat) (f : Inst → Inst) : (s.onCtx i f).rcd = s.rcd := rfl
@[simp] theorem State.onCtx_at_source (i : Nat) (f : Inst → Inst) (x : Nat) : (s.onCtx i f).source x = s.source x := rfl
@[simp] theorem State.onCtx_at_tgt (i : Nat) (f : Inst → Inst) (x : Nat) : (s.onCtx i f).tgt x = s.tgt x := rfl
@[simp] theorem State.onCtx_at_grp (i : Nat) (f : Inst → Inst) (x : Nat) : (s.onCtx i f).grp x = s.grp x := rfl
@[simp] theorem State.onCtx_at_link (i : Nat) (f : Inst → Inst) (x : Nat) : (s.onCtx i f).link x = s.link x := rfl
@[simp] theorem State.onCtx_at_chan (i : Nat) (f : Inst → Inst) (x : Nat) : (s.onCtx i f).chan x = s.chan x := rfl
@[simp] theorem State.onCtx_at_farChan (i : Nat) (f : Inst → Inst) (x : Nat) : (s.onCtx i f).farChan x = s.farChan x := rfl
@[simp] theorem State.onCtx_at_line (i : Nat) (f : Inst → Inst) (x : Nat) : (s.onCtx i f).line x = s.line x := rfl
@[simp] theorem State.onCtx_at_transEntry (i : Nat) (f : Inst → Inst) (x : Nat) : (s.onCtx i f).transEntry x = s.transEntry x := rfl
@[simp] theorem State.onCtx_at_page (i : Nat) (f : Inst → Inst) (x : Nat) : (s.onCtx i f).page x = s.page x := rfl
@[simp] theorem State.onCtx_at_queue (i : Nat) (f : Inst → Inst) (x : Nat) : (s.onCtx i f).queue x = s.queue x := rfl
@[simp] theorem State.onCtx_at_ledger (i : Nat) (f : Inst → Inst) (x : Nat) : (s.onCtx i f).ledger x = s.ledger x := rfl
@[simp] theorem State.onCtx_at_isHeld (i : Nat) (f : Inst → Inst) (x : Nat) : (s.onCtx i f).isHeld x = s.isHeld x := rfl
@[simp] theorem State.onCtx_at_slot (i : Nat) (f : Inst → Inst) (x : Nat) : (s.onCtx i f).slot x = s.slot x := rfl
@[simp] theorem State.onCtx_tick (i : Nat) (f : Inst → Inst) : (s.onCtx i f).tick = s.tick := rfl

/-! ### putTgt -/

@[simp] theorem State.putTgt_pending (t : Nat) (c : Tgt) : (s.putTgt t c).pending = s.pending := rfl
@[simp] theorem State.putTgt_now (t : Nat) (c : Tgt) : (s.putTgt t c).now = s.now := rfl
@[simp] theorem State.putTgt_free (t : Nat) (c : Tgt) : (s.putTgt t c).free = s.free := rfl
@[simp] theorem State.putTgt_pins (t : Nat) (c : Tgt) : (s.putTgt t c).pins = s.pins := rfl
@[simp] theorem State.putTgt_strap (t : Nat) (c : Tgt) : (s.putTgt t c).strap = s.strap := rfl
@[simp] theorem State.putTgt_mode (t : Nat) (c : Tgt) : (s.putTgt t c).mode = s.mode := rfl
@[simp] theorem State.putTgt_rst (t : Nat) (c : Tgt) : (s.putTgt t c).rst = s.rst := rfl
@[simp] theorem State.putTgt_tb (t : Nat) (c : Tgt) : (s.putTgt t c).tb = s.tb := rfl
@[simp] theorem State.putTgt_pwr (t : Nat) (c : Tgt) : (s.putTgt t c).pwr = s.pwr := rfl
@[simp] theorem State.putTgt_cfg (t : Nat) (c : Tgt) : (s.putTgt t c).cfg = s.cfg := rfl
@[simp] theorem State.putTgt_lines (t : Nat) (c : Tgt) : (s.putTgt t c).lines = s.lines := rfl
@[simp] theorem State.putTgt_src (t : Nat) (c : Tgt) : (s.putTgt t c).src = s.src := rfl
@[simp] theorem State.putTgt_lost (t : Nat) (c : Tgt) : (s.putTgt t c).lost = s.lost := rfl
@[simp] theorem State.putTgt_scrub (t : Nat) (c : Tgt) : (s.putTgt t c).scrub = s.scrub := rfl
@[simp] theorem State.putTgt_scrubbed (t : Nat) (c : Tgt) : (s.putTgt t c).scrubbed = s.scrubbed := rfl
@[simp] theorem State.putTgt_parked (t : Nat) (c : Tgt) : (s.putTgt t c).parked = s.parked := rfl
@[simp] theorem State.putTgt_waiting (t : Nat) (c : Tgt) : (s.putTgt t c).waiting = s.waiting := rfl
@[simp] theorem State.putTgt_house (t : Nat) (c : Tgt) : (s.putTgt t c).house = s.house := rfl
@[simp] theorem State.putTgt_trans (t : Nat) (c : Tgt) : (s.putTgt t c).trans = s.trans := rfl
@[simp] theorem State.putTgt_pages (t : Nat) (c : Tgt) : (s.putTgt t c).pages = s.pages := rfl
@[simp] theorem State.putTgt_groups (t : Nat) (c : Tgt) : (s.putTgt t c).groups = s.groups := rfl
@[simp] theorem State.putTgt_counts (t : Nat) (c : Tgt) : (s.putTgt t c).counts = s.counts := rfl
@[simp] theorem State.putTgt_insts (t : Nat) (c : Tgt) : (s.putTgt t c).insts = s.insts := rfl
@[simp] theorem State.putTgt_links (t : Nat) (c : Tgt) : (s.putTgt t c).links = s.links := rfl
@[simp] theorem State.putTgt_inch (t : Nat) (c : Tgt) : (s.putTgt t c).inch = s.inch := rfl
@[simp] theorem State.putTgt_relays (t : Nat) (c : Tgt) : (s.putTgt t c).relays = s.relays := rfl
@[simp] theorem State.putTgt_poolTop (t : Nat) (c : Tgt) : (s.putTgt t c).poolTop = s.poolTop := rfl
@[simp] theorem State.putTgt_relayTop (t : Nat) (c : Tgt) : (s.putTgt t c).relayTop = s.relayTop := rfl
@[simp] theorem State.putTgt_farch (t : Nat) (c : Tgt) : (s.putTgt t c).farch = s.farch := rfl
@[simp] theorem State.putTgt_ldg (t : Nat) (c : Tgt) : (s.putTgt t c).ldg = s.ldg := rfl
@[simp] theorem State.putTgt_sweeps (t : Nat) (c : Tgt) : (s.putTgt t c).sweeps = s.sweeps := rfl
@[simp] theorem State.putTgt_clusters (t : Nat) (c : Tgt) : (s.putTgt t c).clusters = s.clusters := rfl
@[simp] theorem State.putTgt_rank (t : Nat) (c : Tgt) : (s.putTgt t c).rank = s.rank := rfl
@[simp] theorem State.putTgt_cmd (t : Nat) (c : Tgt) : (s.putTgt t c).cmd = s.cmd := rfl
@[simp] theorem State.putTgt_acc (t : Nat) (c : Tgt) : (s.putTgt t c).acc = s.acc := rfl
@[simp] theorem State.putTgt_bus (t : Nat) (c : Tgt) : (s.putTgt t c).bus = s.bus := rfl
@[simp] theorem State.putTgt_flt (t : Nat) (c : Tgt) : (s.putTgt t c).flt = s.flt := rfl
@[simp] theorem State.putTgt_rcd (t : Nat) (c : Tgt) : (s.putTgt t c).rcd = s.rcd := rfl
@[simp] theorem State.putTgt_at_source (t : Nat) (c : Tgt) (x : Nat) : (s.putTgt t c).source x = s.source x := rfl
@[simp] theorem State.putTgt_at_ctx (t : Nat) (c : Tgt) (x : Nat) : (s.putTgt t c).ctx x = s.ctx x := rfl
@[simp] theorem State.putTgt_at_grp (t : Nat) (c : Tgt) (x : Nat) : (s.putTgt t c).grp x = s.grp x := rfl
@[simp] theorem State.putTgt_at_link (t : Nat) (c : Tgt) (x : Nat) : (s.putTgt t c).link x = s.link x := rfl
@[simp] theorem State.putTgt_at_chan (t : Nat) (c : Tgt) (x : Nat) : (s.putTgt t c).chan x = s.chan x := rfl
@[simp] theorem State.putTgt_at_farChan (t : Nat) (c : Tgt) (x : Nat) : (s.putTgt t c).farChan x = s.farChan x := rfl
@[simp] theorem State.putTgt_at_line (t : Nat) (c : Tgt) (x : Nat) : (s.putTgt t c).line x = s.line x := rfl
@[simp] theorem State.putTgt_at_transEntry (t : Nat) (c : Tgt) (x : Nat) : (s.putTgt t c).transEntry x = s.transEntry x := rfl
@[simp] theorem State.putTgt_at_page (t : Nat) (c : Tgt) (x : Nat) : (s.putTgt t c).page x = s.page x := rfl
@[simp] theorem State.putTgt_at_queue (t : Nat) (c : Tgt) (x : Nat) : (s.putTgt t c).queue x = s.queue x := rfl
@[simp] theorem State.putTgt_at_ledger (t : Nat) (c : Tgt) (x : Nat) : (s.putTgt t c).ledger x = s.ledger x := rfl
@[simp] theorem State.putTgt_at_isHeld (t : Nat) (c : Tgt) (x : Nat) : (s.putTgt t c).isHeld x = s.isHeld x := rfl
@[simp] theorem State.putTgt_at_slot (t : Nat) (c : Tgt) (x : Nat) : (s.putTgt t c).slot x = s.slot x := rfl
@[simp] theorem State.putTgt_tick (t : Nat) (c : Tgt) : (s.putTgt t c).tick = s.tick := rfl

/-! ### onTgt -/

@[simp] theorem State.onTgt_pending (t : Nat) (f : Tgt → Tgt) : (s.onTgt t f).pending = s.pending := rfl
@[simp] theorem State.onTgt_now (t : Nat) (f : Tgt → Tgt) : (s.onTgt t f).now = s.now := rfl
@[simp] theorem State.onTgt_free (t : Nat) (f : Tgt → Tgt) : (s.onTgt t f).free = s.free := rfl
@[simp] theorem State.onTgt_pins (t : Nat) (f : Tgt → Tgt) : (s.onTgt t f).pins = s.pins := rfl
@[simp] theorem State.onTgt_strap (t : Nat) (f : Tgt → Tgt) : (s.onTgt t f).strap = s.strap := rfl
@[simp] theorem State.onTgt_mode (t : Nat) (f : Tgt → Tgt) : (s.onTgt t f).mode = s.mode := rfl
@[simp] theorem State.onTgt_rst (t : Nat) (f : Tgt → Tgt) : (s.onTgt t f).rst = s.rst := rfl
@[simp] theorem State.onTgt_tb (t : Nat) (f : Tgt → Tgt) : (s.onTgt t f).tb = s.tb := rfl
@[simp] theorem State.onTgt_pwr (t : Nat) (f : Tgt → Tgt) : (s.onTgt t f).pwr = s.pwr := rfl
@[simp] theorem State.onTgt_cfg (t : Nat) (f : Tgt → Tgt) : (s.onTgt t f).cfg = s.cfg := rfl
@[simp] theorem State.onTgt_lines (t : Nat) (f : Tgt → Tgt) : (s.onTgt t f).lines = s.lines := rfl
@[simp] theorem State.onTgt_src (t : Nat) (f : Tgt → Tgt) : (s.onTgt t f).src = s.src := rfl
@[simp] theorem State.onTgt_lost (t : Nat) (f : Tgt → Tgt) : (s.onTgt t f).lost = s.lost := rfl
@[simp] theorem State.onTgt_scrub (t : Nat) (f : Tgt → Tgt) : (s.onTgt t f).scrub = s.scrub := rfl
@[simp] theorem State.onTgt_scrubbed (t : Nat) (f : Tgt → Tgt) : (s.onTgt t f).scrubbed = s.scrubbed := rfl
@[simp] theorem State.onTgt_parked (t : Nat) (f : Tgt → Tgt) : (s.onTgt t f).parked = s.parked := rfl
@[simp] theorem State.onTgt_waiting (t : Nat) (f : Tgt → Tgt) : (s.onTgt t f).waiting = s.waiting := rfl
@[simp] theorem State.onTgt_house (t : Nat) (f : Tgt → Tgt) : (s.onTgt t f).house = s.house := rfl
@[simp] theorem State.onTgt_trans (t : Nat) (f : Tgt → Tgt) : (s.onTgt t f).trans = s.trans := rfl
@[simp] theorem State.onTgt_pages (t : Nat) (f : Tgt → Tgt) : (s.onTgt t f).pages = s.pages := rfl
@[simp] theorem State.onTgt_groups (t : Nat) (f : Tgt → Tgt) : (s.onTgt t f).groups = s.groups := rfl
@[simp] theorem State.onTgt_counts (t : Nat) (f : Tgt → Tgt) : (s.onTgt t f).counts = s.counts := rfl
@[simp] theorem State.onTgt_insts (t : Nat) (f : Tgt → Tgt) : (s.onTgt t f).insts = s.insts := rfl
@[simp] theorem State.onTgt_links (t : Nat) (f : Tgt → Tgt) : (s.onTgt t f).links = s.links := rfl
@[simp] theorem State.onTgt_inch (t : Nat) (f : Tgt → Tgt) : (s.onTgt t f).inch = s.inch := rfl
@[simp] theorem State.onTgt_relays (t : Nat) (f : Tgt → Tgt) : (s.onTgt t f).relays = s.relays := rfl
@[simp] theorem State.onTgt_poolTop (t : Nat) (f : Tgt → Tgt) : (s.onTgt t f).poolTop = s.poolTop := rfl
@[simp] theorem State.onTgt_relayTop (t : Nat) (f : Tgt → Tgt) : (s.onTgt t f).relayTop = s.relayTop := rfl
@[simp] theorem State.onTgt_farch (t : Nat) (f : Tgt → Tgt) : (s.onTgt t f).farch = s.farch := rfl
@[simp] theorem State.onTgt_ldg (t : Nat) (f : Tgt → Tgt) : (s.onTgt t f).ldg = s.ldg := rfl
@[simp] theorem State.onTgt_sweeps (t : Nat) (f : Tgt → Tgt) : (s.onTgt t f).sweeps = s.sweeps := rfl
@[simp] theorem State.onTgt_clusters (t : Nat) (f : Tgt → Tgt) : (s.onTgt t f).clusters = s.clusters := rfl
@[simp] theorem State.onTgt_rank (t : Nat) (f : Tgt → Tgt) : (s.onTgt t f).rank = s.rank := rfl
@[simp] theorem State.onTgt_cmd (t : Nat) (f : Tgt → Tgt) : (s.onTgt t f).cmd = s.cmd := rfl
@[simp] theorem State.onTgt_acc (t : Nat) (f : Tgt → Tgt) : (s.onTgt t f).acc = s.acc := rfl
@[simp] theorem State.onTgt_bus (t : Nat) (f : Tgt → Tgt) : (s.onTgt t f).bus = s.bus := rfl
@[simp] theorem State.onTgt_flt (t : Nat) (f : Tgt → Tgt) : (s.onTgt t f).flt = s.flt := rfl
@[simp] theorem State.onTgt_rcd (t : Nat) (f : Tgt → Tgt) : (s.onTgt t f).rcd = s.rcd := rfl
@[simp] theorem State.onTgt_at_source (t : Nat) (f : Tgt → Tgt) (x : Nat) : (s.onTgt t f).source x = s.source x := rfl
@[simp] theorem State.onTgt_at_ctx (t : Nat) (f : Tgt → Tgt) (x : Nat) : (s.onTgt t f).ctx x = s.ctx x := rfl
@[simp] theorem State.onTgt_at_grp (t : Nat) (f : Tgt → Tgt) (x : Nat) : (s.onTgt t f).grp x = s.grp x := rfl
@[simp] theorem State.onTgt_at_link (t : Nat) (f : Tgt → Tgt) (x : Nat) : (s.onTgt t f).link x = s.link x := rfl
@[simp] theorem State.onTgt_at_chan (t : Nat) (f : Tgt → Tgt) (x : Nat) : (s.onTgt t f).chan x = s.chan x := rfl
@[simp] theorem State.onTgt_at_farChan (t : Nat) (f : Tgt → Tgt) (x : Nat) : (s.onTgt t f).farChan x = s.farChan x := rfl
@[simp] theorem State.onTgt_at_line (t : Nat) (f : Tgt → Tgt) (x : Nat) : (s.onTgt t f).line x = s.line x := rfl
@[simp] theorem State.onTgt_at_transEntry (t : Nat) (f : Tgt → Tgt) (x : Nat) : (s.onTgt t f).transEntry x = s.transEntry x := rfl
@[simp] theorem State.onTgt_at_page (t : Nat) (f : Tgt → Tgt) (x : Nat) : (s.onTgt t f).page x = s.page x := rfl
@[simp] theorem State.onTgt_at_queue (t : Nat) (f : Tgt → Tgt) (x : Nat) : (s.onTgt t f).queue x = s.queue x := rfl
@[simp] theorem State.onTgt_at_ledger (t : Nat) (f : Tgt → Tgt) (x : Nat) : (s.onTgt t f).ledger x = s.ledger x := rfl
@[simp] theorem State.onTgt_at_isHeld (t : Nat) (f : Tgt → Tgt) (x : Nat) : (s.onTgt t f).isHeld x = s.isHeld x := rfl
@[simp] theorem State.onTgt_at_slot (t : Nat) (f : Tgt → Tgt) (x : Nat) : (s.onTgt t f).slot x = s.slot x := rfl
@[simp] theorem State.onTgt_tick (t : Nat) (f : Tgt → Tgt) : (s.onTgt t f).tick = s.tick := rfl

/-! ### onPort -/

@[simp] theorem State.onPort_pending (t : Nat) (f : Port → Port) : (s.onPort t f).pending = s.pending := rfl
@[simp] theorem State.onPort_now (t : Nat) (f : Port → Port) : (s.onPort t f).now = s.now := rfl
@[simp] theorem State.onPort_free (t : Nat) (f : Port → Port) : (s.onPort t f).free = s.free := rfl
@[simp] theorem State.onPort_pins (t : Nat) (f : Port → Port) : (s.onPort t f).pins = s.pins := rfl
@[simp] theorem State.onPort_strap (t : Nat) (f : Port → Port) : (s.onPort t f).strap = s.strap := rfl
@[simp] theorem State.onPort_mode (t : Nat) (f : Port → Port) : (s.onPort t f).mode = s.mode := rfl
@[simp] theorem State.onPort_rst (t : Nat) (f : Port → Port) : (s.onPort t f).rst = s.rst := rfl
@[simp] theorem State.onPort_tb (t : Nat) (f : Port → Port) : (s.onPort t f).tb = s.tb := rfl
@[simp] theorem State.onPort_pwr (t : Nat) (f : Port → Port) : (s.onPort t f).pwr = s.pwr := rfl
@[simp] theorem State.onPort_cfg (t : Nat) (f : Port → Port) : (s.onPort t f).cfg = s.cfg := rfl
@[simp] theorem State.onPort_lines (t : Nat) (f : Port → Port) : (s.onPort t f).lines = s.lines := rfl
@[simp] theorem State.onPort_src (t : Nat) (f : Port → Port) : (s.onPort t f).src = s.src := rfl
@[simp] theorem State.onPort_lost (t : Nat) (f : Port → Port) : (s.onPort t f).lost = s.lost := rfl
@[simp] theorem State.onPort_scrub (t : Nat) (f : Port → Port) : (s.onPort t f).scrub = s.scrub := rfl
@[simp] theorem State.onPort_scrubbed (t : Nat) (f : Port → Port) : (s.onPort t f).scrubbed = s.scrubbed := rfl
@[simp] theorem State.onPort_parked (t : Nat) (f : Port → Port) : (s.onPort t f).parked = s.parked := rfl
@[simp] theorem State.onPort_waiting (t : Nat) (f : Port → Port) : (s.onPort t f).waiting = s.waiting := rfl
@[simp] theorem State.onPort_house (t : Nat) (f : Port → Port) : (s.onPort t f).house = s.house := rfl
@[simp] theorem State.onPort_trans (t : Nat) (f : Port → Port) : (s.onPort t f).trans = s.trans := rfl
@[simp] theorem State.onPort_pages (t : Nat) (f : Port → Port) : (s.onPort t f).pages = s.pages := rfl
@[simp] theorem State.onPort_groups (t : Nat) (f : Port → Port) : (s.onPort t f).groups = s.groups := rfl
@[simp] theorem State.onPort_counts (t : Nat) (f : Port → Port) : (s.onPort t f).counts = s.counts := rfl
@[simp] theorem State.onPort_insts (t : Nat) (f : Port → Port) : (s.onPort t f).insts = s.insts := rfl
@[simp] theorem State.onPort_links (t : Nat) (f : Port → Port) : (s.onPort t f).links = s.links := rfl
@[simp] theorem State.onPort_inch (t : Nat) (f : Port → Port) : (s.onPort t f).inch = s.inch := rfl
@[simp] theorem State.onPort_relays (t : Nat) (f : Port → Port) : (s.onPort t f).relays = s.relays := rfl
@[simp] theorem State.onPort_poolTop (t : Nat) (f : Port → Port) : (s.onPort t f).poolTop = s.poolTop := rfl
@[simp] theorem State.onPort_relayTop (t : Nat) (f : Port → Port) : (s.onPort t f).relayTop = s.relayTop := rfl
@[simp] theorem State.onPort_farch (t : Nat) (f : Port → Port) : (s.onPort t f).farch = s.farch := rfl
@[simp] theorem State.onPort_ldg (t : Nat) (f : Port → Port) : (s.onPort t f).ldg = s.ldg := rfl
@[simp] theorem State.onPort_sweeps (t : Nat) (f : Port → Port) : (s.onPort t f).sweeps = s.sweeps := rfl
@[simp] theorem State.onPort_clusters (t : Nat) (f : Port → Port) : (s.onPort t f).clusters = s.clusters := rfl
@[simp] theorem State.onPort_rank (t : Nat) (f : Port → Port) : (s.onPort t f).rank = s.rank := rfl
@[simp] theorem State.onPort_cmd (t : Nat) (f : Port → Port) : (s.onPort t f).cmd = s.cmd := rfl
@[simp] theorem State.onPort_acc (t : Nat) (f : Port → Port) : (s.onPort t f).acc = s.acc := rfl
@[simp] theorem State.onPort_bus (t : Nat) (f : Port → Port) : (s.onPort t f).bus = s.bus := rfl
@[simp] theorem State.onPort_flt (t : Nat) (f : Port → Port) : (s.onPort t f).flt = s.flt := rfl
@[simp] theorem State.onPort_rcd (t : Nat) (f : Port → Port) : (s.onPort t f).rcd = s.rcd := rfl
@[simp] theorem State.onPort_at_source (t : Nat) (f : Port → Port) (x : Nat) : (s.onPort t f).source x = s.source x := rfl
@[simp] theorem State.onPort_at_ctx (t : Nat) (f : Port → Port) (x : Nat) : (s.onPort t f).ctx x = s.ctx x := rfl
@[simp] theorem State.onPort_at_grp (t : Nat) (f : Port → Port) (x : Nat) : (s.onPort t f).grp x = s.grp x := rfl
@[simp] theorem State.onPort_at_link (t : Nat) (f : Port → Port) (x : Nat) : (s.onPort t f).link x = s.link x := rfl
@[simp] theorem State.onPort_at_chan (t : Nat) (f : Port → Port) (x : Nat) : (s.onPort t f).chan x = s.chan x := rfl
@[simp] theorem State.onPort_at_farChan (t : Nat) (f : Port → Port) (x : Nat) : (s.onPort t f).farChan x = s.farChan x := rfl
@[simp] theorem State.onPort_at_line (t : Nat) (f : Port → Port) (x : Nat) : (s.onPort t f).line x = s.line x := rfl
@[simp] theorem State.onPort_at_transEntry (t : Nat) (f : Port → Port) (x : Nat) : (s.onPort t f).transEntry x = s.transEntry x := rfl
@[simp] theorem State.onPort_at_page (t : Nat) (f : Port → Port) (x : Nat) : (s.onPort t f).page x = s.page x := rfl
@[simp] theorem State.onPort_at_queue (t : Nat) (f : Port → Port) (x : Nat) : (s.onPort t f).queue x = s.queue x := rfl
@[simp] theorem State.onPort_at_ledger (t : Nat) (f : Port → Port) (x : Nat) : (s.onPort t f).ledger x = s.ledger x := rfl
@[simp] theorem State.onPort_at_isHeld (t : Nat) (f : Port → Port) (x : Nat) : (s.onPort t f).isHeld x = s.isHeld x := rfl
@[simp] theorem State.onPort_at_slot (t : Nat) (f : Port → Port) (x : Nat) : (s.onPort t f).slot x = s.slot x := rfl
@[simp] theorem State.onPort_tick (t : Nat) (f : Port → Port) : (s.onPort t f).tick = s.tick := rfl

/-! ### onFar -/

@[simp] theorem State.onFar_pending (t : Nat) (f : Far → Far) : (s.onFar t f).pending = s.pending := rfl
@[simp] theorem State.onFar_now (t : Nat) (f : Far → Far) : (s.onFar t f).now = s.now := rfl
@[simp] theorem State.onFar_free (t : Nat) (f : Far → Far) : (s.onFar t f).free = s.free := rfl
@[simp] theorem State.onFar_pins (t : Nat) (f : Far → Far) : (s.onFar t f).pins = s.pins := rfl
@[simp] theorem State.onFar_strap (t : Nat) (f : Far → Far) : (s.onFar t f).strap = s.strap := rfl
@[simp] theorem State.onFar_mode (t : Nat) (f : Far → Far) : (s.onFar t f).mode = s.mode := rfl
@[simp] theorem State.onFar_rst (t : Nat) (f : Far → Far) : (s.onFar t f).rst = s.rst := rfl
@[simp] theorem State.onFar_tb (t : Nat) (f : Far → Far) : (s.onFar t f).tb = s.tb := rfl
@[simp] theorem State.onFar_pwr (t : Nat) (f : Far → Far) : (s.onFar t f).pwr = s.pwr := rfl
@[simp] theorem State.onFar_cfg (t : Nat) (f : Far → Far) : (s.onFar t f).cfg = s.cfg := rfl
@[simp] theorem State.onFar_lines (t : Nat) (f : Far → Far) : (s.onFar t f).lines = s.lines := rfl
@[simp] theorem State.onFar_src (t : Nat) (f : Far → Far) : (s.onFar t f).src = s.src := rfl
@[simp] theorem State.onFar_lost (t : Nat) (f : Far → Far) : (s.onFar t f).lost = s.lost := rfl
@[simp] theorem State.onFar_scrub (t : Nat) (f : Far → Far) : (s.onFar t f).scrub = s.scrub := rfl
@[simp] theorem State.onFar_scrubbed (t : Nat) (f : Far → Far) : (s.onFar t f).scrubbed = s.scrubbed := rfl
@[simp] theorem State.onFar_parked (t : Nat) (f : Far → Far) : (s.onFar t f).parked = s.parked := rfl
@[simp] theorem State.onFar_waiting (t : Nat) (f : Far → Far) : (s.onFar t f).waiting = s.waiting := rfl
@[simp] theorem State.onFar_house (t : Nat) (f : Far → Far) : (s.onFar t f).house = s.house := rfl
@[simp] theorem State.onFar_trans (t : Nat) (f : Far → Far) : (s.onFar t f).trans = s.trans := rfl
@[simp] theorem State.onFar_pages (t : Nat) (f : Far → Far) : (s.onFar t f).pages = s.pages := rfl
@[simp] theorem State.onFar_groups (t : Nat) (f : Far → Far) : (s.onFar t f).groups = s.groups := rfl
@[simp] theorem State.onFar_counts (t : Nat) (f : Far → Far) : (s.onFar t f).counts = s.counts := rfl
@[simp] theorem State.onFar_insts (t : Nat) (f : Far → Far) : (s.onFar t f).insts = s.insts := rfl
@[simp] theorem State.onFar_links (t : Nat) (f : Far → Far) : (s.onFar t f).links = s.links := rfl
@[simp] theorem State.onFar_inch (t : Nat) (f : Far → Far) : (s.onFar t f).inch = s.inch := rfl
@[simp] theorem State.onFar_relays (t : Nat) (f : Far → Far) : (s.onFar t f).relays = s.relays := rfl
@[simp] theorem State.onFar_poolTop (t : Nat) (f : Far → Far) : (s.onFar t f).poolTop = s.poolTop := rfl
@[simp] theorem State.onFar_relayTop (t : Nat) (f : Far → Far) : (s.onFar t f).relayTop = s.relayTop := rfl
@[simp] theorem State.onFar_farch (t : Nat) (f : Far → Far) : (s.onFar t f).farch = s.farch := rfl
@[simp] theorem State.onFar_ldg (t : Nat) (f : Far → Far) : (s.onFar t f).ldg = s.ldg := rfl
@[simp] theorem State.onFar_sweeps (t : Nat) (f : Far → Far) : (s.onFar t f).sweeps = s.sweeps := rfl
@[simp] theorem State.onFar_clusters (t : Nat) (f : Far → Far) : (s.onFar t f).clusters = s.clusters := rfl
@[simp] theorem State.onFar_rank (t : Nat) (f : Far → Far) : (s.onFar t f).rank = s.rank := rfl
@[simp] theorem State.onFar_cmd (t : Nat) (f : Far → Far) : (s.onFar t f).cmd = s.cmd := rfl
@[simp] theorem State.onFar_acc (t : Nat) (f : Far → Far) : (s.onFar t f).acc = s.acc := rfl
@[simp] theorem State.onFar_bus (t : Nat) (f : Far → Far) : (s.onFar t f).bus = s.bus := rfl
@[simp] theorem State.onFar_flt (t : Nat) (f : Far → Far) : (s.onFar t f).flt = s.flt := rfl
@[simp] theorem State.onFar_rcd (t : Nat) (f : Far → Far) : (s.onFar t f).rcd = s.rcd := rfl
@[simp] theorem State.onFar_at_source (t : Nat) (f : Far → Far) (x : Nat) : (s.onFar t f).source x = s.source x := rfl
@[simp] theorem State.onFar_at_ctx (t : Nat) (f : Far → Far) (x : Nat) : (s.onFar t f).ctx x = s.ctx x := rfl
@[simp] theorem State.onFar_at_grp (t : Nat) (f : Far → Far) (x : Nat) : (s.onFar t f).grp x = s.grp x := rfl
@[simp] theorem State.onFar_at_link (t : Nat) (f : Far → Far) (x : Nat) : (s.onFar t f).link x = s.link x := rfl
@[simp] theorem State.onFar_at_chan (t : Nat) (f : Far → Far) (x : Nat) : (s.onFar t f).chan x = s.chan x := rfl
@[simp] theorem State.onFar_at_farChan (t : Nat) (f : Far → Far) (x : Nat) : (s.onFar t f).farChan x = s.farChan x := rfl
@[simp] theorem State.onFar_at_line (t : Nat) (f : Far → Far) (x : Nat) : (s.onFar t f).line x = s.line x := rfl
@[simp] theorem State.onFar_at_transEntry (t : Nat) (f : Far → Far) (x : Nat) : (s.onFar t f).transEntry x = s.transEntry x := rfl
@[simp] theorem State.onFar_at_page (t : Nat) (f : Far → Far) (x : Nat) : (s.onFar t f).page x = s.page x := rfl
@[simp] theorem State.onFar_at_queue (t : Nat) (f : Far → Far) (x : Nat) : (s.onFar t f).queue x = s.queue x := rfl
@[simp] theorem State.onFar_at_ledger (t : Nat) (f : Far → Far) (x : Nat) : (s.onFar t f).ledger x = s.ledger x := rfl
@[simp] theorem State.onFar_at_isHeld (t : Nat) (f : Far → Far) (x : Nat) : (s.onFar t f).isHeld x = s.isHeld x := rfl
@[simp] theorem State.onFar_at_slot (t : Nat) (f : Far → Far) (x : Nat) : (s.onFar t f).slot x = s.slot x := rfl
@[simp] theorem State.onFar_tick (t : Nat) (f : Far → Far) : (s.onFar t f).tick = s.tick := rfl

/-! ### linkTail -/

@[simp] theorem State.linkTail_pending (t p e : Nat) : (s.linkTail t p e).pending = s.pending := rfl
@[simp] theorem State.linkTail_now (t p e : Nat) : (s.linkTail t p e).now = s.now := rfl
@[simp] theorem State.linkTail_free (t p e : Nat) : (s.linkTail t p e).free = s.free := rfl
@[simp] theorem State.linkTail_pins (t p e : Nat) : (s.linkTail t p e).pins = s.pins := rfl
@[simp] theorem State.linkTail_strap (t p e : Nat) : (s.linkTail t p e).strap = s.strap := rfl
@[simp] theorem State.linkTail_mode (t p e : Nat) : (s.linkTail t p e).mode = s.mode := rfl
@[simp] theorem State.linkTail_rst (t p e : Nat) : (s.linkTail t p e).rst = s.rst := rfl
@[simp] theorem State.linkTail_tb (t p e : Nat) : (s.linkTail t p e).tb = s.tb := rfl
@[simp] theorem State.linkTail_pwr (t p e : Nat) : (s.linkTail t p e).pwr = s.pwr := rfl
@[simp] theorem State.linkTail_cfg (t p e : Nat) : (s.linkTail t p e).cfg = s.cfg := rfl
@[simp] theorem State.linkTail_lines (t p e : Nat) : (s.linkTail t p e).lines = s.lines := rfl
@[simp] theorem State.linkTail_src (t p e : Nat) : (s.linkTail t p e).src = s.src := rfl
@[simp] theorem State.linkTail_lost (t p e : Nat) : (s.linkTail t p e).lost = s.lost := rfl
@[simp] theorem State.linkTail_scrub (t p e : Nat) : (s.linkTail t p e).scrub = s.scrub := rfl
@[simp] theorem State.linkTail_scrubbed (t p e : Nat) : (s.linkTail t p e).scrubbed = s.scrubbed := rfl
@[simp] theorem State.linkTail_parked (t p e : Nat) : (s.linkTail t p e).parked = s.parked := rfl
@[simp] theorem State.linkTail_waiting (t p e : Nat) : (s.linkTail t p e).waiting = s.waiting := rfl
@[simp] theorem State.linkTail_house (t p e : Nat) : (s.linkTail t p e).house = s.house := rfl
@[simp] theorem State.linkTail_trans (t p e : Nat) : (s.linkTail t p e).trans = s.trans := rfl
@[simp] theorem State.linkTail_pages (t p e : Nat) : (s.linkTail t p e).pages = s.pages := rfl
@[simp] theorem State.linkTail_groups (t p e : Nat) : (s.linkTail t p e).groups = s.groups := rfl
@[simp] theorem State.linkTail_counts (t p e : Nat) : (s.linkTail t p e).counts = s.counts := rfl
@[simp] theorem State.linkTail_insts (t p e : Nat) : (s.linkTail t p e).insts = s.insts := rfl
@[simp] theorem State.linkTail_links (t p e : Nat) : (s.linkTail t p e).links = s.links := rfl
@[simp] theorem State.linkTail_inch (t p e : Nat) : (s.linkTail t p e).inch = s.inch := rfl
@[simp] theorem State.linkTail_relays (t p e : Nat) : (s.linkTail t p e).relays = s.relays := rfl
@[simp] theorem State.linkTail_poolTop (t p e : Nat) : (s.linkTail t p e).poolTop = s.poolTop := rfl
@[simp] theorem State.linkTail_relayTop (t p e : Nat) : (s.linkTail t p e).relayTop = s.relayTop := rfl
@[simp] theorem State.linkTail_farch (t p e : Nat) : (s.linkTail t p e).farch = s.farch := rfl
@[simp] theorem State.linkTail_ldg (t p e : Nat) : (s.linkTail t p e).ldg = s.ldg := rfl
@[simp] theorem State.linkTail_sweeps (t p e : Nat) : (s.linkTail t p e).sweeps = s.sweeps := rfl
@[simp] theorem State.linkTail_clusters (t p e : Nat) : (s.linkTail t p e).clusters = s.clusters := rfl
@[simp] theorem State.linkTail_rank (t p e : Nat) : (s.linkTail t p e).rank = s.rank := rfl
@[simp] theorem State.linkTail_cmd (t p e : Nat) : (s.linkTail t p e).cmd = s.cmd := rfl
@[simp] theorem State.linkTail_acc (t p e : Nat) : (s.linkTail t p e).acc = s.acc := rfl
@[simp] theorem State.linkTail_bus (t p e : Nat) : (s.linkTail t p e).bus = s.bus := rfl
@[simp] theorem State.linkTail_flt (t p e : Nat) : (s.linkTail t p e).flt = s.flt := rfl
@[simp] theorem State.linkTail_rcd (t p e : Nat) : (s.linkTail t p e).rcd = s.rcd := rfl
@[simp] theorem State.linkTail_at_source (t p e : Nat) (x : Nat) : (s.linkTail t p e).source x = s.source x := rfl
@[simp] theorem State.linkTail_at_ctx (t p e : Nat) (x : Nat) : (s.linkTail t p e).ctx x = s.ctx x := rfl
@[simp] theorem State.linkTail_at_grp (t p e : Nat) (x : Nat) : (s.linkTail t p e).grp x = s.grp x := rfl
@[simp] theorem State.linkTail_at_link (t p e : Nat) (x : Nat) : (s.linkTail t p e).link x = s.link x := rfl
@[simp] theorem State.linkTail_at_chan (t p e : Nat) (x : Nat) : (s.linkTail t p e).chan x = s.chan x := rfl
@[simp] theorem State.linkTail_at_farChan (t p e : Nat) (x : Nat) : (s.linkTail t p e).farChan x = s.farChan x := rfl
@[simp] theorem State.linkTail_at_line (t p e : Nat) (x : Nat) : (s.linkTail t p e).line x = s.line x := rfl
@[simp] theorem State.linkTail_at_transEntry (t p e : Nat) (x : Nat) : (s.linkTail t p e).transEntry x = s.transEntry x := rfl
@[simp] theorem State.linkTail_at_page (t p e : Nat) (x : Nat) : (s.linkTail t p e).page x = s.page x := rfl
@[simp] theorem State.linkTail_at_queue (t p e : Nat) (x : Nat) : (s.linkTail t p e).queue x = s.queue x := rfl
@[simp] theorem State.linkTail_at_ledger (t p e : Nat) (x : Nat) : (s.linkTail t p e).ledger x = s.ledger x := rfl
@[simp] theorem State.linkTail_at_isHeld (t p e : Nat) (x : Nat) : (s.linkTail t p e).isHeld x = s.isHeld x := rfl
@[simp] theorem State.linkTail_at_slot (t p e : Nat) (x : Nat) : (s.linkTail t p e).slot x = s.slot x := rfl
@[simp] theorem State.linkTail_tick (t p e : Nat) : (s.linkTail t p e).tick = s.tick := rfl

/-! ### unlinkLevel -/

@[simp] theorem State.unlinkLevel_pending (t p e : Nat) : (s.unlinkLevel t p e).pending = s.pending := rfl
@[simp] theorem State.unlinkLevel_now (t p e : Nat) : (s.unlinkLevel t p e).now = s.now := rfl
@[simp] theorem State.unlinkLevel_free (t p e : Nat) : (s.unlinkLevel t p e).free = s.free := rfl
@[simp] theorem State.unlinkLevel_pins (t p e : Nat) : (s.unlinkLevel t p e).pins = s.pins := rfl
@[simp] theorem State.unlinkLevel_strap (t p e : Nat) : (s.unlinkLevel t p e).strap = s.strap := rfl
@[simp] theorem State.unlinkLevel_mode (t p e : Nat) : (s.unlinkLevel t p e).mode = s.mode := rfl
@[simp] theorem State.unlinkLevel_rst (t p e : Nat) : (s.unlinkLevel t p e).rst = s.rst := rfl
@[simp] theorem State.unlinkLevel_tb (t p e : Nat) : (s.unlinkLevel t p e).tb = s.tb := rfl
@[simp] theorem State.unlinkLevel_pwr (t p e : Nat) : (s.unlinkLevel t p e).pwr = s.pwr := rfl
@[simp] theorem State.unlinkLevel_cfg (t p e : Nat) : (s.unlinkLevel t p e).cfg = s.cfg := rfl
@[simp] theorem State.unlinkLevel_lines (t p e : Nat) : (s.unlinkLevel t p e).lines = s.lines := rfl
@[simp] theorem State.unlinkLevel_src (t p e : Nat) : (s.unlinkLevel t p e).src = s.src := rfl
@[simp] theorem State.unlinkLevel_lost (t p e : Nat) : (s.unlinkLevel t p e).lost = s.lost := rfl
@[simp] theorem State.unlinkLevel_scrub (t p e : Nat) : (s.unlinkLevel t p e).scrub = s.scrub := rfl
@[simp] theorem State.unlinkLevel_scrubbed (t p e : Nat) : (s.unlinkLevel t p e).scrubbed = s.scrubbed := rfl
@[simp] theorem State.unlinkLevel_parked (t p e : Nat) : (s.unlinkLevel t p e).parked = s.parked := rfl
@[simp] theorem State.unlinkLevel_waiting (t p e : Nat) : (s.unlinkLevel t p e).waiting = s.waiting := rfl
@[simp] theorem State.unlinkLevel_house (t p e : Nat) : (s.unlinkLevel t p e).house = s.house := rfl
@[simp] theorem State.unlinkLevel_trans (t p e : Nat) : (s.unlinkLevel t p e).trans = s.trans := rfl
@[simp] theorem State.unlinkLevel_pages (t p e : Nat) : (s.unlinkLevel t p e).pages = s.pages := rfl
@[simp] theorem State.unlinkLevel_groups (t p e : Nat) : (s.unlinkLevel t p e).groups = s.groups := rfl
@[simp] theorem State.unlinkLevel_counts (t p e : Nat) : (s.unlinkLevel t p e).counts = s.counts := rfl
@[simp] theorem State.unlinkLevel_insts (t p e : Nat) : (s.unlinkLevel t p e).insts = s.insts := rfl
@[simp] theorem State.unlinkLevel_links (t p e : Nat) : (s.unlinkLevel t p e).links = s.links := rfl
@[simp] theorem State.unlinkLevel_inch (t p e : Nat) : (s.unlinkLevel t p e).inch = s.inch := rfl
@[simp] theorem State.unlinkLevel_relays (t p e : Nat) : (s.unlinkLevel t p e).relays = s.relays := rfl
@[simp] theorem State.unlinkLevel_poolTop (t p e : Nat) : (s.unlinkLevel t p e).poolTop = s.poolTop := rfl
@[simp] theorem State.unlinkLevel_relayTop (t p e : Nat) : (s.unlinkLevel t p e).relayTop = s.relayTop := rfl
@[simp] theorem State.unlinkLevel_farch (t p e : Nat) : (s.unlinkLevel t p e).farch = s.farch := rfl
@[simp] theorem State.unlinkLevel_ldg (t p e : Nat) : (s.unlinkLevel t p e).ldg = s.ldg := rfl
@[simp] theorem State.unlinkLevel_sweeps (t p e : Nat) : (s.unlinkLevel t p e).sweeps = s.sweeps := rfl
@[simp] theorem State.unlinkLevel_clusters (t p e : Nat) : (s.unlinkLevel t p e).clusters = s.clusters := rfl
@[simp] theorem State.unlinkLevel_rank (t p e : Nat) : (s.unlinkLevel t p e).rank = s.rank := rfl
@[simp] theorem State.unlinkLevel_cmd (t p e : Nat) : (s.unlinkLevel t p e).cmd = s.cmd := rfl
@[simp] theorem State.unlinkLevel_acc (t p e : Nat) : (s.unlinkLevel t p e).acc = s.acc := rfl
@[simp] theorem State.unlinkLevel_bus (t p e : Nat) : (s.unlinkLevel t p e).bus = s.bus := rfl
@[simp] theorem State.unlinkLevel_flt (t p e : Nat) : (s.unlinkLevel t p e).flt = s.flt := rfl
@[simp] theorem State.unlinkLevel_rcd (t p e : Nat) : (s.unlinkLevel t p e).rcd = s.rcd := rfl
@[simp] theorem State.unlinkLevel_at_source (t p e : Nat) (x : Nat) : (s.unlinkLevel t p e).source x = s.source x := rfl
@[simp] theorem State.unlinkLevel_at_ctx (t p e : Nat) (x : Nat) : (s.unlinkLevel t p e).ctx x = s.ctx x := rfl
@[simp] theorem State.unlinkLevel_at_grp (t p e : Nat) (x : Nat) : (s.unlinkLevel t p e).grp x = s.grp x := rfl
@[simp] theorem State.unlinkLevel_at_link (t p e : Nat) (x : Nat) : (s.unlinkLevel t p e).link x = s.link x := rfl
@[simp] theorem State.unlinkLevel_at_chan (t p e : Nat) (x : Nat) : (s.unlinkLevel t p e).chan x = s.chan x := rfl
@[simp] theorem State.unlinkLevel_at_farChan (t p e : Nat) (x : Nat) : (s.unlinkLevel t p e).farChan x = s.farChan x := rfl
@[simp] theorem State.unlinkLevel_at_line (t p e : Nat) (x : Nat) : (s.unlinkLevel t p e).line x = s.line x := rfl
@[simp] theorem State.unlinkLevel_at_transEntry (t p e : Nat) (x : Nat) : (s.unlinkLevel t p e).transEntry x = s.transEntry x := rfl
@[simp] theorem State.unlinkLevel_at_page (t p e : Nat) (x : Nat) : (s.unlinkLevel t p e).page x = s.page x := rfl
@[simp] theorem State.unlinkLevel_at_queue (t p e : Nat) (x : Nat) : (s.unlinkLevel t p e).queue x = s.queue x := rfl
@[simp] theorem State.unlinkLevel_at_ledger (t p e : Nat) (x : Nat) : (s.unlinkLevel t p e).ledger x = s.ledger x := rfl
@[simp] theorem State.unlinkLevel_at_isHeld (t p e : Nat) (x : Nat) : (s.unlinkLevel t p e).isHeld x = s.isHeld x := rfl
@[simp] theorem State.unlinkLevel_at_slot (t p e : Nat) (x : Nat) : (s.unlinkLevel t p e).slot x = s.slot x := rfl
@[simp] theorem State.unlinkLevel_tick (t p e : Nat) : (s.unlinkLevel t p e).tick = s.tick := rfl

/-! ### putGrp -/

@[simp] theorem State.putGrp_pending (g : Nat) (c : Group) : (s.putGrp g c).pending = s.pending := rfl
@[simp] theorem State.putGrp_now (g : Nat) (c : Group) : (s.putGrp g c).now = s.now := rfl
@[simp] theorem State.putGrp_free (g : Nat) (c : Group) : (s.putGrp g c).free = s.free := rfl
@[simp] theorem State.putGrp_pins (g : Nat) (c : Group) : (s.putGrp g c).pins = s.pins := rfl
@[simp] theorem State.putGrp_strap (g : Nat) (c : Group) : (s.putGrp g c).strap = s.strap := rfl
@[simp] theorem State.putGrp_mode (g : Nat) (c : Group) : (s.putGrp g c).mode = s.mode := rfl
@[simp] theorem State.putGrp_rst (g : Nat) (c : Group) : (s.putGrp g c).rst = s.rst := rfl
@[simp] theorem State.putGrp_tb (g : Nat) (c : Group) : (s.putGrp g c).tb = s.tb := rfl
@[simp] theorem State.putGrp_pwr (g : Nat) (c : Group) : (s.putGrp g c).pwr = s.pwr := rfl
@[simp] theorem State.putGrp_cfg (g : Nat) (c : Group) : (s.putGrp g c).cfg = s.cfg := rfl
@[simp] theorem State.putGrp_lines (g : Nat) (c : Group) : (s.putGrp g c).lines = s.lines := rfl
@[simp] theorem State.putGrp_src (g : Nat) (c : Group) : (s.putGrp g c).src = s.src := rfl
@[simp] theorem State.putGrp_lost (g : Nat) (c : Group) : (s.putGrp g c).lost = s.lost := rfl
@[simp] theorem State.putGrp_scrub (g : Nat) (c : Group) : (s.putGrp g c).scrub = s.scrub := rfl
@[simp] theorem State.putGrp_scrubbed (g : Nat) (c : Group) : (s.putGrp g c).scrubbed = s.scrubbed := rfl
@[simp] theorem State.putGrp_parked (g : Nat) (c : Group) : (s.putGrp g c).parked = s.parked := rfl
@[simp] theorem State.putGrp_waiting (g : Nat) (c : Group) : (s.putGrp g c).waiting = s.waiting := rfl
@[simp] theorem State.putGrp_house (g : Nat) (c : Group) : (s.putGrp g c).house = s.house := rfl
@[simp] theorem State.putGrp_trans (g : Nat) (c : Group) : (s.putGrp g c).trans = s.trans := rfl
@[simp] theorem State.putGrp_pages (g : Nat) (c : Group) : (s.putGrp g c).pages = s.pages := rfl
@[simp] theorem State.putGrp_counts (g : Nat) (c : Group) : (s.putGrp g c).counts = s.counts := rfl
@[simp] theorem State.putGrp_insts (g : Nat) (c : Group) : (s.putGrp g c).insts = s.insts := rfl
@[simp] theorem State.putGrp_tgts (g : Nat) (c : Group) : (s.putGrp g c).tgts = s.tgts := rfl
@[simp] theorem State.putGrp_links (g : Nat) (c : Group) : (s.putGrp g c).links = s.links := rfl
@[simp] theorem State.putGrp_inch (g : Nat) (c : Group) : (s.putGrp g c).inch = s.inch := rfl
@[simp] theorem State.putGrp_relays (g : Nat) (c : Group) : (s.putGrp g c).relays = s.relays := rfl
@[simp] theorem State.putGrp_poolTop (g : Nat) (c : Group) : (s.putGrp g c).poolTop = s.poolTop := rfl
@[simp] theorem State.putGrp_relayTop (g : Nat) (c : Group) : (s.putGrp g c).relayTop = s.relayTop := rfl
@[simp] theorem State.putGrp_farch (g : Nat) (c : Group) : (s.putGrp g c).farch = s.farch := rfl
@[simp] theorem State.putGrp_ldg (g : Nat) (c : Group) : (s.putGrp g c).ldg = s.ldg := rfl
@[simp] theorem State.putGrp_sweeps (g : Nat) (c : Group) : (s.putGrp g c).sweeps = s.sweeps := rfl
@[simp] theorem State.putGrp_clusters (g : Nat) (c : Group) : (s.putGrp g c).clusters = s.clusters := rfl
@[simp] theorem State.putGrp_rank (g : Nat) (c : Group) : (s.putGrp g c).rank = s.rank := rfl
@[simp] theorem State.putGrp_cmd (g : Nat) (c : Group) : (s.putGrp g c).cmd = s.cmd := rfl
@[simp] theorem State.putGrp_acc (g : Nat) (c : Group) : (s.putGrp g c).acc = s.acc := rfl
@[simp] theorem State.putGrp_bus (g : Nat) (c : Group) : (s.putGrp g c).bus = s.bus := rfl
@[simp] theorem State.putGrp_flt (g : Nat) (c : Group) : (s.putGrp g c).flt = s.flt := rfl
@[simp] theorem State.putGrp_rcd (g : Nat) (c : Group) : (s.putGrp g c).rcd = s.rcd := rfl
@[simp] theorem State.putGrp_at_source (g : Nat) (c : Group) (x : Nat) : (s.putGrp g c).source x = s.source x := rfl
@[simp] theorem State.putGrp_at_ctx (g : Nat) (c : Group) (x : Nat) : (s.putGrp g c).ctx x = s.ctx x := rfl
@[simp] theorem State.putGrp_at_tgt (g : Nat) (c : Group) (x : Nat) : (s.putGrp g c).tgt x = s.tgt x := rfl
@[simp] theorem State.putGrp_at_link (g : Nat) (c : Group) (x : Nat) : (s.putGrp g c).link x = s.link x := rfl
@[simp] theorem State.putGrp_at_chan (g : Nat) (c : Group) (x : Nat) : (s.putGrp g c).chan x = s.chan x := rfl
@[simp] theorem State.putGrp_at_farChan (g : Nat) (c : Group) (x : Nat) : (s.putGrp g c).farChan x = s.farChan x := rfl
@[simp] theorem State.putGrp_at_line (g : Nat) (c : Group) (x : Nat) : (s.putGrp g c).line x = s.line x := rfl
@[simp] theorem State.putGrp_at_transEntry (g : Nat) (c : Group) (x : Nat) : (s.putGrp g c).transEntry x = s.transEntry x := rfl
@[simp] theorem State.putGrp_at_page (g : Nat) (c : Group) (x : Nat) : (s.putGrp g c).page x = s.page x := rfl
@[simp] theorem State.putGrp_at_queue (g : Nat) (c : Group) (x : Nat) : (s.putGrp g c).queue x = s.queue x := rfl
@[simp] theorem State.putGrp_at_ledger (g : Nat) (c : Group) (x : Nat) : (s.putGrp g c).ledger x = s.ledger x := rfl
@[simp] theorem State.putGrp_at_isHeld (g : Nat) (c : Group) (x : Nat) : (s.putGrp g c).isHeld x = s.isHeld x := rfl
@[simp] theorem State.putGrp_at_slot (g : Nat) (c : Group) (x : Nat) : (s.putGrp g c).slot x = s.slot x := rfl
@[simp] theorem State.putGrp_tick (g : Nat) (c : Group) : (s.putGrp g c).tick = s.tick := rfl

/-! ### onGrp -/

@[simp] theorem State.onGrp_pending (g : Nat) (f : Group → Group) : (s.onGrp g f).pending = s.pending := rfl
@[simp] theorem State.onGrp_now (g : Nat) (f : Group → Group) : (s.onGrp g f).now = s.now := rfl
@[simp] theorem State.onGrp_free (g : Nat) (f : Group → Group) : (s.onGrp g f).free = s.free := rfl
@[simp] theorem State.onGrp_pins (g : Nat) (f : Group → Group) : (s.onGrp g f).pins = s.pins := rfl
@[simp] theorem State.onGrp_strap (g : Nat) (f : Group → Group) : (s.onGrp g f).strap = s.strap := rfl
@[simp] theorem State.onGrp_mode (g : Nat) (f : Group → Group) : (s.onGrp g f).mode = s.mode := rfl
@[simp] theorem State.onGrp_rst (g : Nat) (f : Group → Group) : (s.onGrp g f).rst = s.rst := rfl
@[simp] theorem State.onGrp_tb (g : Nat) (f : Group → Group) : (s.onGrp g f).tb = s.tb := rfl
@[simp] theorem State.onGrp_pwr (g : Nat) (f : Group → Group) : (s.onGrp g f).pwr = s.pwr := rfl
@[simp] theorem State.onGrp_cfg (g : Nat) (f : Group → Group) : (s.onGrp g f).cfg = s.cfg := rfl
@[simp] theorem State.onGrp_lines (g : Nat) (f : Group → Group) : (s.onGrp g f).lines = s.lines := rfl
@[simp] theorem State.onGrp_src (g : Nat) (f : Group → Group) : (s.onGrp g f).src = s.src := rfl
@[simp] theorem State.onGrp_lost (g : Nat) (f : Group → Group) : (s.onGrp g f).lost = s.lost := rfl
@[simp] theorem State.onGrp_scrub (g : Nat) (f : Group → Group) : (s.onGrp g f).scrub = s.scrub := rfl
@[simp] theorem State.onGrp_scrubbed (g : Nat) (f : Group → Group) : (s.onGrp g f).scrubbed = s.scrubbed := rfl
@[simp] theorem State.onGrp_parked (g : Nat) (f : Group → Group) : (s.onGrp g f).parked = s.parked := rfl
@[simp] theorem State.onGrp_waiting (g : Nat) (f : Group → Group) : (s.onGrp g f).waiting = s.waiting := rfl
@[simp] theorem State.onGrp_house (g : Nat) (f : Group → Group) : (s.onGrp g f).house = s.house := rfl
@[simp] theorem State.onGrp_trans (g : Nat) (f : Group → Group) : (s.onGrp g f).trans = s.trans := rfl
@[simp] theorem State.onGrp_pages (g : Nat) (f : Group → Group) : (s.onGrp g f).pages = s.pages := rfl
@[simp] theorem State.onGrp_counts (g : Nat) (f : Group → Group) : (s.onGrp g f).counts = s.counts := rfl
@[simp] theorem State.onGrp_insts (g : Nat) (f : Group → Group) : (s.onGrp g f).insts = s.insts := rfl
@[simp] theorem State.onGrp_tgts (g : Nat) (f : Group → Group) : (s.onGrp g f).tgts = s.tgts := rfl
@[simp] theorem State.onGrp_links (g : Nat) (f : Group → Group) : (s.onGrp g f).links = s.links := rfl
@[simp] theorem State.onGrp_inch (g : Nat) (f : Group → Group) : (s.onGrp g f).inch = s.inch := rfl
@[simp] theorem State.onGrp_relays (g : Nat) (f : Group → Group) : (s.onGrp g f).relays = s.relays := rfl
@[simp] theorem State.onGrp_poolTop (g : Nat) (f : Group → Group) : (s.onGrp g f).poolTop = s.poolTop := rfl
@[simp] theorem State.onGrp_relayTop (g : Nat) (f : Group → Group) : (s.onGrp g f).relayTop = s.relayTop := rfl
@[simp] theorem State.onGrp_farch (g : Nat) (f : Group → Group) : (s.onGrp g f).farch = s.farch := rfl
@[simp] theorem State.onGrp_ldg (g : Nat) (f : Group → Group) : (s.onGrp g f).ldg = s.ldg := rfl
@[simp] theorem State.onGrp_sweeps (g : Nat) (f : Group → Group) : (s.onGrp g f).sweeps = s.sweeps := rfl
@[simp] theorem State.onGrp_clusters (g : Nat) (f : Group → Group) : (s.onGrp g f).clusters = s.clusters := rfl
@[simp] theorem State.onGrp_rank (g : Nat) (f : Group → Group) : (s.onGrp g f).rank = s.rank := rfl
@[simp] theorem State.onGrp_cmd (g : Nat) (f : Group → Group) : (s.onGrp g f).cmd = s.cmd := rfl
@[simp] theorem State.onGrp_acc (g : Nat) (f : Group → Group) : (s.onGrp g f).acc = s.acc := rfl
@[simp] theorem State.onGrp_bus (g : Nat) (f : Group → Group) : (s.onGrp g f).bus = s.bus := rfl
@[simp] theorem State.onGrp_flt (g : Nat) (f : Group → Group) : (s.onGrp g f).flt = s.flt := rfl
@[simp] theorem State.onGrp_rcd (g : Nat) (f : Group → Group) : (s.onGrp g f).rcd = s.rcd := rfl
@[simp] theorem State.onGrp_at_source (g : Nat) (f : Group → Group) (x : Nat) : (s.onGrp g f).source x = s.source x := rfl
@[simp] theorem State.onGrp_at_ctx (g : Nat) (f : Group → Group) (x : Nat) : (s.onGrp g f).ctx x = s.ctx x := rfl
@[simp] theorem State.onGrp_at_tgt (g : Nat) (f : Group → Group) (x : Nat) : (s.onGrp g f).tgt x = s.tgt x := rfl
@[simp] theorem State.onGrp_at_link (g : Nat) (f : Group → Group) (x : Nat) : (s.onGrp g f).link x = s.link x := rfl
@[simp] theorem State.onGrp_at_chan (g : Nat) (f : Group → Group) (x : Nat) : (s.onGrp g f).chan x = s.chan x := rfl
@[simp] theorem State.onGrp_at_farChan (g : Nat) (f : Group → Group) (x : Nat) : (s.onGrp g f).farChan x = s.farChan x := rfl
@[simp] theorem State.onGrp_at_line (g : Nat) (f : Group → Group) (x : Nat) : (s.onGrp g f).line x = s.line x := rfl
@[simp] theorem State.onGrp_at_transEntry (g : Nat) (f : Group → Group) (x : Nat) : (s.onGrp g f).transEntry x = s.transEntry x := rfl
@[simp] theorem State.onGrp_at_page (g : Nat) (f : Group → Group) (x : Nat) : (s.onGrp g f).page x = s.page x := rfl
@[simp] theorem State.onGrp_at_queue (g : Nat) (f : Group → Group) (x : Nat) : (s.onGrp g f).queue x = s.queue x := rfl
@[simp] theorem State.onGrp_at_ledger (g : Nat) (f : Group → Group) (x : Nat) : (s.onGrp g f).ledger x = s.ledger x := rfl
@[simp] theorem State.onGrp_at_isHeld (g : Nat) (f : Group → Group) (x : Nat) : (s.onGrp g f).isHeld x = s.isHeld x := rfl
@[simp] theorem State.onGrp_at_slot (g : Nat) (f : Group → Group) (x : Nat) : (s.onGrp g f).slot x = s.slot x := rfl
@[simp] theorem State.onGrp_tick (g : Nat) (f : Group → Group) : (s.onGrp g f).tick = s.tick := rfl

/-! ### onLink -/

@[simp] theorem State.onLink_pending (g : Nat) (f : Link → Link) : (s.onLink g f).pending = s.pending := rfl
@[simp] theorem State.onLink_now (g : Nat) (f : Link → Link) : (s.onLink g f).now = s.now := rfl
@[simp] theorem State.onLink_free (g : Nat) (f : Link → Link) : (s.onLink g f).free = s.free := rfl
@[simp] theorem State.onLink_pins (g : Nat) (f : Link → Link) : (s.onLink g f).pins = s.pins := rfl
@[simp] theorem State.onLink_strap (g : Nat) (f : Link → Link) : (s.onLink g f).strap = s.strap := rfl
@[simp] theorem State.onLink_mode (g : Nat) (f : Link → Link) : (s.onLink g f).mode = s.mode := rfl
@[simp] theorem State.onLink_rst (g : Nat) (f : Link → Link) : (s.onLink g f).rst = s.rst := rfl
@[simp] theorem State.onLink_tb (g : Nat) (f : Link → Link) : (s.onLink g f).tb = s.tb := rfl
@[simp] theorem State.onLink_pwr (g : Nat) (f : Link → Link) : (s.onLink g f).pwr = s.pwr := rfl
@[simp] theorem State.onLink_cfg (g : Nat) (f : Link → Link) : (s.onLink g f).cfg = s.cfg := rfl
@[simp] theorem State.onLink_lines (g : Nat) (f : Link → Link) : (s.onLink g f).lines = s.lines := rfl
@[simp] theorem State.onLink_src (g : Nat) (f : Link → Link) : (s.onLink g f).src = s.src := rfl
@[simp] theorem State.onLink_lost (g : Nat) (f : Link → Link) : (s.onLink g f).lost = s.lost := rfl
@[simp] theorem State.onLink_scrub (g : Nat) (f : Link → Link) : (s.onLink g f).scrub = s.scrub := rfl
@[simp] theorem State.onLink_scrubbed (g : Nat) (f : Link → Link) : (s.onLink g f).scrubbed = s.scrubbed := rfl
@[simp] theorem State.onLink_parked (g : Nat) (f : Link → Link) : (s.onLink g f).parked = s.parked := rfl
@[simp] theorem State.onLink_waiting (g : Nat) (f : Link → Link) : (s.onLink g f).waiting = s.waiting := rfl
@[simp] theorem State.onLink_house (g : Nat) (f : Link → Link) : (s.onLink g f).house = s.house := rfl
@[simp] theorem State.onLink_trans (g : Nat) (f : Link → Link) : (s.onLink g f).trans = s.trans := rfl
@[simp] theorem State.onLink_pages (g : Nat) (f : Link → Link) : (s.onLink g f).pages = s.pages := rfl
@[simp] theorem State.onLink_groups (g : Nat) (f : Link → Link) : (s.onLink g f).groups = s.groups := rfl
@[simp] theorem State.onLink_counts (g : Nat) (f : Link → Link) : (s.onLink g f).counts = s.counts := rfl
@[simp] theorem State.onLink_insts (g : Nat) (f : Link → Link) : (s.onLink g f).insts = s.insts := rfl
@[simp] theorem State.onLink_tgts (g : Nat) (f : Link → Link) : (s.onLink g f).tgts = s.tgts := rfl
@[simp] theorem State.onLink_inch (g : Nat) (f : Link → Link) : (s.onLink g f).inch = s.inch := rfl
@[simp] theorem State.onLink_relays (g : Nat) (f : Link → Link) : (s.onLink g f).relays = s.relays := rfl
@[simp] theorem State.onLink_poolTop (g : Nat) (f : Link → Link) : (s.onLink g f).poolTop = s.poolTop := rfl
@[simp] theorem State.onLink_relayTop (g : Nat) (f : Link → Link) : (s.onLink g f).relayTop = s.relayTop := rfl
@[simp] theorem State.onLink_farch (g : Nat) (f : Link → Link) : (s.onLink g f).farch = s.farch := rfl
@[simp] theorem State.onLink_ldg (g : Nat) (f : Link → Link) : (s.onLink g f).ldg = s.ldg := rfl
@[simp] theorem State.onLink_sweeps (g : Nat) (f : Link → Link) : (s.onLink g f).sweeps = s.sweeps := rfl
@[simp] theorem State.onLink_clusters (g : Nat) (f : Link → Link) : (s.onLink g f).clusters = s.clusters := rfl
@[simp] theorem State.onLink_rank (g : Nat) (f : Link → Link) : (s.onLink g f).rank = s.rank := rfl
@[simp] theorem State.onLink_cmd (g : Nat) (f : Link → Link) : (s.onLink g f).cmd = s.cmd := rfl
@[simp] theorem State.onLink_acc (g : Nat) (f : Link → Link) : (s.onLink g f).acc = s.acc := rfl
@[simp] theorem State.onLink_bus (g : Nat) (f : Link → Link) : (s.onLink g f).bus = s.bus := rfl
@[simp] theorem State.onLink_flt (g : Nat) (f : Link → Link) : (s.onLink g f).flt = s.flt := rfl
@[simp] theorem State.onLink_rcd (g : Nat) (f : Link → Link) : (s.onLink g f).rcd = s.rcd := rfl
@[simp] theorem State.onLink_at_source (g : Nat) (f : Link → Link) (x : Nat) : (s.onLink g f).source x = s.source x := rfl
@[simp] theorem State.onLink_at_ctx (g : Nat) (f : Link → Link) (x : Nat) : (s.onLink g f).ctx x = s.ctx x := rfl
@[simp] theorem State.onLink_at_tgt (g : Nat) (f : Link → Link) (x : Nat) : (s.onLink g f).tgt x = s.tgt x := rfl
@[simp] theorem State.onLink_at_grp (g : Nat) (f : Link → Link) (x : Nat) : (s.onLink g f).grp x = s.grp x := rfl
@[simp] theorem State.onLink_at_chan (g : Nat) (f : Link → Link) (x : Nat) : (s.onLink g f).chan x = s.chan x := rfl
@[simp] theorem State.onLink_at_farChan (g : Nat) (f : Link → Link) (x : Nat) : (s.onLink g f).farChan x = s.farChan x := rfl
@[simp] theorem State.onLink_at_line (g : Nat) (f : Link → Link) (x : Nat) : (s.onLink g f).line x = s.line x := rfl
@[simp] theorem State.onLink_at_transEntry (g : Nat) (f : Link → Link) (x : Nat) : (s.onLink g f).transEntry x = s.transEntry x := rfl
@[simp] theorem State.onLink_at_page (g : Nat) (f : Link → Link) (x : Nat) : (s.onLink g f).page x = s.page x := rfl
@[simp] theorem State.onLink_at_queue (g : Nat) (f : Link → Link) (x : Nat) : (s.onLink g f).queue x = s.queue x := rfl
@[simp] theorem State.onLink_at_ledger (g : Nat) (f : Link → Link) (x : Nat) : (s.onLink g f).ledger x = s.ledger x := rfl
@[simp] theorem State.onLink_at_isHeld (g : Nat) (f : Link → Link) (x : Nat) : (s.onLink g f).isHeld x = s.isHeld x := rfl
@[simp] theorem State.onLink_at_slot (g : Nat) (f : Link → Link) (x : Nat) : (s.onLink g f).slot x = s.slot x := rfl
@[simp] theorem State.onLink_tick (g : Nat) (f : Link → Link) : (s.onLink g f).tick = s.tick := rfl

/-! ### onChan -/

@[simp] theorem State.onChan_pending (c : Nat) (f : InChan → InChan) : (s.onChan c f).pending = s.pending := rfl
@[simp] theorem State.onChan_now (c : Nat) (f : InChan → InChan) : (s.onChan c f).now = s.now := rfl
@[simp] theorem State.onChan_free (c : Nat) (f : InChan → InChan) : (s.onChan c f).free = s.free := rfl
@[simp] theorem State.onChan_pins (c : Nat) (f : InChan → InChan) : (s.onChan c f).pins = s.pins := rfl
@[simp] theorem State.onChan_strap (c : Nat) (f : InChan → InChan) : (s.onChan c f).strap = s.strap := rfl
@[simp] theorem State.onChan_mode (c : Nat) (f : InChan → InChan) : (s.onChan c f).mode = s.mode := rfl
@[simp] theorem State.onChan_rst (c : Nat) (f : InChan → InChan) : (s.onChan c f).rst = s.rst := rfl
@[simp] theorem State.onChan_tb (c : Nat) (f : InChan → InChan) : (s.onChan c f).tb = s.tb := rfl
@[simp] theorem State.onChan_pwr (c : Nat) (f : InChan → InChan) : (s.onChan c f).pwr = s.pwr := rfl
@[simp] theorem State.onChan_cfg (c : Nat) (f : InChan → InChan) : (s.onChan c f).cfg = s.cfg := rfl
@[simp] theorem State.onChan_lines (c : Nat) (f : InChan → InChan) : (s.onChan c f).lines = s.lines := rfl
@[simp] theorem State.onChan_src (c : Nat) (f : InChan → InChan) : (s.onChan c f).src = s.src := rfl
@[simp] theorem State.onChan_lost (c : Nat) (f : InChan → InChan) : (s.onChan c f).lost = s.lost := rfl
@[simp] theorem State.onChan_scrub (c : Nat) (f : InChan → InChan) : (s.onChan c f).scrub = s.scrub := rfl
@[simp] theorem State.onChan_scrubbed (c : Nat) (f : InChan → InChan) : (s.onChan c f).scrubbed = s.scrubbed := rfl
@[simp] theorem State.onChan_parked (c : Nat) (f : InChan → InChan) : (s.onChan c f).parked = s.parked := rfl
@[simp] theorem State.onChan_waiting (c : Nat) (f : InChan → InChan) : (s.onChan c f).waiting = s.waiting := rfl
@[simp] theorem State.onChan_house (c : Nat) (f : InChan → InChan) : (s.onChan c f).house = s.house := rfl
@[simp] theorem State.onChan_trans (c : Nat) (f : InChan → InChan) : (s.onChan c f).trans = s.trans := rfl
@[simp] theorem State.onChan_pages (c : Nat) (f : InChan → InChan) : (s.onChan c f).pages = s.pages := rfl
@[simp] theorem State.onChan_groups (c : Nat) (f : InChan → InChan) : (s.onChan c f).groups = s.groups := rfl
@[simp] theorem State.onChan_counts (c : Nat) (f : InChan → InChan) : (s.onChan c f).counts = s.counts := rfl
@[simp] theorem State.onChan_insts (c : Nat) (f : InChan → InChan) : (s.onChan c f).insts = s.insts := rfl
@[simp] theorem State.onChan_tgts (c : Nat) (f : InChan → InChan) : (s.onChan c f).tgts = s.tgts := rfl
@[simp] theorem State.onChan_links (c : Nat) (f : InChan → InChan) : (s.onChan c f).links = s.links := rfl
@[simp] theorem State.onChan_relays (c : Nat) (f : InChan → InChan) : (s.onChan c f).relays = s.relays := rfl
@[simp] theorem State.onChan_poolTop (c : Nat) (f : InChan → InChan) : (s.onChan c f).poolTop = s.poolTop := rfl
@[simp] theorem State.onChan_relayTop (c : Nat) (f : InChan → InChan) : (s.onChan c f).relayTop = s.relayTop := rfl
@[simp] theorem State.onChan_farch (c : Nat) (f : InChan → InChan) : (s.onChan c f).farch = s.farch := rfl
@[simp] theorem State.onChan_ldg (c : Nat) (f : InChan → InChan) : (s.onChan c f).ldg = s.ldg := rfl
@[simp] theorem State.onChan_sweeps (c : Nat) (f : InChan → InChan) : (s.onChan c f).sweeps = s.sweeps := rfl
@[simp] theorem State.onChan_clusters (c : Nat) (f : InChan → InChan) : (s.onChan c f).clusters = s.clusters := rfl
@[simp] theorem State.onChan_rank (c : Nat) (f : InChan → InChan) : (s.onChan c f).rank = s.rank := rfl
@[simp] theorem State.onChan_cmd (c : Nat) (f : InChan → InChan) : (s.onChan c f).cmd = s.cmd := rfl
@[simp] theorem State.onChan_acc (c : Nat) (f : InChan → InChan) : (s.onChan c f).acc = s.acc := rfl
@[simp] theorem State.onChan_bus (c : Nat) (f : InChan → InChan) : (s.onChan c f).bus = s.bus := rfl
@[simp] theorem State.onChan_flt (c : Nat) (f : InChan → InChan) : (s.onChan c f).flt = s.flt := rfl
@[simp] theorem State.onChan_rcd (c : Nat) (f : InChan → InChan) : (s.onChan c f).rcd = s.rcd := rfl
@[simp] theorem State.onChan_at_source (c : Nat) (f : InChan → InChan) (x : Nat) : (s.onChan c f).source x = s.source x := rfl
@[simp] theorem State.onChan_at_ctx (c : Nat) (f : InChan → InChan) (x : Nat) : (s.onChan c f).ctx x = s.ctx x := rfl
@[simp] theorem State.onChan_at_tgt (c : Nat) (f : InChan → InChan) (x : Nat) : (s.onChan c f).tgt x = s.tgt x := rfl
@[simp] theorem State.onChan_at_grp (c : Nat) (f : InChan → InChan) (x : Nat) : (s.onChan c f).grp x = s.grp x := rfl
@[simp] theorem State.onChan_at_link (c : Nat) (f : InChan → InChan) (x : Nat) : (s.onChan c f).link x = s.link x := rfl
@[simp] theorem State.onChan_at_farChan (c : Nat) (f : InChan → InChan) (x : Nat) : (s.onChan c f).farChan x = s.farChan x := rfl
@[simp] theorem State.onChan_at_line (c : Nat) (f : InChan → InChan) (x : Nat) : (s.onChan c f).line x = s.line x := rfl
@[simp] theorem State.onChan_at_transEntry (c : Nat) (f : InChan → InChan) (x : Nat) : (s.onChan c f).transEntry x = s.transEntry x := rfl
@[simp] theorem State.onChan_at_page (c : Nat) (f : InChan → InChan) (x : Nat) : (s.onChan c f).page x = s.page x := rfl
@[simp] theorem State.onChan_at_queue (c : Nat) (f : InChan → InChan) (x : Nat) : (s.onChan c f).queue x = s.queue x := rfl
@[simp] theorem State.onChan_at_ledger (c : Nat) (f : InChan → InChan) (x : Nat) : (s.onChan c f).ledger x = s.ledger x := rfl
@[simp] theorem State.onChan_at_isHeld (c : Nat) (f : InChan → InChan) (x : Nat) : (s.onChan c f).isHeld x = s.isHeld x := rfl
@[simp] theorem State.onChan_at_slot (c : Nat) (f : InChan → InChan) (x : Nat) : (s.onChan c f).slot x = s.slot x := rfl
@[simp] theorem State.onChan_tick (c : Nat) (f : InChan → InChan) : (s.onChan c f).tick = s.tick := rfl

/-! ### onFarChan -/

@[simp] theorem State.onFarChan_pending (f : Nat) (h : FarChan → FarChan) : (s.onFarChan f h).pending = s.pending := rfl
@[simp] theorem State.onFarChan_now (f : Nat) (h : FarChan → FarChan) : (s.onFarChan f h).now = s.now := rfl
@[simp] theorem State.onFarChan_free (f : Nat) (h : FarChan → FarChan) : (s.onFarChan f h).free = s.free := rfl
@[simp] theorem State.onFarChan_pins (f : Nat) (h : FarChan → FarChan) : (s.onFarChan f h).pins = s.pins := rfl
@[simp] theorem State.onFarChan_strap (f : Nat) (h : FarChan → FarChan) : (s.onFarChan f h).strap = s.strap := rfl
@[simp] theorem State.onFarChan_mode (f : Nat) (h : FarChan → FarChan) : (s.onFarChan f h).mode = s.mode := rfl
@[simp] theorem State.onFarChan_rst (f : Nat) (h : FarChan → FarChan) : (s.onFarChan f h).rst = s.rst := rfl
@[simp] theorem State.onFarChan_tb (f : Nat) (h : FarChan → FarChan) : (s.onFarChan f h).tb = s.tb := rfl
@[simp] theorem State.onFarChan_pwr (f : Nat) (h : FarChan → FarChan) : (s.onFarChan f h).pwr = s.pwr := rfl
@[simp] theorem State.onFarChan_cfg (f : Nat) (h : FarChan → FarChan) : (s.onFarChan f h).cfg = s.cfg := rfl
@[simp] theorem State.onFarChan_lines (f : Nat) (h : FarChan → FarChan) : (s.onFarChan f h).lines = s.lines := rfl
@[simp] theorem State.onFarChan_src (f : Nat) (h : FarChan → FarChan) : (s.onFarChan f h).src = s.src := rfl
@[simp] theorem State.onFarChan_lost (f : Nat) (h : FarChan → FarChan) : (s.onFarChan f h).lost = s.lost := rfl
@[simp] theorem State.onFarChan_scrub (f : Nat) (h : FarChan → FarChan) : (s.onFarChan f h).scrub = s.scrub := rfl
@[simp] theorem State.onFarChan_scrubbed (f : Nat) (h : FarChan → FarChan) : (s.onFarChan f h).scrubbed = s.scrubbed := rfl
@[simp] theorem State.onFarChan_parked (f : Nat) (h : FarChan → FarChan) : (s.onFarChan f h).parked = s.parked := rfl
@[simp] theorem State.onFarChan_waiting (f : Nat) (h : FarChan → FarChan) : (s.onFarChan f h).waiting = s.waiting := rfl
@[simp] theorem State.onFarChan_house (f : Nat) (h : FarChan → FarChan) : (s.onFarChan f h).house = s.house := rfl
@[simp] theorem State.onFarChan_trans (f : Nat) (h : FarChan → FarChan) : (s.onFarChan f h).trans = s.trans := rfl
@[simp] theorem State.onFarChan_pages (f : Nat) (h : FarChan → FarChan) : (s.onFarChan f h).pages = s.pages := rfl
@[simp] theorem State.onFarChan_groups (f : Nat) (h : FarChan → FarChan) : (s.onFarChan f h).groups = s.groups := rfl
@[simp] theorem State.onFarChan_counts (f : Nat) (h : FarChan → FarChan) : (s.onFarChan f h).counts = s.counts := rfl
@[simp] theorem State.onFarChan_insts (f : Nat) (h : FarChan → FarChan) : (s.onFarChan f h).insts = s.insts := rfl
@[simp] theorem State.onFarChan_tgts (f : Nat) (h : FarChan → FarChan) : (s.onFarChan f h).tgts = s.tgts := rfl
@[simp] theorem State.onFarChan_links (f : Nat) (h : FarChan → FarChan) : (s.onFarChan f h).links = s.links := rfl
@[simp] theorem State.onFarChan_inch (f : Nat) (h : FarChan → FarChan) : (s.onFarChan f h).inch = s.inch := rfl
@[simp] theorem State.onFarChan_relays (f : Nat) (h : FarChan → FarChan) : (s.onFarChan f h).relays = s.relays := rfl
@[simp] theorem State.onFarChan_poolTop (f : Nat) (h : FarChan → FarChan) : (s.onFarChan f h).poolTop = s.poolTop := rfl
@[simp] theorem State.onFarChan_relayTop (f : Nat) (h : FarChan → FarChan) : (s.onFarChan f h).relayTop = s.relayTop := rfl
@[simp] theorem State.onFarChan_ldg (f : Nat) (h : FarChan → FarChan) : (s.onFarChan f h).ldg = s.ldg := rfl
@[simp] theorem State.onFarChan_sweeps (f : Nat) (h : FarChan → FarChan) : (s.onFarChan f h).sweeps = s.sweeps := rfl
@[simp] theorem State.onFarChan_clusters (f : Nat) (h : FarChan → FarChan) : (s.onFarChan f h).clusters = s.clusters := rfl
@[simp] theorem State.onFarChan_rank (f : Nat) (h : FarChan → FarChan) : (s.onFarChan f h).rank = s.rank := rfl
@[simp] theorem State.onFarChan_cmd (f : Nat) (h : FarChan → FarChan) : (s.onFarChan f h).cmd = s.cmd := rfl
@[simp] theorem State.onFarChan_acc (f : Nat) (h : FarChan → FarChan) : (s.onFarChan f h).acc = s.acc := rfl
@[simp] theorem State.onFarChan_bus (f : Nat) (h : FarChan → FarChan) : (s.onFarChan f h).bus = s.bus := rfl
@[simp] theorem State.onFarChan_flt (f : Nat) (h : FarChan → FarChan) : (s.onFarChan f h).flt = s.flt := rfl
@[simp] theorem State.onFarChan_rcd (f : Nat) (h : FarChan → FarChan) : (s.onFarChan f h).rcd = s.rcd := rfl
@[simp] theorem State.onFarChan_at_source (f : Nat) (h : FarChan → FarChan) (x : Nat) : (s.onFarChan f h).source x = s.source x := rfl
@[simp] theorem State.onFarChan_at_ctx (f : Nat) (h : FarChan → FarChan) (x : Nat) : (s.onFarChan f h).ctx x = s.ctx x := rfl
@[simp] theorem State.onFarChan_at_tgt (f : Nat) (h : FarChan → FarChan) (x : Nat) : (s.onFarChan f h).tgt x = s.tgt x := rfl
@[simp] theorem State.onFarChan_at_grp (f : Nat) (h : FarChan → FarChan) (x : Nat) : (s.onFarChan f h).grp x = s.grp x := rfl
@[simp] theorem State.onFarChan_at_link (f : Nat) (h : FarChan → FarChan) (x : Nat) : (s.onFarChan f h).link x = s.link x := rfl
@[simp] theorem State.onFarChan_at_chan (f : Nat) (h : FarChan → FarChan) (x : Nat) : (s.onFarChan f h).chan x = s.chan x := rfl
@[simp] theorem State.onFarChan_at_line (f : Nat) (h : FarChan → FarChan) (x : Nat) : (s.onFarChan f h).line x = s.line x := rfl
@[simp] theorem State.onFarChan_at_transEntry (f : Nat) (h : FarChan → FarChan) (x : Nat) : (s.onFarChan f h).transEntry x = s.transEntry x := rfl
@[simp] theorem State.onFarChan_at_page (f : Nat) (h : FarChan → FarChan) (x : Nat) : (s.onFarChan f h).page x = s.page x := rfl
@[simp] theorem State.onFarChan_at_queue (f : Nat) (h : FarChan → FarChan) (x : Nat) : (s.onFarChan f h).queue x = s.queue x := rfl
@[simp] theorem State.onFarChan_at_ledger (f : Nat) (h : FarChan → FarChan) (x : Nat) : (s.onFarChan f h).ledger x = s.ledger x := rfl
@[simp] theorem State.onFarChan_at_isHeld (f : Nat) (h : FarChan → FarChan) (x : Nat) : (s.onFarChan f h).isHeld x = s.isHeld x := rfl
@[simp] theorem State.onFarChan_at_slot (f : Nat) (h : FarChan → FarChan) (x : Nat) : (s.onFarChan f h).slot x = s.slot x := rfl
@[simp] theorem State.onFarChan_tick (f : Nat) (h : FarChan → FarChan) : (s.onFarChan f h).tick = s.tick := rfl

/-! ### onLine -/

@[simp] theorem State.onLine_pending (k : Nat) (f : Line → Line) : (s.onLine k f).pending = s.pending := rfl
@[simp] theorem State.onLine_now (k : Nat) (f : Line → Line) : (s.onLine k f).now = s.now := rfl
@[simp] theorem State.onLine_free (k : Nat) (f : Line → Line) : (s.onLine k f).free = s.free := rfl
@[simp] theorem State.onLine_pins (k : Nat) (f : Line → Line) : (s.onLine k f).pins = s.pins := rfl
@[simp] theorem State.onLine_strap (k : Nat) (f : Line → Line) : (s.onLine k f).strap = s.strap := rfl
@[simp] theorem State.onLine_mode (k : Nat) (f : Line → Line) : (s.onLine k f).mode = s.mode := rfl
@[simp] theorem State.onLine_rst (k : Nat) (f : Line → Line) : (s.onLine k f).rst = s.rst := rfl
@[simp] theorem State.onLine_tb (k : Nat) (f : Line → Line) : (s.onLine k f).tb = s.tb := rfl
@[simp] theorem State.onLine_pwr (k : Nat) (f : Line → Line) : (s.onLine k f).pwr = s.pwr := rfl
@[simp] theorem State.onLine_cfg (k : Nat) (f : Line → Line) : (s.onLine k f).cfg = s.cfg := rfl
@[simp] theorem State.onLine_src (k : Nat) (f : Line → Line) : (s.onLine k f).src = s.src := rfl
@[simp] theorem State.onLine_lost (k : Nat) (f : Line → Line) : (s.onLine k f).lost = s.lost := rfl
@[simp] theorem State.onLine_scrub (k : Nat) (f : Line → Line) : (s.onLine k f).scrub = s.scrub := rfl
@[simp] theorem State.onLine_scrubbed (k : Nat) (f : Line → Line) : (s.onLine k f).scrubbed = s.scrubbed := rfl
@[simp] theorem State.onLine_parked (k : Nat) (f : Line → Line) : (s.onLine k f).parked = s.parked := rfl
@[simp] theorem State.onLine_waiting (k : Nat) (f : Line → Line) : (s.onLine k f).waiting = s.waiting := rfl
@[simp] theorem State.onLine_house (k : Nat) (f : Line → Line) : (s.onLine k f).house = s.house := rfl
@[simp] theorem State.onLine_trans (k : Nat) (f : Line → Line) : (s.onLine k f).trans = s.trans := rfl
@[simp] theorem State.onLine_pages (k : Nat) (f : Line → Line) : (s.onLine k f).pages = s.pages := rfl
@[simp] theorem State.onLine_groups (k : Nat) (f : Line → Line) : (s.onLine k f).groups = s.groups := rfl
@[simp] theorem State.onLine_counts (k : Nat) (f : Line → Line) : (s.onLine k f).counts = s.counts := rfl
@[simp] theorem State.onLine_insts (k : Nat) (f : Line → Line) : (s.onLine k f).insts = s.insts := rfl
@[simp] theorem State.onLine_tgts (k : Nat) (f : Line → Line) : (s.onLine k f).tgts = s.tgts := rfl
@[simp] theorem State.onLine_links (k : Nat) (f : Line → Line) : (s.onLine k f).links = s.links := rfl
@[simp] theorem State.onLine_inch (k : Nat) (f : Line → Line) : (s.onLine k f).inch = s.inch := rfl
@[simp] theorem State.onLine_relays (k : Nat) (f : Line → Line) : (s.onLine k f).relays = s.relays := rfl
@[simp] theorem State.onLine_poolTop (k : Nat) (f : Line → Line) : (s.onLine k f).poolTop = s.poolTop := rfl
@[simp] theorem State.onLine_relayTop (k : Nat) (f : Line → Line) : (s.onLine k f).relayTop = s.relayTop := rfl
@[simp] theorem State.onLine_farch (k : Nat) (f : Line → Line) : (s.onLine k f).farch = s.farch := rfl
@[simp] theorem State.onLine_ldg (k : Nat) (f : Line → Line) : (s.onLine k f).ldg = s.ldg := rfl
@[simp] theorem State.onLine_sweeps (k : Nat) (f : Line → Line) : (s.onLine k f).sweeps = s.sweeps := rfl
@[simp] theorem State.onLine_clusters (k : Nat) (f : Line → Line) : (s.onLine k f).clusters = s.clusters := rfl
@[simp] theorem State.onLine_rank (k : Nat) (f : Line → Line) : (s.onLine k f).rank = s.rank := rfl
@[simp] theorem State.onLine_cmd (k : Nat) (f : Line → Line) : (s.onLine k f).cmd = s.cmd := rfl
@[simp] theorem State.onLine_acc (k : Nat) (f : Line → Line) : (s.onLine k f).acc = s.acc := rfl
@[simp] theorem State.onLine_bus (k : Nat) (f : Line → Line) : (s.onLine k f).bus = s.bus := rfl
@[simp] theorem State.onLine_flt (k : Nat) (f : Line → Line) : (s.onLine k f).flt = s.flt := rfl
@[simp] theorem State.onLine_rcd (k : Nat) (f : Line → Line) : (s.onLine k f).rcd = s.rcd := rfl
@[simp] theorem State.onLine_at_source (k : Nat) (f : Line → Line) (x : Nat) : (s.onLine k f).source x = s.source x := rfl
@[simp] theorem State.onLine_at_ctx (k : Nat) (f : Line → Line) (x : Nat) : (s.onLine k f).ctx x = s.ctx x := rfl
@[simp] theorem State.onLine_at_tgt (k : Nat) (f : Line → Line) (x : Nat) : (s.onLine k f).tgt x = s.tgt x := rfl
@[simp] theorem State.onLine_at_grp (k : Nat) (f : Line → Line) (x : Nat) : (s.onLine k f).grp x = s.grp x := rfl
@[simp] theorem State.onLine_at_link (k : Nat) (f : Line → Line) (x : Nat) : (s.onLine k f).link x = s.link x := rfl
@[simp] theorem State.onLine_at_chan (k : Nat) (f : Line → Line) (x : Nat) : (s.onLine k f).chan x = s.chan x := rfl
@[simp] theorem State.onLine_at_farChan (k : Nat) (f : Line → Line) (x : Nat) : (s.onLine k f).farChan x = s.farChan x := rfl
@[simp] theorem State.onLine_at_transEntry (k : Nat) (f : Line → Line) (x : Nat) : (s.onLine k f).transEntry x = s.transEntry x := rfl
@[simp] theorem State.onLine_at_page (k : Nat) (f : Line → Line) (x : Nat) : (s.onLine k f).page x = s.page x := rfl
@[simp] theorem State.onLine_at_queue (k : Nat) (f : Line → Line) (x : Nat) : (s.onLine k f).queue x = s.queue x := rfl
@[simp] theorem State.onLine_at_ledger (k : Nat) (f : Line → Line) (x : Nat) : (s.onLine k f).ledger x = s.ledger x := rfl
@[simp] theorem State.onLine_at_isHeld (k : Nat) (f : Line → Line) (x : Nat) : (s.onLine k f).isHeld x = s.isHeld x := rfl
@[simp] theorem State.onLine_at_slot (k : Nat) (f : Line → Line) (x : Nat) : (s.onLine k f).slot x = s.slot x := rfl
@[simp] theorem State.onLine_tick (k : Nat) (f : Line → Line) : (s.onLine k f).tick = s.tick := rfl

/-! ### putTrans -/

@[simp] theorem State.putTrans_pending (n : Nat) (v : TransEntry) : (s.putTrans n v).pending = s.pending := rfl
@[simp] theorem State.putTrans_now (n : Nat) (v : TransEntry) : (s.putTrans n v).now = s.now := rfl
@[simp] theorem State.putTrans_free (n : Nat) (v : TransEntry) : (s.putTrans n v).free = s.free := rfl
@[simp] theorem State.putTrans_pins (n : Nat) (v : TransEntry) : (s.putTrans n v).pins = s.pins := rfl
@[simp] theorem State.putTrans_strap (n : Nat) (v : TransEntry) : (s.putTrans n v).strap = s.strap := rfl
@[simp] theorem State.putTrans_mode (n : Nat) (v : TransEntry) : (s.putTrans n v).mode = s.mode := rfl
@[simp] theorem State.putTrans_rst (n : Nat) (v : TransEntry) : (s.putTrans n v).rst = s.rst := rfl
@[simp] theorem State.putTrans_tb (n : Nat) (v : TransEntry) : (s.putTrans n v).tb = s.tb := rfl
@[simp] theorem State.putTrans_pwr (n : Nat) (v : TransEntry) : (s.putTrans n v).pwr = s.pwr := rfl
@[simp] theorem State.putTrans_cfg (n : Nat) (v : TransEntry) : (s.putTrans n v).cfg = s.cfg := rfl
@[simp] theorem State.putTrans_lines (n : Nat) (v : TransEntry) : (s.putTrans n v).lines = s.lines := rfl
@[simp] theorem State.putTrans_src (n : Nat) (v : TransEntry) : (s.putTrans n v).src = s.src := rfl
@[simp] theorem State.putTrans_lost (n : Nat) (v : TransEntry) : (s.putTrans n v).lost = s.lost := rfl
@[simp] theorem State.putTrans_scrub (n : Nat) (v : TransEntry) : (s.putTrans n v).scrub = s.scrub := rfl
@[simp] theorem State.putTrans_scrubbed (n : Nat) (v : TransEntry) : (s.putTrans n v).scrubbed = s.scrubbed := rfl
@[simp] theorem State.putTrans_parked (n : Nat) (v : TransEntry) : (s.putTrans n v).parked = s.parked := rfl
@[simp] theorem State.putTrans_waiting (n : Nat) (v : TransEntry) : (s.putTrans n v).waiting = s.waiting := rfl
@[simp] theorem State.putTrans_house (n : Nat) (v : TransEntry) : (s.putTrans n v).house = s.house := rfl
@[simp] theorem State.putTrans_pages (n : Nat) (v : TransEntry) : (s.putTrans n v).pages = s.pages := rfl
@[simp] theorem State.putTrans_groups (n : Nat) (v : TransEntry) : (s.putTrans n v).groups = s.groups := rfl
@[simp] theorem State.putTrans_counts (n : Nat) (v : TransEntry) : (s.putTrans n v).counts = s.counts := rfl
@[simp] theorem State.putTrans_insts (n : Nat) (v : TransEntry) : (s.putTrans n v).insts = s.insts := rfl
@[simp] theorem State.putTrans_tgts (n : Nat) (v : TransEntry) : (s.putTrans n v).tgts = s.tgts := rfl
@[simp] theorem State.putTrans_links (n : Nat) (v : TransEntry) : (s.putTrans n v).links = s.links := rfl
@[simp] theorem State.putTrans_inch (n : Nat) (v : TransEntry) : (s.putTrans n v).inch = s.inch := rfl
@[simp] theorem State.putTrans_relays (n : Nat) (v : TransEntry) : (s.putTrans n v).relays = s.relays := rfl
@[simp] theorem State.putTrans_poolTop (n : Nat) (v : TransEntry) : (s.putTrans n v).poolTop = s.poolTop := rfl
@[simp] theorem State.putTrans_relayTop (n : Nat) (v : TransEntry) : (s.putTrans n v).relayTop = s.relayTop := rfl
@[simp] theorem State.putTrans_farch (n : Nat) (v : TransEntry) : (s.putTrans n v).farch = s.farch := rfl
@[simp] theorem State.putTrans_ldg (n : Nat) (v : TransEntry) : (s.putTrans n v).ldg = s.ldg := rfl
@[simp] theorem State.putTrans_sweeps (n : Nat) (v : TransEntry) : (s.putTrans n v).sweeps = s.sweeps := rfl
@[simp] theorem State.putTrans_clusters (n : Nat) (v : TransEntry) : (s.putTrans n v).clusters = s.clusters := rfl
@[simp] theorem State.putTrans_rank (n : Nat) (v : TransEntry) : (s.putTrans n v).rank = s.rank := rfl
@[simp] theorem State.putTrans_cmd (n : Nat) (v : TransEntry) : (s.putTrans n v).cmd = s.cmd := rfl
@[simp] theorem State.putTrans_acc (n : Nat) (v : TransEntry) : (s.putTrans n v).acc = s.acc := rfl
@[simp] theorem State.putTrans_bus (n : Nat) (v : TransEntry) : (s.putTrans n v).bus = s.bus := rfl
@[simp] theorem State.putTrans_flt (n : Nat) (v : TransEntry) : (s.putTrans n v).flt = s.flt := rfl
@[simp] theorem State.putTrans_rcd (n : Nat) (v : TransEntry) : (s.putTrans n v).rcd = s.rcd := rfl
@[simp] theorem State.putTrans_at_source (n : Nat) (v : TransEntry) (x : Nat) : (s.putTrans n v).source x = s.source x := rfl
@[simp] theorem State.putTrans_at_ctx (n : Nat) (v : TransEntry) (x : Nat) : (s.putTrans n v).ctx x = s.ctx x := rfl
@[simp] theorem State.putTrans_at_tgt (n : Nat) (v : TransEntry) (x : Nat) : (s.putTrans n v).tgt x = s.tgt x := rfl
@[simp] theorem State.putTrans_at_grp (n : Nat) (v : TransEntry) (x : Nat) : (s.putTrans n v).grp x = s.grp x := rfl
@[simp] theorem State.putTrans_at_link (n : Nat) (v : TransEntry) (x : Nat) : (s.putTrans n v).link x = s.link x := rfl
@[simp] theorem State.putTrans_at_chan (n : Nat) (v : TransEntry) (x : Nat) : (s.putTrans n v).chan x = s.chan x := rfl
@[simp] theorem State.putTrans_at_farChan (n : Nat) (v : TransEntry) (x : Nat) : (s.putTrans n v).farChan x = s.farChan x := rfl
@[simp] theorem State.putTrans_at_line (n : Nat) (v : TransEntry) (x : Nat) : (s.putTrans n v).line x = s.line x := rfl
@[simp] theorem State.putTrans_at_page (n : Nat) (v : TransEntry) (x : Nat) : (s.putTrans n v).page x = s.page x := rfl
@[simp] theorem State.putTrans_at_queue (n : Nat) (v : TransEntry) (x : Nat) : (s.putTrans n v).queue x = s.queue x := rfl
@[simp] theorem State.putTrans_at_ledger (n : Nat) (v : TransEntry) (x : Nat) : (s.putTrans n v).ledger x = s.ledger x := rfl
@[simp] theorem State.putTrans_at_isHeld (n : Nat) (v : TransEntry) (x : Nat) : (s.putTrans n v).isHeld x = s.isHeld x := rfl
@[simp] theorem State.putTrans_at_slot (n : Nat) (v : TransEntry) (x : Nat) : (s.putTrans n v).slot x = s.slot x := rfl
@[simp] theorem State.putTrans_tick (n : Nat) (v : TransEntry) : (s.putTrans n v).tick = s.tick := rfl

/-! ### putPage -/

@[simp] theorem State.putPage_pending (n : Nat) (v : PageEntry) : (s.putPage n v).pending = s.pending := rfl
@[simp] theorem State.putPage_now (n : Nat) (v : PageEntry) : (s.putPage n v).now = s.now := rfl
@[simp] theorem State.putPage_free (n : Nat) (v : PageEntry) : (s.putPage n v).free = s.free := rfl
@[simp] theorem State.putPage_pins (n : Nat) (v : PageEntry) : (s.putPage n v).pins = s.pins := rfl
@[simp] theorem State.putPage_strap (n : Nat) (v : PageEntry) : (s.putPage n v).strap = s.strap := rfl
@[simp] theorem State.putPage_mode (n : Nat) (v : PageEntry) : (s.putPage n v).mode = s.mode := rfl
@[simp] theorem State.putPage_rst (n : Nat) (v : PageEntry) : (s.putPage n v).rst = s.rst := rfl
@[simp] theorem State.putPage_tb (n : Nat) (v : PageEntry) : (s.putPage n v).tb = s.tb := rfl
@[simp] theorem State.putPage_pwr (n : Nat) (v : PageEntry) : (s.putPage n v).pwr = s.pwr := rfl
@[simp] theorem State.putPage_cfg (n : Nat) (v : PageEntry) : (s.putPage n v).cfg = s.cfg := rfl
@[simp] theorem State.putPage_lines (n : Nat) (v : PageEntry) : (s.putPage n v).lines = s.lines := rfl
@[simp] theorem State.putPage_src (n : Nat) (v : PageEntry) : (s.putPage n v).src = s.src := rfl
@[simp] theorem State.putPage_lost (n : Nat) (v : PageEntry) : (s.putPage n v).lost = s.lost := rfl
@[simp] theorem State.putPage_scrub (n : Nat) (v : PageEntry) : (s.putPage n v).scrub = s.scrub := rfl
@[simp] theorem State.putPage_scrubbed (n : Nat) (v : PageEntry) : (s.putPage n v).scrubbed = s.scrubbed := rfl
@[simp] theorem State.putPage_parked (n : Nat) (v : PageEntry) : (s.putPage n v).parked = s.parked := rfl
@[simp] theorem State.putPage_waiting (n : Nat) (v : PageEntry) : (s.putPage n v).waiting = s.waiting := rfl
@[simp] theorem State.putPage_house (n : Nat) (v : PageEntry) : (s.putPage n v).house = s.house := rfl
@[simp] theorem State.putPage_trans (n : Nat) (v : PageEntry) : (s.putPage n v).trans = s.trans := rfl
@[simp] theorem State.putPage_groups (n : Nat) (v : PageEntry) : (s.putPage n v).groups = s.groups := rfl
@[simp] theorem State.putPage_counts (n : Nat) (v : PageEntry) : (s.putPage n v).counts = s.counts := rfl
@[simp] theorem State.putPage_insts (n : Nat) (v : PageEntry) : (s.putPage n v).insts = s.insts := rfl
@[simp] theorem State.putPage_tgts (n : Nat) (v : PageEntry) : (s.putPage n v).tgts = s.tgts := rfl
@[simp] theorem State.putPage_links (n : Nat) (v : PageEntry) : (s.putPage n v).links = s.links := rfl
@[simp] theorem State.putPage_inch (n : Nat) (v : PageEntry) : (s.putPage n v).inch = s.inch := rfl
@[simp] theorem State.putPage_relays (n : Nat) (v : PageEntry) : (s.putPage n v).relays = s.relays := rfl
@[simp] theorem State.putPage_poolTop (n : Nat) (v : PageEntry) : (s.putPage n v).poolTop = s.poolTop := rfl
@[simp] theorem State.putPage_relayTop (n : Nat) (v : PageEntry) : (s.putPage n v).relayTop = s.relayTop := rfl
@[simp] theorem State.putPage_farch (n : Nat) (v : PageEntry) : (s.putPage n v).farch = s.farch := rfl
@[simp] theorem State.putPage_ldg (n : Nat) (v : PageEntry) : (s.putPage n v).ldg = s.ldg := rfl
@[simp] theorem State.putPage_sweeps (n : Nat) (v : PageEntry) : (s.putPage n v).sweeps = s.sweeps := rfl
@[simp] theorem State.putPage_clusters (n : Nat) (v : PageEntry) : (s.putPage n v).clusters = s.clusters := rfl
@[simp] theorem State.putPage_rank (n : Nat) (v : PageEntry) : (s.putPage n v).rank = s.rank := rfl
@[simp] theorem State.putPage_cmd (n : Nat) (v : PageEntry) : (s.putPage n v).cmd = s.cmd := rfl
@[simp] theorem State.putPage_acc (n : Nat) (v : PageEntry) : (s.putPage n v).acc = s.acc := rfl
@[simp] theorem State.putPage_bus (n : Nat) (v : PageEntry) : (s.putPage n v).bus = s.bus := rfl
@[simp] theorem State.putPage_flt (n : Nat) (v : PageEntry) : (s.putPage n v).flt = s.flt := rfl
@[simp] theorem State.putPage_rcd (n : Nat) (v : PageEntry) : (s.putPage n v).rcd = s.rcd := rfl
@[simp] theorem State.putPage_at_source (n : Nat) (v : PageEntry) (x : Nat) : (s.putPage n v).source x = s.source x := rfl
@[simp] theorem State.putPage_at_ctx (n : Nat) (v : PageEntry) (x : Nat) : (s.putPage n v).ctx x = s.ctx x := rfl
@[simp] theorem State.putPage_at_tgt (n : Nat) (v : PageEntry) (x : Nat) : (s.putPage n v).tgt x = s.tgt x := rfl
@[simp] theorem State.putPage_at_grp (n : Nat) (v : PageEntry) (x : Nat) : (s.putPage n v).grp x = s.grp x := rfl
@[simp] theorem State.putPage_at_link (n : Nat) (v : PageEntry) (x : Nat) : (s.putPage n v).link x = s.link x := rfl
@[simp] theorem State.putPage_at_chan (n : Nat) (v : PageEntry) (x : Nat) : (s.putPage n v).chan x = s.chan x := rfl
@[simp] theorem State.putPage_at_farChan (n : Nat) (v : PageEntry) (x : Nat) : (s.putPage n v).farChan x = s.farChan x := rfl
@[simp] theorem State.putPage_at_line (n : Nat) (v : PageEntry) (x : Nat) : (s.putPage n v).line x = s.line x := rfl
@[simp] theorem State.putPage_at_transEntry (n : Nat) (v : PageEntry) (x : Nat) : (s.putPage n v).transEntry x = s.transEntry x := rfl
@[simp] theorem State.putPage_at_queue (n : Nat) (v : PageEntry) (x : Nat) : (s.putPage n v).queue x = s.queue x := rfl
@[simp] theorem State.putPage_at_ledger (n : Nat) (v : PageEntry) (x : Nat) : (s.putPage n v).ledger x = s.ledger x := rfl
@[simp] theorem State.putPage_at_isHeld (n : Nat) (v : PageEntry) (x : Nat) : (s.putPage n v).isHeld x = s.isHeld x := rfl
@[simp] theorem State.putPage_at_slot (n : Nat) (v : PageEntry) (x : Nat) : (s.putPage n v).slot x = s.slot x := rfl
@[simp] theorem State.putPage_tick (n : Nat) (v : PageEntry) : (s.putPage n v).tick = s.tick := rfl

/-! ### onQueue -/

@[simp] theorem State.onQueue_pending (q : Nat) (f : CmdQueue → CmdQueue) : (s.onQueue q f).pending = s.pending := rfl
@[simp] theorem State.onQueue_now (q : Nat) (f : CmdQueue → CmdQueue) : (s.onQueue q f).now = s.now := rfl
@[simp] theorem State.onQueue_free (q : Nat) (f : CmdQueue → CmdQueue) : (s.onQueue q f).free = s.free := rfl
@[simp] theorem State.onQueue_pins (q : Nat) (f : CmdQueue → CmdQueue) : (s.onQueue q f).pins = s.pins := rfl
@[simp] theorem State.onQueue_strap (q : Nat) (f : CmdQueue → CmdQueue) : (s.onQueue q f).strap = s.strap := rfl
@[simp] theorem State.onQueue_mode (q : Nat) (f : CmdQueue → CmdQueue) : (s.onQueue q f).mode = s.mode := rfl
@[simp] theorem State.onQueue_rst (q : Nat) (f : CmdQueue → CmdQueue) : (s.onQueue q f).rst = s.rst := rfl
@[simp] theorem State.onQueue_tb (q : Nat) (f : CmdQueue → CmdQueue) : (s.onQueue q f).tb = s.tb := rfl
@[simp] theorem State.onQueue_pwr (q : Nat) (f : CmdQueue → CmdQueue) : (s.onQueue q f).pwr = s.pwr := rfl
@[simp] theorem State.onQueue_cfg (q : Nat) (f : CmdQueue → CmdQueue) : (s.onQueue q f).cfg = s.cfg := rfl
@[simp] theorem State.onQueue_lines (q : Nat) (f : CmdQueue → CmdQueue) : (s.onQueue q f).lines = s.lines := rfl
@[simp] theorem State.onQueue_src (q : Nat) (f : CmdQueue → CmdQueue) : (s.onQueue q f).src = s.src := rfl
@[simp] theorem State.onQueue_lost (q : Nat) (f : CmdQueue → CmdQueue) : (s.onQueue q f).lost = s.lost := rfl
@[simp] theorem State.onQueue_scrub (q : Nat) (f : CmdQueue → CmdQueue) : (s.onQueue q f).scrub = s.scrub := rfl
@[simp] theorem State.onQueue_scrubbed (q : Nat) (f : CmdQueue → CmdQueue) : (s.onQueue q f).scrubbed = s.scrubbed := rfl
@[simp] theorem State.onQueue_parked (q : Nat) (f : CmdQueue → CmdQueue) : (s.onQueue q f).parked = s.parked := rfl
@[simp] theorem State.onQueue_waiting (q : Nat) (f : CmdQueue → CmdQueue) : (s.onQueue q f).waiting = s.waiting := rfl
@[simp] theorem State.onQueue_house (q : Nat) (f : CmdQueue → CmdQueue) : (s.onQueue q f).house = s.house := rfl
@[simp] theorem State.onQueue_trans (q : Nat) (f : CmdQueue → CmdQueue) : (s.onQueue q f).trans = s.trans := rfl
@[simp] theorem State.onQueue_pages (q : Nat) (f : CmdQueue → CmdQueue) : (s.onQueue q f).pages = s.pages := rfl
@[simp] theorem State.onQueue_groups (q : Nat) (f : CmdQueue → CmdQueue) : (s.onQueue q f).groups = s.groups := rfl
@[simp] theorem State.onQueue_counts (q : Nat) (f : CmdQueue → CmdQueue) : (s.onQueue q f).counts = s.counts := rfl
@[simp] theorem State.onQueue_insts (q : Nat) (f : CmdQueue → CmdQueue) : (s.onQueue q f).insts = s.insts := rfl
@[simp] theorem State.onQueue_tgts (q : Nat) (f : CmdQueue → CmdQueue) : (s.onQueue q f).tgts = s.tgts := rfl
@[simp] theorem State.onQueue_links (q : Nat) (f : CmdQueue → CmdQueue) : (s.onQueue q f).links = s.links := rfl
@[simp] theorem State.onQueue_inch (q : Nat) (f : CmdQueue → CmdQueue) : (s.onQueue q f).inch = s.inch := rfl
@[simp] theorem State.onQueue_relays (q : Nat) (f : CmdQueue → CmdQueue) : (s.onQueue q f).relays = s.relays := rfl
@[simp] theorem State.onQueue_poolTop (q : Nat) (f : CmdQueue → CmdQueue) : (s.onQueue q f).poolTop = s.poolTop := rfl
@[simp] theorem State.onQueue_relayTop (q : Nat) (f : CmdQueue → CmdQueue) : (s.onQueue q f).relayTop = s.relayTop := rfl
@[simp] theorem State.onQueue_farch (q : Nat) (f : CmdQueue → CmdQueue) : (s.onQueue q f).farch = s.farch := rfl
@[simp] theorem State.onQueue_ldg (q : Nat) (f : CmdQueue → CmdQueue) : (s.onQueue q f).ldg = s.ldg := rfl
@[simp] theorem State.onQueue_sweeps (q : Nat) (f : CmdQueue → CmdQueue) : (s.onQueue q f).sweeps = s.sweeps := rfl
@[simp] theorem State.onQueue_clusters (q : Nat) (f : CmdQueue → CmdQueue) : (s.onQueue q f).clusters = s.clusters := rfl
@[simp] theorem State.onQueue_rank (q : Nat) (f : CmdQueue → CmdQueue) : (s.onQueue q f).rank = s.rank := rfl
@[simp] theorem State.onQueue_acc (q : Nat) (f : CmdQueue → CmdQueue) : (s.onQueue q f).acc = s.acc := rfl
@[simp] theorem State.onQueue_bus (q : Nat) (f : CmdQueue → CmdQueue) : (s.onQueue q f).bus = s.bus := rfl
@[simp] theorem State.onQueue_flt (q : Nat) (f : CmdQueue → CmdQueue) : (s.onQueue q f).flt = s.flt := rfl
@[simp] theorem State.onQueue_rcd (q : Nat) (f : CmdQueue → CmdQueue) : (s.onQueue q f).rcd = s.rcd := rfl
@[simp] theorem State.onQueue_at_source (q : Nat) (f : CmdQueue → CmdQueue) (x : Nat) : (s.onQueue q f).source x = s.source x := rfl
@[simp] theorem State.onQueue_at_ctx (q : Nat) (f : CmdQueue → CmdQueue) (x : Nat) : (s.onQueue q f).ctx x = s.ctx x := rfl
@[simp] theorem State.onQueue_at_tgt (q : Nat) (f : CmdQueue → CmdQueue) (x : Nat) : (s.onQueue q f).tgt x = s.tgt x := rfl
@[simp] theorem State.onQueue_at_grp (q : Nat) (f : CmdQueue → CmdQueue) (x : Nat) : (s.onQueue q f).grp x = s.grp x := rfl
@[simp] theorem State.onQueue_at_link (q : Nat) (f : CmdQueue → CmdQueue) (x : Nat) : (s.onQueue q f).link x = s.link x := rfl
@[simp] theorem State.onQueue_at_chan (q : Nat) (f : CmdQueue → CmdQueue) (x : Nat) : (s.onQueue q f).chan x = s.chan x := rfl
@[simp] theorem State.onQueue_at_farChan (q : Nat) (f : CmdQueue → CmdQueue) (x : Nat) : (s.onQueue q f).farChan x = s.farChan x := rfl
@[simp] theorem State.onQueue_at_line (q : Nat) (f : CmdQueue → CmdQueue) (x : Nat) : (s.onQueue q f).line x = s.line x := rfl
@[simp] theorem State.onQueue_at_transEntry (q : Nat) (f : CmdQueue → CmdQueue) (x : Nat) : (s.onQueue q f).transEntry x = s.transEntry x := rfl
@[simp] theorem State.onQueue_at_page (q : Nat) (f : CmdQueue → CmdQueue) (x : Nat) : (s.onQueue q f).page x = s.page x := rfl
@[simp] theorem State.onQueue_at_ledger (q : Nat) (f : CmdQueue → CmdQueue) (x : Nat) : (s.onQueue q f).ledger x = s.ledger x := rfl
@[simp] theorem State.onQueue_at_isHeld (q : Nat) (f : CmdQueue → CmdQueue) (x : Nat) : (s.onQueue q f).isHeld x = s.isHeld x := rfl
@[simp] theorem State.onQueue_at_slot (q : Nat) (f : CmdQueue → CmdQueue) (x : Nat) : (s.onQueue q f).slot x = s.slot x := rfl
@[simp] theorem State.onQueue_tick (q : Nat) (f : CmdQueue → CmdQueue) : (s.onQueue q f).tick = s.tick := rfl
@[simp] theorem State.onQueue_cmd_deferred (q : Nat) (f : CmdQueue → CmdQueue) : (s.onQueue q f).cmd.deferred = s.cmd.deferred := rfl
@[simp] theorem State.onQueue_cmd_nextId (q : Nat) (f : CmdQueue → CmdQueue) : (s.onQueue q f).cmd.nextId = s.cmd.nextId := rfl
@[simp] theorem State.onQueue_cmd_cdw (q : Nat) (f : CmdQueue → CmdQueue) : (s.onQueue q f).cmd.cdw = s.cmd.cdw := rfl
@[simp] theorem State.onQueue_cmd_reverts (q : Nat) (f : CmdQueue → CmdQueue) : (s.onQueue q f).cmd.reverts = s.cmd.reverts := rfl
@[simp] theorem State.onQueue_cmd_fwReady (q : Nat) (f : CmdQueue → CmdQueue) : (s.onQueue q f).cmd.fwReady = s.cmd.fwReady := rfl
@[simp] theorem State.onQueue_cmd_patch (q : Nat) (f : CmdQueue → CmdQueue) : (s.onQueue q f).cmd.patch = s.cmd.patch := rfl
@[simp] theorem State.onQueue_cmd_patchFail (q : Nat) (f : CmdQueue → CmdQueue) : (s.onQueue q f).cmd.patchFail = s.cmd.patchFail := rfl
@[simp] theorem State.onQueue_cmd_pairsDisabled (q : Nat) (f : CmdQueue → CmdQueue) : (s.onQueue q f).cmd.pairsDisabled = s.cmd.pairsDisabled := rfl
@[simp] theorem State.onQueue_cmd_pairsRestarting (q : Nat) (f : CmdQueue → CmdQueue) : (s.onQueue q f).cmd.pairsRestarting = s.cmd.pairsRestarting := rfl
@[simp] theorem State.onQueue_cmd_restarts (q : Nat) (f : CmdQueue → CmdQueue) : (s.onQueue q f).cmd.restarts = s.cmd.restarts := rfl
@[simp] theorem State.onQueue_cmd_lastRestart (q : Nat) (f : CmdQueue → CmdQueue) : (s.onQueue q f).cmd.lastRestart = s.cmd.lastRestart := rfl
@[simp] theorem State.onQueue_cmd_gates (q : Nat) (f : CmdQueue → CmdQueue) : (s.onQueue q f).cmd.gates = s.cmd.gates := rfl
@[simp] theorem State.onQueue_cmd_commitReply (q : Nat) (f : CmdQueue → CmdQueue) : (s.onQueue q f).cmd.commitReply = s.cmd.commitReply := rfl
@[simp] theorem State.onQueue_cmd_cutReplies (q : Nat) (f : CmdQueue → CmdQueue) : (s.onQueue q f).cmd.cutReplies = s.cmd.cutReplies := rfl
@[simp] theorem State.onQueue_cmd_parts (q : Nat) (f : CmdQueue → CmdQueue) : (s.onQueue q f).cmd.parts = s.cmd.parts := rfl

/-! ### restoreCell -/

@[simp] theorem State.restoreCell_pending (e : Nat) : (s.restoreCell e).pending = s.pending := rfl
@[simp] theorem State.restoreCell_now (e : Nat) : (s.restoreCell e).now = s.now := rfl
@[simp] theorem State.restoreCell_free (e : Nat) : (s.restoreCell e).free = s.free := rfl
@[simp] theorem State.restoreCell_pins (e : Nat) : (s.restoreCell e).pins = s.pins := rfl
@[simp] theorem State.restoreCell_strap (e : Nat) : (s.restoreCell e).strap = s.strap := rfl
@[simp] theorem State.restoreCell_mode (e : Nat) : (s.restoreCell e).mode = s.mode := rfl
@[simp] theorem State.restoreCell_rst (e : Nat) : (s.restoreCell e).rst = s.rst := rfl
@[simp] theorem State.restoreCell_tb (e : Nat) : (s.restoreCell e).tb = s.tb := rfl
@[simp] theorem State.restoreCell_pwr (e : Nat) : (s.restoreCell e).pwr = s.pwr := rfl
@[simp] theorem State.restoreCell_cfg (e : Nat) : (s.restoreCell e).cfg = s.cfg := rfl
@[simp] theorem State.restoreCell_lines (e : Nat) : (s.restoreCell e).lines = s.lines := rfl
@[simp] theorem State.restoreCell_src (e : Nat) : (s.restoreCell e).src = s.src := rfl
@[simp] theorem State.restoreCell_scrub (e : Nat) : (s.restoreCell e).scrub = s.scrub := rfl
@[simp] theorem State.restoreCell_scrubbed (e : Nat) : (s.restoreCell e).scrubbed = s.scrubbed := rfl
@[simp] theorem State.restoreCell_parked (e : Nat) : (s.restoreCell e).parked = s.parked := rfl
@[simp] theorem State.restoreCell_waiting (e : Nat) : (s.restoreCell e).waiting = s.waiting := rfl
@[simp] theorem State.restoreCell_house (e : Nat) : (s.restoreCell e).house = s.house := rfl
@[simp] theorem State.restoreCell_trans (e : Nat) : (s.restoreCell e).trans = s.trans := rfl
@[simp] theorem State.restoreCell_pages (e : Nat) : (s.restoreCell e).pages = s.pages := rfl
@[simp] theorem State.restoreCell_groups (e : Nat) : (s.restoreCell e).groups = s.groups := rfl
@[simp] theorem State.restoreCell_counts (e : Nat) : (s.restoreCell e).counts = s.counts := rfl
@[simp] theorem State.restoreCell_insts (e : Nat) : (s.restoreCell e).insts = s.insts := rfl
@[simp] theorem State.restoreCell_tgts (e : Nat) : (s.restoreCell e).tgts = s.tgts := rfl
@[simp] theorem State.restoreCell_links (e : Nat) : (s.restoreCell e).links = s.links := rfl
@[simp] theorem State.restoreCell_inch (e : Nat) : (s.restoreCell e).inch = s.inch := rfl
@[simp] theorem State.restoreCell_relays (e : Nat) : (s.restoreCell e).relays = s.relays := rfl
@[simp] theorem State.restoreCell_poolTop (e : Nat) : (s.restoreCell e).poolTop = s.poolTop := rfl
@[simp] theorem State.restoreCell_relayTop (e : Nat) : (s.restoreCell e).relayTop = s.relayTop := rfl
@[simp] theorem State.restoreCell_farch (e : Nat) : (s.restoreCell e).farch = s.farch := rfl
@[simp] theorem State.restoreCell_ldg (e : Nat) : (s.restoreCell e).ldg = s.ldg := rfl
@[simp] theorem State.restoreCell_sweeps (e : Nat) : (s.restoreCell e).sweeps = s.sweeps := rfl
@[simp] theorem State.restoreCell_clusters (e : Nat) : (s.restoreCell e).clusters = s.clusters := rfl
@[simp] theorem State.restoreCell_rank (e : Nat) : (s.restoreCell e).rank = s.rank := rfl
@[simp] theorem State.restoreCell_cmd (e : Nat) : (s.restoreCell e).cmd = s.cmd := rfl
@[simp] theorem State.restoreCell_acc (e : Nat) : (s.restoreCell e).acc = s.acc := rfl
@[simp] theorem State.restoreCell_bus (e : Nat) : (s.restoreCell e).bus = s.bus := rfl
@[simp] theorem State.restoreCell_flt (e : Nat) : (s.restoreCell e).flt = s.flt := rfl
@[simp] theorem State.restoreCell_rcd (e : Nat) : (s.restoreCell e).rcd = s.rcd := rfl
@[simp] theorem State.restoreCell_at_source (e : Nat) (x : Nat) : (s.restoreCell e).source x = s.source x := rfl
@[simp] theorem State.restoreCell_at_ctx (e : Nat) (x : Nat) : (s.restoreCell e).ctx x = s.ctx x := rfl
@[simp] theorem State.restoreCell_at_tgt (e : Nat) (x : Nat) : (s.restoreCell e).tgt x = s.tgt x := rfl
@[simp] theorem State.restoreCell_at_grp (e : Nat) (x : Nat) : (s.restoreCell e).grp x = s.grp x := rfl
@[simp] theorem State.restoreCell_at_link (e : Nat) (x : Nat) : (s.restoreCell e).link x = s.link x := rfl
@[simp] theorem State.restoreCell_at_chan (e : Nat) (x : Nat) : (s.restoreCell e).chan x = s.chan x := rfl
@[simp] theorem State.restoreCell_at_farChan (e : Nat) (x : Nat) : (s.restoreCell e).farChan x = s.farChan x := rfl
@[simp] theorem State.restoreCell_at_line (e : Nat) (x : Nat) : (s.restoreCell e).line x = s.line x := rfl
@[simp] theorem State.restoreCell_at_transEntry (e : Nat) (x : Nat) : (s.restoreCell e).transEntry x = s.transEntry x := rfl
@[simp] theorem State.restoreCell_at_page (e : Nat) (x : Nat) : (s.restoreCell e).page x = s.page x := rfl
@[simp] theorem State.restoreCell_at_queue (e : Nat) (x : Nat) : (s.restoreCell e).queue x = s.queue x := rfl
@[simp] theorem State.restoreCell_at_ledger (e : Nat) (x : Nat) : (s.restoreCell e).ledger x = s.ledger x := rfl
@[simp] theorem State.restoreCell_at_isHeld (e : Nat) (x : Nat) : (s.restoreCell e).isHeld x = s.isHeld x := rfl
@[simp] theorem State.restoreCell_at_slot (e : Nat) (x : Nat) : (s.restoreCell e).slot x = s.slot x := rfl
@[simp] theorem State.restoreCell_tick (e : Nat) : (s.restoreCell e).tick = s.tick := rfl

/-! ### recCount -/

@[simp] theorem State.recCount_pending (k n : Nat) : (s.recCount k n).pending = s.pending := rfl
@[simp] theorem State.recCount_now (k n : Nat) : (s.recCount k n).now = s.now := rfl
@[simp] theorem State.recCount_free (k n : Nat) : (s.recCount k n).free = s.free := rfl
@[simp] theorem State.recCount_pins (k n : Nat) : (s.recCount k n).pins = s.pins := rfl
@[simp] theorem State.recCount_strap (k n : Nat) : (s.recCount k n).strap = s.strap := rfl
@[simp] theorem State.recCount_mode (k n : Nat) : (s.recCount k n).mode = s.mode := rfl
@[simp] theorem State.recCount_rst (k n : Nat) : (s.recCount k n).rst = s.rst := rfl
@[simp] theorem State.recCount_tb (k n : Nat) : (s.recCount k n).tb = s.tb := rfl
@[simp] theorem State.recCount_pwr (k n : Nat) : (s.recCount k n).pwr = s.pwr := rfl
@[simp] theorem State.recCount_cfg (k n : Nat) : (s.recCount k n).cfg = s.cfg := rfl
@[simp] theorem State.recCount_lines (k n : Nat) : (s.recCount k n).lines = s.lines := rfl
@[simp] theorem State.recCount_src (k n : Nat) : (s.recCount k n).src = s.src := rfl
@[simp] theorem State.recCount_lost (k n : Nat) : (s.recCount k n).lost = s.lost := rfl
@[simp] theorem State.recCount_scrub (k n : Nat) : (s.recCount k n).scrub = s.scrub := rfl
@[simp] theorem State.recCount_scrubbed (k n : Nat) : (s.recCount k n).scrubbed = s.scrubbed := rfl
@[simp] theorem State.recCount_parked (k n : Nat) : (s.recCount k n).parked = s.parked := rfl
@[simp] theorem State.recCount_waiting (k n : Nat) : (s.recCount k n).waiting = s.waiting := rfl
@[simp] theorem State.recCount_house (k n : Nat) : (s.recCount k n).house = s.house := rfl
@[simp] theorem State.recCount_trans (k n : Nat) : (s.recCount k n).trans = s.trans := rfl
@[simp] theorem State.recCount_pages (k n : Nat) : (s.recCount k n).pages = s.pages := rfl
@[simp] theorem State.recCount_groups (k n : Nat) : (s.recCount k n).groups = s.groups := rfl
@[simp] theorem State.recCount_counts (k n : Nat) : (s.recCount k n).counts = s.counts := rfl
@[simp] theorem State.recCount_insts (k n : Nat) : (s.recCount k n).insts = s.insts := rfl
@[simp] theorem State.recCount_tgts (k n : Nat) : (s.recCount k n).tgts = s.tgts := rfl
@[simp] theorem State.recCount_links (k n : Nat) : (s.recCount k n).links = s.links := rfl
@[simp] theorem State.recCount_inch (k n : Nat) : (s.recCount k n).inch = s.inch := rfl
@[simp] theorem State.recCount_relays (k n : Nat) : (s.recCount k n).relays = s.relays := rfl
@[simp] theorem State.recCount_poolTop (k n : Nat) : (s.recCount k n).poolTop = s.poolTop := rfl
@[simp] theorem State.recCount_relayTop (k n : Nat) : (s.recCount k n).relayTop = s.relayTop := rfl
@[simp] theorem State.recCount_farch (k n : Nat) : (s.recCount k n).farch = s.farch := rfl
@[simp] theorem State.recCount_ldg (k n : Nat) : (s.recCount k n).ldg = s.ldg := rfl
@[simp] theorem State.recCount_sweeps (k n : Nat) : (s.recCount k n).sweeps = s.sweeps := rfl
@[simp] theorem State.recCount_clusters (k n : Nat) : (s.recCount k n).clusters = s.clusters := rfl
@[simp] theorem State.recCount_rank (k n : Nat) : (s.recCount k n).rank = s.rank := rfl
@[simp] theorem State.recCount_cmd (k n : Nat) : (s.recCount k n).cmd = s.cmd := rfl
@[simp] theorem State.recCount_acc (k n : Nat) : (s.recCount k n).acc = s.acc := rfl
@[simp] theorem State.recCount_bus (k n : Nat) : (s.recCount k n).bus = s.bus := rfl
@[simp] theorem State.recCount_flt (k n : Nat) : (s.recCount k n).flt = s.flt := rfl
@[simp] theorem State.recCount_at_source (k n : Nat) (x : Nat) : (s.recCount k n).source x = s.source x := rfl
@[simp] theorem State.recCount_at_ctx (k n : Nat) (x : Nat) : (s.recCount k n).ctx x = s.ctx x := rfl
@[simp] theorem State.recCount_at_tgt (k n : Nat) (x : Nat) : (s.recCount k n).tgt x = s.tgt x := rfl
@[simp] theorem State.recCount_at_grp (k n : Nat) (x : Nat) : (s.recCount k n).grp x = s.grp x := rfl
@[simp] theorem State.recCount_at_link (k n : Nat) (x : Nat) : (s.recCount k n).link x = s.link x := rfl
@[simp] theorem State.recCount_at_chan (k n : Nat) (x : Nat) : (s.recCount k n).chan x = s.chan x := rfl
@[simp] theorem State.recCount_at_farChan (k n : Nat) (x : Nat) : (s.recCount k n).farChan x = s.farChan x := rfl
@[simp] theorem State.recCount_at_line (k n : Nat) (x : Nat) : (s.recCount k n).line x = s.line x := rfl
@[simp] theorem State.recCount_at_transEntry (k n : Nat) (x : Nat) : (s.recCount k n).transEntry x = s.transEntry x := rfl
@[simp] theorem State.recCount_at_page (k n : Nat) (x : Nat) : (s.recCount k n).page x = s.page x := rfl
@[simp] theorem State.recCount_at_queue (k n : Nat) (x : Nat) : (s.recCount k n).queue x = s.queue x := rfl
@[simp] theorem State.recCount_at_ledger (k n : Nat) (x : Nat) : (s.recCount k n).ledger x = s.ledger x := rfl
@[simp] theorem State.recCount_at_isHeld (k n : Nat) (x : Nat) : (s.recCount k n).isHeld x = s.isHeld x := rfl
@[simp] theorem State.recCount_at_slot (k n : Nat) (x : Nat) : (s.recCount k n).slot x = s.slot x := rfl
@[simp] theorem State.recCount_tick (k n : Nat) : (s.recCount k n).tick = s.tick := rfl

/-! ### stageOk -/

@[simp] theorem State.stageOk_pending (part unit : Nat) : (s.stageOk part unit).pending = s.pending := rfl
@[simp] theorem State.stageOk_now (part unit : Nat) : (s.stageOk part unit).now = s.now := rfl
@[simp] theorem State.stageOk_free (part unit : Nat) : (s.stageOk part unit).free = s.free := rfl
@[simp] theorem State.stageOk_pins (part unit : Nat) : (s.stageOk part unit).pins = s.pins := rfl
@[simp] theorem State.stageOk_strap (part unit : Nat) : (s.stageOk part unit).strap = s.strap := rfl
@[simp] theorem State.stageOk_mode (part unit : Nat) : (s.stageOk part unit).mode = s.mode := rfl
@[simp] theorem State.stageOk_rst (part unit : Nat) : (s.stageOk part unit).rst = s.rst := rfl
@[simp] theorem State.stageOk_tb (part unit : Nat) : (s.stageOk part unit).tb = s.tb := rfl
@[simp] theorem State.stageOk_pwr (part unit : Nat) : (s.stageOk part unit).pwr = s.pwr := rfl
@[simp] theorem State.stageOk_cfg (part unit : Nat) : (s.stageOk part unit).cfg = s.cfg := rfl
@[simp] theorem State.stageOk_lines (part unit : Nat) : (s.stageOk part unit).lines = s.lines := rfl
@[simp] theorem State.stageOk_src (part unit : Nat) : (s.stageOk part unit).src = s.src := rfl
@[simp] theorem State.stageOk_lost (part unit : Nat) : (s.stageOk part unit).lost = s.lost := rfl
@[simp] theorem State.stageOk_scrub (part unit : Nat) : (s.stageOk part unit).scrub = s.scrub := rfl
@[simp] theorem State.stageOk_scrubbed (part unit : Nat) : (s.stageOk part unit).scrubbed = s.scrubbed := rfl
@[simp] theorem State.stageOk_parked (part unit : Nat) : (s.stageOk part unit).parked = s.parked := rfl
@[simp] theorem State.stageOk_waiting (part unit : Nat) : (s.stageOk part unit).waiting = s.waiting := rfl
@[simp] theorem State.stageOk_house (part unit : Nat) : (s.stageOk part unit).house = s.house := rfl
@[simp] theorem State.stageOk_trans (part unit : Nat) : (s.stageOk part unit).trans = s.trans := rfl
@[simp] theorem State.stageOk_pages (part unit : Nat) : (s.stageOk part unit).pages = s.pages := rfl
@[simp] theorem State.stageOk_groups (part unit : Nat) : (s.stageOk part unit).groups = s.groups := rfl
@[simp] theorem State.stageOk_counts (part unit : Nat) : (s.stageOk part unit).counts = s.counts := rfl
@[simp] theorem State.stageOk_insts (part unit : Nat) : (s.stageOk part unit).insts = s.insts := rfl
@[simp] theorem State.stageOk_tgts (part unit : Nat) : (s.stageOk part unit).tgts = s.tgts := rfl
@[simp] theorem State.stageOk_links (part unit : Nat) : (s.stageOk part unit).links = s.links := rfl
@[simp] theorem State.stageOk_inch (part unit : Nat) : (s.stageOk part unit).inch = s.inch := rfl
@[simp] theorem State.stageOk_relays (part unit : Nat) : (s.stageOk part unit).relays = s.relays := rfl
@[simp] theorem State.stageOk_poolTop (part unit : Nat) : (s.stageOk part unit).poolTop = s.poolTop := rfl
@[simp] theorem State.stageOk_relayTop (part unit : Nat) : (s.stageOk part unit).relayTop = s.relayTop := rfl
@[simp] theorem State.stageOk_farch (part unit : Nat) : (s.stageOk part unit).farch = s.farch := rfl
@[simp] theorem State.stageOk_ldg (part unit : Nat) : (s.stageOk part unit).ldg = s.ldg := rfl
@[simp] theorem State.stageOk_sweeps (part unit : Nat) : (s.stageOk part unit).sweeps = s.sweeps := rfl
@[simp] theorem State.stageOk_clusters (part unit : Nat) : (s.stageOk part unit).clusters = s.clusters := rfl
@[simp] theorem State.stageOk_rank (part unit : Nat) : (s.stageOk part unit).rank = s.rank := rfl
@[simp] theorem State.stageOk_cmd (part unit : Nat) : (s.stageOk part unit).cmd = s.cmd := rfl
@[simp] theorem State.stageOk_acc (part unit : Nat) : (s.stageOk part unit).acc = s.acc := rfl
@[simp] theorem State.stageOk_bus (part unit : Nat) : (s.stageOk part unit).bus = s.bus := rfl
@[simp] theorem State.stageOk_rcd (part unit : Nat) : (s.stageOk part unit).rcd = s.rcd := rfl
@[simp] theorem State.stageOk_at_source (part unit : Nat) (x : Nat) : (s.stageOk part unit).source x = s.source x := rfl
@[simp] theorem State.stageOk_at_ctx (part unit : Nat) (x : Nat) : (s.stageOk part unit).ctx x = s.ctx x := rfl
@[simp] theorem State.stageOk_at_tgt (part unit : Nat) (x : Nat) : (s.stageOk part unit).tgt x = s.tgt x := rfl
@[simp] theorem State.stageOk_at_grp (part unit : Nat) (x : Nat) : (s.stageOk part unit).grp x = s.grp x := rfl
@[simp] theorem State.stageOk_at_link (part unit : Nat) (x : Nat) : (s.stageOk part unit).link x = s.link x := rfl
@[simp] theorem State.stageOk_at_chan (part unit : Nat) (x : Nat) : (s.stageOk part unit).chan x = s.chan x := rfl
@[simp] theorem State.stageOk_at_farChan (part unit : Nat) (x : Nat) : (s.stageOk part unit).farChan x = s.farChan x := rfl
@[simp] theorem State.stageOk_at_line (part unit : Nat) (x : Nat) : (s.stageOk part unit).line x = s.line x := rfl
@[simp] theorem State.stageOk_at_transEntry (part unit : Nat) (x : Nat) : (s.stageOk part unit).transEntry x = s.transEntry x := rfl
@[simp] theorem State.stageOk_at_page (part unit : Nat) (x : Nat) : (s.stageOk part unit).page x = s.page x := rfl
@[simp] theorem State.stageOk_at_queue (part unit : Nat) (x : Nat) : (s.stageOk part unit).queue x = s.queue x := rfl
@[simp] theorem State.stageOk_at_ledger (part unit : Nat) (x : Nat) : (s.stageOk part unit).ledger x = s.ledger x := rfl
@[simp] theorem State.stageOk_at_isHeld (part unit : Nat) (x : Nat) : (s.stageOk part unit).isHeld x = s.isHeld x := rfl
@[simp] theorem State.stageOk_at_slot (part unit : Nat) (x : Nat) : (s.stageOk part unit).slot x = s.slot x := rfl
@[simp] theorem State.stageOk_tick (part unit : Nat) : (s.stageOk part unit).tick = s.tick := rfl
@[simp] theorem State.stageOk_flt_corr (part unit : Nat) : (s.stageOk part unit).flt.corr = s.flt.corr := rfl
@[simp] theorem State.stageOk_flt_cont (part unit : Nat) : (s.stageOk part unit).flt.cont = s.flt.cont := rfl
@[simp] theorem State.stageOk_flt_cwr (part unit : Nat) : (s.stageOk part unit).flt.cwr = s.flt.cwr := rfl
@[simp] theorem State.stageOk_flt_uncont (part unit : Nat) : (s.stageOk part unit).flt.uncont = s.flt.uncont := rfl
@[simp] theorem State.stageOk_flt_new_ (part unit : Nat) : (s.stageOk part unit).flt.new_ = s.flt.new_ := rfl
@[simp] theorem State.stageOk_flt_seq (part unit : Nat) : (s.stageOk part unit).flt.seq = s.flt.seq := rfl
@[simp] theorem State.stageOk_flt_count (part unit : Nat) : (s.stageOk part unit).flt.count = s.flt.count := rfl
@[simp] theorem State.stageOk_flt_mergedCount (part unit : Nat) : (s.stageOk part unit).flt.mergedCount = s.flt.mergedCount := rfl
@[simp] theorem State.stageOk_flt_queue (part unit : Nat) : (s.stageOk part unit).flt.queue = s.flt.queue := rfl
@[simp] theorem State.stageOk_flt_qdrop (part unit : Nat) : (s.stageOk part unit).flt.qdrop = s.flt.qdrop := rfl
@[simp] theorem State.stageOk_flt_dropsOwed (part unit : Nat) : (s.stageOk part unit).flt.dropsOwed = s.flt.dropsOwed := rfl
@[simp] theorem State.stageOk_flt_escNotify (part unit : Nat) : (s.stageOk part unit).flt.escNotify = s.flt.escNotify := rfl
@[simp] theorem State.stageOk_flt_escRecovery (part unit : Nat) : (s.stageOk part unit).flt.escRecovery = s.flt.escRecovery := rfl
@[simp] theorem State.stageOk_flt_escWarm (part unit : Nat) : (s.stageOk part unit).flt.escWarm = s.flt.escWarm := rfl
@[simp] theorem State.stageOk_flt_log (part unit : Nat) : (s.stageOk part unit).flt.log = s.flt.log := rfl
@[simp] theorem State.stageOk_flt_pre (part unit : Nat) : (s.stageOk part unit).flt.pre = s.flt.pre := rfl

/-! ### Reading the entry written -/

theorem State.source_putSource (e : Nat) (r : SrcRec) (x : Nat) : (s.putSource e r).source x = if e = x then r else s.source x :=
  tget_tset _ _ _ _ _
@[simp] theorem State.source_putSource_same (e : Nat) (r : SrcRec) : (s.putSource e r).source e = r := by simp [State.source_putSource]
theorem State.source_putSource_ne (e : Nat) (r : SrcRec) {x : Nat} (h : e ≠ x) : (s.putSource e r).source x = s.source x := by simp [State.source_putSource, h]
theorem State.source_onSource (e : Nat) (f : SrcRec → SrcRec) (x : Nat) : (s.onSource e f).source x = if e = x then f (s.source e) else s.source x :=
  tget_tset _ _ _ _ _
@[simp] theorem State.source_onSource_same (e : Nat) (f : SrcRec → SrcRec) : (s.onSource e f).source e = f (s.source e) := by simp [State.source_onSource]
theorem State.source_onSource_ne (e : Nat) (f : SrcRec → SrcRec) {x : Nat} (h : e ≠ x) : (s.onSource e f).source x = s.source x := by simp [State.source_onSource, h]
theorem State.ctx_putCtx (i : Nat) (c : Inst) (x : Nat) : (s.putCtx i c).ctx x = if i = x then c else s.ctx x :=
  tget_tset _ _ _ _ _
@[simp] theorem State.ctx_putCtx_same (i : Nat) (c : Inst) : (s.putCtx i c).ctx i = c := by simp [State.ctx_putCtx]
theorem State.ctx_putCtx_ne (i : Nat) (c : Inst) {x : Nat} (h : i ≠ x) : (s.putCtx i c).ctx x = s.ctx x := by simp [State.ctx_putCtx, h]
theorem State.ctx_onCtx (i : Nat) (f : Inst → Inst) (x : Nat) : (s.onCtx i f).ctx x = if i = x then f (s.ctx i) else s.ctx x :=
  tget_tset _ _ _ _ _
@[simp] theorem State.ctx_onCtx_same (i : Nat) (f : Inst → Inst) : (s.onCtx i f).ctx i = f (s.ctx i) := by simp [State.ctx_onCtx]
theorem State.ctx_onCtx_ne (i : Nat) (f : Inst → Inst) {x : Nat} (h : i ≠ x) : (s.onCtx i f).ctx x = s.ctx x := by simp [State.ctx_onCtx, h]
theorem State.tgt_putTgt (t : Nat) (c : Tgt) (x : Nat) : (s.putTgt t c).tgt x = if t = x then c else s.tgt x :=
  tget_tset _ _ _ _ _
@[simp] theorem State.tgt_putTgt_same (t : Nat) (c : Tgt) : (s.putTgt t c).tgt t = c := by simp [State.tgt_putTgt]
theorem State.tgt_putTgt_ne (t : Nat) (c : Tgt) {x : Nat} (h : t ≠ x) : (s.putTgt t c).tgt x = s.tgt x := by simp [State.tgt_putTgt, h]
theorem State.tgt_onTgt (t : Nat) (f : Tgt → Tgt) (x : Nat) : (s.onTgt t f).tgt x = if t = x then f (s.tgt t) else s.tgt x :=
  tget_tset _ _ _ _ _
@[simp] theorem State.tgt_onTgt_same (t : Nat) (f : Tgt → Tgt) : (s.onTgt t f).tgt t = f (s.tgt t) := by simp [State.tgt_onTgt]
theorem State.tgt_onTgt_ne (t : Nat) (f : Tgt → Tgt) {x : Nat} (h : t ≠ x) : (s.onTgt t f).tgt x = s.tgt x := by simp [State.tgt_onTgt, h]
theorem State.grp_putGrp (g : Nat) (c : Group) (x : Nat) : (s.putGrp g c).grp x = if g = x then c else s.grp x :=
  tget_tset _ _ _ _ _
@[simp] theorem State.grp_putGrp_same (g : Nat) (c : Group) : (s.putGrp g c).grp g = c := by simp [State.grp_putGrp]
theorem State.grp_putGrp_ne (g : Nat) (c : Group) {x : Nat} (h : g ≠ x) : (s.putGrp g c).grp x = s.grp x := by simp [State.grp_putGrp, h]
theorem State.grp_onGrp (g : Nat) (f : Group → Group) (x : Nat) : (s.onGrp g f).grp x = if g = x then f (s.grp g) else s.grp x :=
  tget_tset _ _ _ _ _
@[simp] theorem State.grp_onGrp_same (g : Nat) (f : Group → Group) : (s.onGrp g f).grp g = f (s.grp g) := by simp [State.grp_onGrp]
theorem State.grp_onGrp_ne (g : Nat) (f : Group → Group) {x : Nat} (h : g ≠ x) : (s.onGrp g f).grp x = s.grp x := by simp [State.grp_onGrp, h]
theorem State.link_onLink (g : Nat) (f : Link → Link) (x : Nat) : (s.onLink g f).link x = if g = x then f (s.link g) else s.link x :=
  tget_tset _ _ _ _ _
@[simp] theorem State.link_onLink_same (g : Nat) (f : Link → Link) : (s.onLink g f).link g = f (s.link g) := by simp [State.link_onLink]
theorem State.link_onLink_ne (g : Nat) (f : Link → Link) {x : Nat} (h : g ≠ x) : (s.onLink g f).link x = s.link x := by simp [State.link_onLink, h]
theorem State.chan_onChan (c : Nat) (f : InChan → InChan) (x : Nat) : (s.onChan c f).chan x = if c = x then f (s.chan c) else s.chan x :=
  tget_tset _ _ _ _ _
@[simp] theorem State.chan_onChan_same (c : Nat) (f : InChan → InChan) : (s.onChan c f).chan c = f (s.chan c) := by simp [State.chan_onChan]
theorem State.chan_onChan_ne (c : Nat) (f : InChan → InChan) {x : Nat} (h : c ≠ x) : (s.onChan c f).chan x = s.chan x := by simp [State.chan_onChan, h]
theorem State.farChan_onFarChan (c : Nat) (f : FarChan → FarChan) (x : Nat) : (s.onFarChan c f).farChan x = if c = x then f (s.farChan c) else s.farChan x :=
  tget_tset _ _ _ _ _
@[simp] theorem State.farChan_onFarChan_same (c : Nat) (f : FarChan → FarChan) : (s.onFarChan c f).farChan c = f (s.farChan c) := by simp [State.farChan_onFarChan]
theorem State.farChan_onFarChan_ne (c : Nat) (f : FarChan → FarChan) {x : Nat} (h : c ≠ x) : (s.onFarChan c f).farChan x = s.farChan x := by simp [State.farChan_onFarChan, h]
theorem State.line_onLine (k : Nat) (f : Line → Line) (x : Nat) : (s.onLine k f).line x = if k = x then f (s.line k) else s.line x :=
  tget_tset _ _ _ _ _
@[simp] theorem State.line_onLine_same (k : Nat) (f : Line → Line) : (s.onLine k f).line k = f (s.line k) := by simp [State.line_onLine]
theorem State.line_onLine_ne (k : Nat) (f : Line → Line) {x : Nat} (h : k ≠ x) : (s.onLine k f).line x = s.line x := by simp [State.line_onLine, h]
theorem State.transEntry_putTrans (n : Nat) (v : TransEntry) (x : Nat) : (s.putTrans n v).transEntry x = if n = x then v else s.transEntry x :=
  tget_tset _ _ _ _ _
@[simp] theorem State.transEntry_putTrans_same (n : Nat) (v : TransEntry) : (s.putTrans n v).transEntry n = v := by simp [State.transEntry_putTrans]
theorem State.transEntry_putTrans_ne (n : Nat) (v : TransEntry) {x : Nat} (h : n ≠ x) : (s.putTrans n v).transEntry x = s.transEntry x := by simp [State.transEntry_putTrans, h]
theorem State.page_putPage (n : Nat) (v : PageEntry) (x : Nat) : (s.putPage n v).page x = if n = x then v else s.page x :=
  tget_tset _ _ _ _ _
@[simp] theorem State.page_putPage_same (n : Nat) (v : PageEntry) : (s.putPage n v).page n = v := by simp [State.page_putPage]
theorem State.page_putPage_ne (n : Nat) (v : PageEntry) {x : Nat} (h : n ≠ x) : (s.putPage n v).page x = s.page x := by simp [State.page_putPage, h]
theorem State.queue_onQueue (q : Nat) (f : CmdQueue → CmdQueue) (x : Nat) : (s.onQueue q f).queue x = if q = x then f (s.queue q) else s.queue x :=
  tget_tset _ _ _ _ _
@[simp] theorem State.queue_onQueue_same (q : Nat) (f : CmdQueue → CmdQueue) : (s.onQueue q f).queue q = f (s.queue q) := by simp [State.queue_onQueue]
theorem State.queue_onQueue_ne (q : Nat) (f : CmdQueue → CmdQueue) {x : Nat} (h : q ≠ x) : (s.onQueue q f).queue x = s.queue x := by simp [State.queue_onQueue, h]
theorem State.tgt_onPort (t : Nat) (f : Port → Port) (x : Nat) : (s.onPort t f).tgt x = if t = x then { s.tgt t with port := f (s.tgt t).port } else s.tgt x :=
  tget_tset _ _ _ _ _
@[simp] theorem State.tgt_onPort_same (t : Nat) (f : Port → Port) : (s.onPort t f).tgt t = { s.tgt t with port := f (s.tgt t).port } := by simp [State.tgt_onPort]
theorem State.tgt_onPort_ne (t : Nat) (f : Port → Port) {x : Nat} (h : t ≠ x) : (s.onPort t f).tgt x = s.tgt x := by simp [State.tgt_onPort, h]
theorem State.tgt_onFar (t : Nat) (f : Far → Far) (x : Nat) : (s.onFar t f).tgt x = if t = x then { s.tgt t with far := f (s.tgt t).far } else s.tgt x :=
  tget_tset _ _ _ _ _
@[simp] theorem State.tgt_onFar_same (t : Nat) (f : Far → Far) : (s.onFar t f).tgt t = { s.tgt t with far := f (s.tgt t).far } := by simp [State.tgt_onFar]
theorem State.tgt_onFar_ne (t : Nat) (f : Far → Far) {x : Nat} (h : t ≠ x) : (s.onFar t f).tgt x = s.tgt x := by simp [State.tgt_onFar, h]

end Sys2Proof.Machine
end

