-- ==== Sys2Proof/Laws/Ops.lean ====
section
/-! SUPPORT. What the shared operations over records, ledgers, replies, clamps and notices leave, field by field. -/
namespace Sys2Proof.Machine

variable (s : State)

/-- Two states with the same fields are the same. -/
theorem State.ext_of {s t : State} (h_pending : s.pending = t.pending) (h_now : s.now = t.now) (h_free : s.free = t.free) (h_pins : s.pins = t.pins) (h_strap : s.strap = t.strap) (h_mode : s.mode = t.mode)
    (h_rst : s.rst = t.rst) (h_tb : s.tb = t.tb) (h_pwr : s.pwr = t.pwr) (h_cfg : s.cfg = t.cfg) (h_lines : s.lines = t.lines) (h_src : s.src = t.src)
    (h_lost : s.lost = t.lost) (h_scrub : s.scrub = t.scrub) (h_scrubbed : s.scrubbed = t.scrubbed) (h_parked : s.parked = t.parked) (h_waiting : s.waiting = t.waiting) (h_house : s.house = t.house)
    (h_trans : s.trans = t.trans) (h_pages : s.pages = t.pages) (h_groups : s.groups = t.groups) (h_counts : s.counts = t.counts)
    (h_insts : s.insts = t.insts)
    (h_tgts : s.tgts = t.tgts) (h_links : s.links = t.links) (h_inch : s.inch = t.inch) (h_relays : s.relays = t.relays) (h_poolTop : s.poolTop = t.poolTop) (h_relayTop : s.relayTop = t.relayTop) (h_farch : s.farch = t.farch)
    (h_ldg : s.ldg = t.ldg) (h_sweeps : s.sweeps = t.sweeps) (h_clusters : s.clusters = t.clusters) (h_rank : s.rank = t.rank) (h_cmd : s.cmd = t.cmd) (h_acc : s.acc = t.acc) (h_bus : s.bus = t.bus) (h_flt : s.flt = t.flt) (h_rcd : s.rcd = t.rcd) : s = t := by
  cases s; cases t; simp_all

/-- Every unit keeps the conservation equation (R132). -/
theorem Ledger.move_balanced (l : Ledger) (u : Tally) (h : l.balanced = true) : (l.move u).balanced = true := by
  simp only [Ledger.balanced, Ledger.rhs, beq_iff_eq] at *
  cases u <;> simp only [Ledger.move, inc64, dec64] <;> omega

/-- A unit moves the ledger of its instance, the block ledger and no other ledger (R16). -/
theorem State.ledger_ledge (i : Nat) (u : Tally) (j : Nat) :
    (s.ledge i u).ledger j = if i = j then (s.ledger i).move u else s.ledger j := by
  cases u <;> exact tget_tset _ _ _ _ _

theorem State.block_ledge (i : Nat) (u : Tally) : (s.ledge i u).ldg.block = s.ldg.block.move u := by cases u <;> rfl

/-! ### ledge -/

@[simp] theorem State.ledge_pending (i : Nat) (u : Tally) : (s.ledge i u).pending = s.pending := by cases u <;> rfl
@[simp] theorem State.ledge_now (i : Nat) (u : Tally) : (s.ledge i u).now = s.now := by cases u <;> rfl
@[simp] theorem State.ledge_free (i : Nat) (u : Tally) : (s.ledge i u).free = s.free := by cases u <;> rfl
@[simp] theorem State.ledge_pins (i : Nat) (u : Tally) : (s.ledge i u).pins = s.pins := by cases u <;> rfl
@[simp] theorem State.ledge_strap (i : Nat) (u : Tally) : (s.ledge i u).strap = s.strap := by cases u <;> rfl
@[simp] theorem State.ledge_mode (i : Nat) (u : Tally) : (s.ledge i u).mode = s.mode := by cases u <;> rfl
@[simp] theorem State.ledge_rst (i : Nat) (u : Tally) : (s.ledge i u).rst = s.rst := by cases u <;> rfl
@[simp] theorem State.ledge_tb (i : Nat) (u : Tally) : (s.ledge i u).tb = s.tb := by cases u <;> rfl
@[simp] theorem State.ledge_pwr (i : Nat) (u : Tally) : (s.ledge i u).pwr = s.pwr := by cases u <;> rfl
@[simp] theorem State.ledge_cfg (i : Nat) (u : Tally) : (s.ledge i u).cfg = s.cfg := by cases u <;> rfl
@[simp] theorem State.ledge_lines (i : Nat) (u : Tally) : (s.ledge i u).lines = s.lines := by cases u <;> rfl
@[simp] theorem State.ledge_src (i : Nat) (u : Tally) : (s.ledge i u).src = s.src := by cases u <;> rfl
@[simp] theorem State.ledge_lost (i : Nat) (u : Tally) : (s.ledge i u).lost = s.lost := by cases u <;> rfl
@[simp] theorem State.ledge_scrub (i : Nat) (u : Tally) : (s.ledge i u).scrub = s.scrub := by cases u <;> rfl
@[simp] theorem State.ledge_scrubbed (i : Nat) (u : Tally) : (s.ledge i u).scrubbed = s.scrubbed := by cases u <;> rfl
@[simp] theorem State.ledge_parked (i : Nat) (u : Tally) : (s.ledge i u).parked = s.parked := by cases u <;> rfl
@[simp] theorem State.ledge_waiting (i : Nat) (u : Tally) : (s.ledge i u).waiting = s.waiting := by cases u <;> rfl
@[simp] theorem State.ledge_house (i : Nat) (u : Tally) : (s.ledge i u).house = s.house := by cases u <;> rfl
@[simp] theorem State.ledge_trans (i : Nat) (u : Tally) : (s.ledge i u).trans = s.trans := by cases u <;> rfl
@[simp] theorem State.ledge_pages (i : Nat) (u : Tally) : (s.ledge i u).pages = s.pages := by cases u <;> rfl
@[simp] theorem State.ledge_groups (i : Nat) (u : Tally) : (s.ledge i u).groups = s.groups := by cases u <;> rfl
@[simp] theorem State.ledge_counts (i : Nat) (u : Tally) : (s.ledge i u).counts = s.counts := by cases u <;> rfl
@[simp] theorem State.ledge_insts (i : Nat) (u : Tally) : (s.ledge i u).insts = s.insts := by cases u <;> rfl
@[simp] theorem State.ledge_tgts (i : Nat) (u : Tally) : (s.ledge i u).tgts = s.tgts := by cases u <;> rfl
@[simp] theorem State.ledge_links (i : Nat) (u : Tally) : (s.ledge i u).links = s.links := by cases u <;> rfl
@[simp] theorem State.ledge_inch (i : Nat) (u : Tally) : (s.ledge i u).inch = s.inch := by cases u <;> rfl
@[simp] theorem State.ledge_relays (i : Nat) (u : Tally) : (s.ledge i u).relays = s.relays := by cases u <;> rfl
@[simp] theorem State.ledge_poolTop (i : Nat) (u : Tally) : (s.ledge i u).poolTop = s.poolTop := by cases u <;> rfl
@[simp] theorem State.ledge_relayTop (i : Nat) (u : Tally) : (s.ledge i u).relayTop = s.relayTop := by cases u <;> rfl
@[simp] theorem State.ledge_farch (i : Nat) (u : Tally) : (s.ledge i u).farch = s.farch := by cases u <;> rfl
@[simp] theorem State.ledge_sweeps (i : Nat) (u : Tally) : (s.ledge i u).sweeps = s.sweeps := by cases u <;> rfl
@[simp] theorem State.ledge_clusters (i : Nat) (u : Tally) : (s.ledge i u).clusters = s.clusters := by cases u <;> rfl
@[simp] theorem State.ledge_rank (i : Nat) (u : Tally) : (s.ledge i u).rank = s.rank := by cases u <;> rfl
@[simp] theorem State.ledge_cmd (i : Nat) (u : Tally) : (s.ledge i u).cmd = s.cmd := by cases u <;> rfl
@[simp] theorem State.ledge_acc (i : Nat) (u : Tally) : (s.ledge i u).acc = s.acc := by cases u <;> rfl
@[simp] theorem State.ledge_bus (i : Nat) (u : Tally) : (s.ledge i u).bus = s.bus := by cases u <;> rfl
@[simp] theorem State.ledge_flt (i : Nat) (u : Tally) : (s.ledge i u).flt = s.flt := by cases u <;> rfl
@[simp] theorem State.ledge_at_ctx (i : Nat) (u : Tally) (x : Nat) : (s.ledge i u).ctx x = s.ctx x := by simp [State.ctx]
@[simp] theorem State.ledge_at_tgt (i : Nat) (u : Tally) (x : Nat) : (s.ledge i u).tgt x = s.tgt x := by simp [State.tgt]
@[simp] theorem State.ledge_at_queue (i : Nat) (u : Tally) (x : Nat) : (s.ledge i u).queue x = s.queue x := by simp [State.queue]
@[simp] theorem State.ledge_at_isHeld (i : Nat) (u : Tally) (x : Nat) : (s.ledge i u).isHeld x = s.isHeld x := by simp [State.isHeld]
@[simp] theorem State.ledge_tick (i : Nat) (u : Tally) : (s.ledge i u).tick = s.tick := by simp [State.tick]

/-! ### countMember -/

@[simp] theorem State.countMember_pending (e stamp : Nat) : (s.countMember e stamp).pending = s.pending := by unfold State.countMember; split <;> rfl
@[simp] theorem State.countMember_now (e stamp : Nat) : (s.countMember e stamp).now = s.now := by unfold State.countMember; split <;> rfl
@[simp] theorem State.countMember_free (e stamp : Nat) : (s.countMember e stamp).free = s.free := by unfold State.countMember; split <;> rfl
@[simp] theorem State.countMember_pins (e stamp : Nat) : (s.countMember e stamp).pins = s.pins := by unfold State.countMember; split <;> rfl
@[simp] theorem State.countMember_strap (e stamp : Nat) : (s.countMember e stamp).strap = s.strap := by unfold State.countMember; split <;> rfl
@[simp] theorem State.countMember_mode (e stamp : Nat) : (s.countMember e stamp).mode = s.mode := by unfold State.countMember; split <;> rfl
@[simp] theorem State.countMember_rst (e stamp : Nat) : (s.countMember e stamp).rst = s.rst := by unfold State.countMember; split <;> rfl
@[simp] theorem State.countMember_tb (e stamp : Nat) : (s.countMember e stamp).tb = s.tb := by unfold State.countMember; split <;> rfl
@[simp] theorem State.countMember_pwr (e stamp : Nat) : (s.countMember e stamp).pwr = s.pwr := by unfold State.countMember; split <;> rfl
@[simp] theorem State.countMember_cfg (e stamp : Nat) : (s.countMember e stamp).cfg = s.cfg := by unfold State.countMember; split <;> rfl
@[simp] theorem State.countMember_lines (e stamp : Nat) : (s.countMember e stamp).lines = s.lines := by unfold State.countMember; split <;> rfl
@[simp] theorem State.countMember_src (e stamp : Nat) : (s.countMember e stamp).src = s.src := by unfold State.countMember; split <;> rfl
@[simp] theorem State.countMember_lost (e stamp : Nat) : (s.countMember e stamp).lost = s.lost := by unfold State.countMember; split <;> rfl
@[simp] theorem State.countMember_scrub (e stamp : Nat) : (s.countMember e stamp).scrub = s.scrub := by unfold State.countMember; split <;> rfl
@[simp] theorem State.countMember_scrubbed (e stamp : Nat) : (s.countMember e stamp).scrubbed = s.scrubbed := by unfold State.countMember; split <;> rfl
@[simp] theorem State.countMember_parked (e stamp : Nat) : (s.countMember e stamp).parked = s.parked := by unfold State.countMember; split <;> rfl
@[simp] theorem State.countMember_waiting (e stamp : Nat) : (s.countMember e stamp).waiting = s.waiting := by unfold State.countMember; split <;> rfl
@[simp] theorem State.countMember_house (e stamp : Nat) : (s.countMember e stamp).house = s.house := by unfold State.countMember; split <;> rfl
@[simp] theorem State.countMember_trans (e stamp : Nat) : (s.countMember e stamp).trans = s.trans := by unfold State.countMember; split <;> rfl
@[simp] theorem State.countMember_pages (e stamp : Nat) : (s.countMember e stamp).pages = s.pages := by unfold State.countMember; split <;> rfl
@[simp] theorem State.countMember_groups (e stamp : Nat) : (s.countMember e stamp).groups = s.groups := by unfold State.countMember; split <;> rfl
@[simp] theorem State.countMember_insts (e stamp : Nat) : (s.countMember e stamp).insts = s.insts := by unfold State.countMember; split <;> rfl
@[simp] theorem State.countMember_tgts (e stamp : Nat) : (s.countMember e stamp).tgts = s.tgts := by unfold State.countMember; split <;> rfl
@[simp] theorem State.countMember_links (e stamp : Nat) : (s.countMember e stamp).links = s.links := by unfold State.countMember; split <;> rfl
@[simp] theorem State.countMember_inch (e stamp : Nat) : (s.countMember e stamp).inch = s.inch := by unfold State.countMember; split <;> rfl
@[simp] theorem State.countMember_relays (e stamp : Nat) : (s.countMember e stamp).relays = s.relays := by unfold State.countMember; split <;> rfl
@[simp] theorem State.countMember_poolTop (e stamp : Nat) : (s.countMember e stamp).poolTop = s.poolTop := by unfold State.countMember; split <;> rfl
@[simp] theorem State.countMember_relayTop (e stamp : Nat) : (s.countMember e stamp).relayTop = s.relayTop := by unfold State.countMember; split <;> rfl
@[simp] theorem State.countMember_farch (e stamp : Nat) : (s.countMember e stamp).farch = s.farch := by unfold State.countMember; split <;> rfl
@[simp] theorem State.countMember_ldg (e stamp : Nat) : (s.countMember e stamp).ldg = s.ldg := by unfold State.countMember; split <;> rfl
@[simp] theorem State.countMember_sweeps (e stamp : Nat) : (s.countMember e stamp).sweeps = s.sweeps := by unfold State.countMember; split <;> rfl
@[simp] theorem State.countMember_clusters (e stamp : Nat) : (s.countMember e stamp).clusters = s.clusters := by unfold State.countMember; split <;> rfl
@[simp] theorem State.countMember_rank (e stamp : Nat) : (s.countMember e stamp).rank = s.rank := by unfold State.countMember; split <;> rfl
@[simp] theorem State.countMember_cmd (e stamp : Nat) : (s.countMember e stamp).cmd = s.cmd := by unfold State.countMember; split <;> rfl
@[simp] theorem State.countMember_acc (e stamp : Nat) : (s.countMember e stamp).acc = s.acc := by unfold State.countMember; split <;> rfl
@[simp] theorem State.countMember_bus (e stamp : Nat) : (s.countMember e stamp).bus = s.bus := by unfold State.countMember; split <;> rfl
@[simp] theorem State.countMember_flt (e stamp : Nat) : (s.countMember e stamp).flt = s.flt := by unfold State.countMember; split <;> rfl
@[simp] theorem State.countMember_rcd (e stamp : Nat) : (s.countMember e stamp).rcd = s.rcd := by unfold State.countMember; split <;> rfl
@[simp] theorem State.countMember_at_ctx (e stamp : Nat) (x : Nat) : (s.countMember e stamp).ctx x = s.ctx x := by simp [State.ctx]
@[simp] theorem State.countMember_at_tgt (e stamp : Nat) (x : Nat) : (s.countMember e stamp).tgt x = s.tgt x := by simp [State.tgt]
@[simp] theorem State.countMember_at_queue (e stamp : Nat) (x : Nat) : (s.countMember e stamp).queue x = s.queue x := by simp [State.queue]
@[simp] theorem State.countMember_at_isHeld (e stamp : Nat) (x : Nat) : (s.countMember e stamp).isHeld x = s.isHeld x := by simp [State.isHeld]
@[simp] theorem State.countMember_tick (e stamp : Nat) : (s.countMember e stamp).tick = s.tick := by simp [State.tick]

/-! ### accept -/

/-- An acceptance changes a record, ledgers, the lifetime record and the counts on their way, and nothing else (R106). -/
theorem State.accept_frame (e : Nat) (l : Bool) (p : BitVec 32) (n : Nat) :
    s.accept e l p n = { s with src := (s.accept e l p n).src, ldg := (s.accept e l p n).ldg,
                                rcd := (s.accept e l p n).rcd, counts := (s.accept e l p n).counts } := by
  unfold State.accept; dsimp only; repeat' split
  all_goals (apply State.ext_of <;> simp)

@[simp] theorem State.accept_pending (e : Nat) (l : Bool) (p : BitVec 32) (n : Nat) : (s.accept e l p n).pending = s.pending := by rw [State.accept_frame]
@[simp] theorem State.accept_now (e : Nat) (l : Bool) (p : BitVec 32) (n : Nat) : (s.accept e l p n).now = s.now := by rw [State.accept_frame]
@[simp] theorem State.accept_free (e : Nat) (l : Bool) (p : BitVec 32) (n : Nat) : (s.accept e l p n).free = s.free := by rw [State.accept_frame]
@[simp] theorem State.accept_pins (e : Nat) (l : Bool) (p : BitVec 32) (n : Nat) : (s.accept e l p n).pins = s.pins := by rw [State.accept_frame]
@[simp] theorem State.accept_strap (e : Nat) (l : Bool) (p : BitVec 32) (n : Nat) : (s.accept e l p n).strap = s.strap := by rw [State.accept_frame]
@[simp] theorem State.accept_mode (e : Nat) (l : Bool) (p : BitVec 32) (n : Nat) : (s.accept e l p n).mode = s.mode := by rw [State.accept_frame]
@[simp] theorem State.accept_rst (e : Nat) (l : Bool) (p : BitVec 32) (n : Nat) : (s.accept e l p n).rst = s.rst := by rw [State.accept_frame]
@[simp] theorem State.accept_tb (e : Nat) (l : Bool) (p : BitVec 32) (n : Nat) : (s.accept e l p n).tb = s.tb := by rw [State.accept_frame]
@[simp] theorem State.accept_pwr (e : Nat) (l : Bool) (p : BitVec 32) (n : Nat) : (s.accept e l p n).pwr = s.pwr := by rw [State.accept_frame]
@[simp] theorem State.accept_cfg (e : Nat) (l : Bool) (p : BitVec 32) (n : Nat) : (s.accept e l p n).cfg = s.cfg := by rw [State.accept_frame]
@[simp] theorem State.accept_lines (e : Nat) (l : Bool) (p : BitVec 32) (n : Nat) : (s.accept e l p n).lines = s.lines := by rw [State.accept_frame]
@[simp] theorem State.accept_lost (e : Nat) (l : Bool) (p : BitVec 32) (n : Nat) : (s.accept e l p n).lost = s.lost := by rw [State.accept_frame]
@[simp] theorem State.accept_scrub (e : Nat) (l : Bool) (p : BitVec 32) (n : Nat) : (s.accept e l p n).scrub = s.scrub := by rw [State.accept_frame]
@[simp] theorem State.accept_scrubbed (e : Nat) (l : Bool) (p : BitVec 32) (n : Nat) : (s.accept e l p n).scrubbed = s.scrubbed := by rw [State.accept_frame]
@[simp] theorem State.accept_parked (e : Nat) (l : Bool) (p : BitVec 32) (n : Nat) : (s.accept e l p n).parked = s.parked := by rw [State.accept_frame]
@[simp] theorem State.accept_waiting (e : Nat) (l : Bool) (p : BitVec 32) (n : Nat) : (s.accept e l p n).waiting = s.waiting := by rw [State.accept_frame]
@[simp] theorem State.accept_house (e : Nat) (l : Bool) (p : BitVec 32) (n : Nat) : (s.accept e l p n).house = s.house := by rw [State.accept_frame]
@[simp] theorem State.accept_trans (e : Nat) (l : Bool) (p : BitVec 32) (n : Nat) : (s.accept e l p n).trans = s.trans := by rw [State.accept_frame]
@[simp] theorem State.accept_pages (e : Nat) (l : Bool) (p : BitVec 32) (n : Nat) : (s.accept e l p n).pages = s.pages := by rw [State.accept_frame]
@[simp] theorem State.accept_groups (e : Nat) (l : Bool) (p : BitVec 32) (n : Nat) : (s.accept e l p n).groups = s.groups := by rw [State.accept_frame]
@[simp] theorem State.accept_insts (e : Nat) (l : Bool) (p : BitVec 32) (n : Nat) : (s.accept e l p n).insts = s.insts := by rw [State.accept_frame]
@[simp] theorem State.accept_tgts (e : Nat) (l : Bool) (p : BitVec 32) (n : Nat) : (s.accept e l p n).tgts = s.tgts := by rw [State.accept_frame]
@[simp] theorem State.accept_links (e : Nat) (l : Bool) (p : BitVec 32) (n : Nat) : (s.accept e l p n).links = s.links := by rw [State.accept_frame]
@[simp] theorem State.accept_inch (e : Nat) (l : Bool) (p : BitVec 32) (n : Nat) : (s.accept e l p n).inch = s.inch := by rw [State.accept_frame]
@[simp] theorem State.accept_relays (e : Nat) (l : Bool) (p : BitVec 32) (n : Nat) : (s.accept e l p n).relays = s.relays := by rw [State.accept_frame]
@[simp] theorem State.accept_poolTop (e : Nat) (l : Bool) (p : BitVec 32) (n : Nat) : (s.accept e l p n).poolTop = s.poolTop := by rw [State.accept_frame]
@[simp] theorem State.accept_relayTop (e : Nat) (l : Bool) (p : BitVec 32) (n : Nat) : (s.accept e l p n).relayTop = s.relayTop := by rw [State.accept_frame]
@[simp] theorem State.accept_farch (e : Nat) (l : Bool) (p : BitVec 32) (n : Nat) : (s.accept e l p n).farch = s.farch := by rw [State.accept_frame]
@[simp] theorem State.accept_sweeps (e : Nat) (l : Bool) (p : BitVec 32) (n : Nat) : (s.accept e l p n).sweeps = s.sweeps := by rw [State.accept_frame]
@[simp] theorem State.accept_clusters (e : Nat) (l : Bool) (p : BitVec 32) (n : Nat) : (s.accept e l p n).clusters = s.clusters := by rw [State.accept_frame]
@[simp] theorem State.accept_rank (e : Nat) (l : Bool) (p : BitVec 32) (n : Nat) : (s.accept e l p n).rank = s.rank := by rw [State.accept_frame]
@[simp] theorem State.accept_cmd (e : Nat) (l : Bool) (p : BitVec 32) (n : Nat) : (s.accept e l p n).cmd = s.cmd := by rw [State.accept_frame]
@[simp] theorem State.accept_acc (e : Nat) (l : Bool) (p : BitVec 32) (n : Nat) : (s.accept e l p n).acc = s.acc := by rw [State.accept_frame]
@[simp] theorem State.accept_bus (e : Nat) (l : Bool) (p : BitVec 32) (n : Nat) : (s.accept e l p n).bus = s.bus := by rw [State.accept_frame]
@[simp] theorem State.accept_flt (e : Nat) (l : Bool) (p : BitVec 32) (n : Nat) : (s.accept e l p n).flt = s.flt := by rw [State.accept_frame]
@[simp] theorem State.accept_at_ctx (e : Nat) (l : Bool) (p : BitVec 32) (n : Nat) (x : Nat) : (s.accept e l p n).ctx x = s.ctx x := by simp [State.ctx]
@[simp] theorem State.accept_at_tgt (e : Nat) (l : Bool) (p : BitVec 32) (n : Nat) (x : Nat) : (s.accept e l p n).tgt x = s.tgt x := by simp [State.tgt]
@[simp] theorem State.accept_at_queue (e : Nat) (l : Bool) (p : BitVec 32) (n : Nat) (x : Nat) : (s.accept e l p n).queue x = s.queue x := by simp [State.queue]
@[simp] theorem State.accept_at_isHeld (e : Nat) (l : Bool) (p : BitVec 32) (n : Nat) (x : Nat) : (s.accept e l p n).isHeld x = s.isHeld x := by simp [State.isHeld]
@[simp] theorem State.accept_tick (e : Nat) (l : Bool) (p : BitVec 32) (n : Nat) : (s.accept e l p n).tick = s.tick := by simp [State.tick]

/-! ### commit -/

@[simp] theorem State.commit_pending (e : Nat) (r0 : SrcRec) : (s.commit e r0).pending = s.pending := by
  unfold State.commit; dsimp only; split <;> simp
@[simp] theorem State.commit_now (e : Nat) (r0 : SrcRec) : (s.commit e r0).now = s.now := by
  unfold State.commit; dsimp only; split <;> simp
@[simp] theorem State.commit_free (e : Nat) (r0 : SrcRec) : (s.commit e r0).free = s.free := by
  unfold State.commit; dsimp only; split <;> simp
@[simp] theorem State.commit_pins (e : Nat) (r0 : SrcRec) : (s.commit e r0).pins = s.pins := by
  unfold State.commit; dsimp only; split <;> simp
@[simp] theorem State.commit_strap (e : Nat) (r0 : SrcRec) : (s.commit e r0).strap = s.strap := by
  unfold State.commit; dsimp only; split <;> simp
@[simp] theorem State.commit_mode (e : Nat) (r0 : SrcRec) : (s.commit e r0).mode = s.mode := by
  unfold State.commit; dsimp only; split <;> simp
@[simp] theorem State.commit_rst (e : Nat) (r0 : SrcRec) : (s.commit e r0).rst = s.rst := by
  unfold State.commit; dsimp only; split <;> simp
@[simp] theorem State.commit_tb (e : Nat) (r0 : SrcRec) : (s.commit e r0).tb = s.tb := by
  unfold State.commit; dsimp only; split <;> simp
@[simp] theorem State.commit_pwr (e : Nat) (r0 : SrcRec) : (s.commit e r0).pwr = s.pwr := by
  unfold State.commit; dsimp only; split <;> simp
@[simp] theorem State.commit_cfg (e : Nat) (r0 : SrcRec) : (s.commit e r0).cfg = s.cfg := by
  unfold State.commit; dsimp only; split <;> simp
@[simp] theorem State.commit_lines (e : Nat) (r0 : SrcRec) : (s.commit e r0).lines = s.lines := by
  unfold State.commit; dsimp only; split <;> simp
@[simp] theorem State.commit_scrub (e : Nat) (r0 : SrcRec) : (s.commit e r0).scrub = s.scrub := by
  unfold State.commit; dsimp only; split <;> simp
@[simp] theorem State.commit_scrubbed (e : Nat) (r0 : SrcRec) : (s.commit e r0).scrubbed = s.scrubbed := by
  unfold State.commit; dsimp only; split <;> simp
@[simp] theorem State.commit_parked (e : Nat) (r0 : SrcRec) : (s.commit e r0).parked = s.parked := by
  unfold State.commit; dsimp only; split <;> simp
@[simp] theorem State.commit_waiting (e : Nat) (r0 : SrcRec) : (s.commit e r0).waiting = s.waiting := by
  unfold State.commit; dsimp only; split <;> simp
@[simp] theorem State.commit_house (e : Nat) (r0 : SrcRec) : (s.commit e r0).house = s.house := by
  unfold State.commit; dsimp only; split <;> simp
@[simp] theorem State.commit_trans (e : Nat) (r0 : SrcRec) : (s.commit e r0).trans = s.trans := by
  unfold State.commit; dsimp only; split <;> simp
@[simp] theorem State.commit_pages (e : Nat) (r0 : SrcRec) : (s.commit e r0).pages = s.pages := by
  unfold State.commit; dsimp only; split <;> simp
@[simp] theorem State.commit_groups (e : Nat) (r0 : SrcRec) : (s.commit e r0).groups = s.groups := by
  unfold State.commit; dsimp only; split <;> simp
@[simp] theorem State.commit_counts (e : Nat) (r0 : SrcRec) : (s.commit e r0).counts = s.counts := by
  unfold State.commit; dsimp only; split <;> simp
@[simp] theorem State.commit_insts (e : Nat) (r0 : SrcRec) : (s.commit e r0).insts = s.insts := by
  unfold State.commit; dsimp only; split <;> simp
@[simp] theorem State.commit_tgts (e : Nat) (r0 : SrcRec) : (s.commit e r0).tgts = s.tgts := by
  unfold State.commit; dsimp only; split <;> simp
@[simp] theorem State.commit_links (e : Nat) (r0 : SrcRec) : (s.commit e r0).links = s.links := by
  unfold State.commit; dsimp only; split <;> simp
@[simp] theorem State.commit_inch (e : Nat) (r0 : SrcRec) : (s.commit e r0).inch = s.inch := by
  unfold State.commit; dsimp only; split <;> simp
@[simp] theorem State.commit_relays (e : Nat) (r0 : SrcRec) : (s.commit e r0).relays = s.relays := by
  unfold State.commit; dsimp only; split <;> simp
@[simp] theorem State.commit_poolTop (e : Nat) (r0 : SrcRec) : (s.commit e r0).poolTop = s.poolTop := by
  unfold State.commit; dsimp only; split <;> simp
@[simp] theorem State.commit_relayTop (e : Nat) (r0 : SrcRec) : (s.commit e r0).relayTop = s.relayTop := by
  unfold State.commit; dsimp only; split <;> simp
@[simp] theorem State.commit_farch (e : Nat) (r0 : SrcRec) : (s.commit e r0).farch = s.farch := by
  unfold State.commit; dsimp only; split <;> simp
@[simp] theorem State.commit_ldg (e : Nat) (r0 : SrcRec) : (s.commit e r0).ldg = s.ldg := by
  unfold State.commit; dsimp only; split <;> simp
@[simp] theorem State.commit_clusters (e : Nat) (r0 : SrcRec) : (s.commit e r0).clusters = s.clusters := by
  unfold State.commit; dsimp only; split <;> simp
@[simp] theorem State.commit_rank (e : Nat) (r0 : SrcRec) : (s.commit e r0).rank = s.rank := by
  unfold State.commit; dsimp only; split <;> simp
@[simp] theorem State.commit_cmd (e : Nat) (r0 : SrcRec) : (s.commit e r0).cmd = s.cmd := by
  unfold State.commit; dsimp only; split <;> simp
@[simp] theorem State.commit_acc (e : Nat) (r0 : SrcRec) : (s.commit e r0).acc = s.acc := by
  unfold State.commit; dsimp only; split <;> simp
@[simp] theorem State.commit_bus (e : Nat) (r0 : SrcRec) : (s.commit e r0).bus = s.bus := by
  unfold State.commit; dsimp only; split <;> simp
@[simp] theorem State.commit_flt (e : Nat) (r0 : SrcRec) : (s.commit e r0).flt = s.flt := by
  unfold State.commit; dsimp only; split <;> simp
@[simp] theorem State.commit_rcd (e : Nat) (r0 : SrcRec) : (s.commit e r0).rcd = s.rcd := by
  unfold State.commit; dsimp only; split <;> simp
@[simp] theorem State.commit_at_ctx (e : Nat) (r0 : SrcRec) (x : Nat) : (s.commit e r0).ctx x = s.ctx x := by simp [State.ctx]
@[simp] theorem State.commit_at_tgt (e : Nat) (r0 : SrcRec) (x : Nat) : (s.commit e r0).tgt x = s.tgt x := by simp [State.tgt]
@[simp] theorem State.commit_at_queue (e : Nat) (r0 : SrcRec) (x : Nat) : (s.commit e r0).queue x = s.queue x := by simp [State.queue]
@[simp] theorem State.commit_at_isHeld (e : Nat) (r0 : SrcRec) (x : Nat) : (s.commit e r0).isHeld x = s.isHeld x := by simp [State.isHeld]
@[simp] theorem State.commit_tick (e : Nat) (r0 : SrcRec) : (s.commit e r0).tick = s.tick := by simp [State.tick]

/-! ### freeCell -/

@[simp] theorem State.freeCell_pending (e : Nat) : (s.freeCell e).pending = s.pending := by
  unfold State.freeCell; dsimp only; repeat' split
  all_goals simp
@[simp] theorem State.freeCell_now (e : Nat) : (s.freeCell e).now = s.now := by
  unfold State.freeCell; dsimp only; repeat' split
  all_goals simp
@[simp] theorem State.freeCell_free (e : Nat) : (s.freeCell e).free = s.free := by
  unfold State.freeCell; dsimp only; repeat' split
  all_goals simp
@[simp] theorem State.freeCell_pins (e : Nat) : (s.freeCell e).pins = s.pins := by
  unfold State.freeCell; dsimp only; repeat' split
  all_goals simp
@[simp] theorem State.freeCell_strap (e : Nat) : (s.freeCell e).strap = s.strap := by
  unfold State.freeCell; dsimp only; repeat' split
  all_goals simp
@[simp] theorem State.freeCell_mode (e : Nat) : (s.freeCell e).mode = s.mode := by
  unfold State.freeCell; dsimp only; repeat' split
  all_goals simp
@[simp] theorem State.freeCell_rst (e : Nat) : (s.freeCell e).rst = s.rst := by
  unfold State.freeCell; dsimp only; repeat' split
  all_goals simp
@[simp] theorem State.freeCell_tb (e : Nat) : (s.freeCell e).tb = s.tb := by
  unfold State.freeCell; dsimp only; repeat' split
  all_goals simp
@[simp] theorem State.freeCell_pwr (e : Nat) : (s.freeCell e).pwr = s.pwr := by
  unfold State.freeCell; dsimp only; repeat' split
  all_goals simp
@[simp] theorem State.freeCell_cfg (e : Nat) : (s.freeCell e).cfg = s.cfg := by
  unfold State.freeCell; dsimp only; repeat' split
  all_goals simp
@[simp] theorem State.freeCell_lines (e : Nat) : (s.freeCell e).lines = s.lines := by
  unfold State.freeCell; dsimp only; repeat' split
  all_goals simp
@[simp] theorem State.freeCell_lost (e : Nat) : (s.freeCell e).lost = s.lost := by
  unfold State.freeCell; dsimp only; repeat' split
  all_goals simp
@[simp] theorem State.freeCell_scrub (e : Nat) : (s.freeCell e).scrub = s.scrub := by
  unfold State.freeCell; dsimp only; repeat' split
  all_goals simp
@[simp] theorem State.freeCell_scrubbed (e : Nat) : (s.freeCell e).scrubbed = s.scrubbed := by
  unfold State.freeCell; dsimp only; repeat' split
  all_goals simp
@[simp] theorem State.freeCell_parked (e : Nat) : (s.freeCell e).parked = s.parked := by
  unfold State.freeCell; dsimp only; repeat' split
  all_goals simp
@[simp] theorem State.freeCell_waiting (e : Nat) : (s.freeCell e).waiting = s.waiting := by
  unfold State.freeCell; dsimp only; repeat' split
  all_goals simp
@[simp] theorem State.freeCell_house (e : Nat) : (s.freeCell e).house = s.house := by
  unfold State.freeCell; dsimp only; repeat' split
  all_goals simp
@[simp] theorem State.freeCell_trans (e : Nat) : (s.freeCell e).trans = s.trans := by
  unfold State.freeCell; dsimp only; repeat' split
  all_goals simp
@[simp] theorem State.freeCell_pages (e : Nat) : (s.freeCell e).pages = s.pages := by
  unfold State.freeCell; dsimp only; repeat' split
  all_goals simp
@[simp] theorem State.freeCell_groups (e : Nat) : (s.freeCell e).groups = s.groups := by
  unfold State.freeCell; dsimp only; repeat' split
  all_goals simp
@[simp] theorem State.freeCell_counts (e : Nat) : (s.freeCell e).counts = s.counts := by
  unfold State.freeCell; dsimp only; repeat' split
  all_goals simp
@[simp] theorem State.freeCell_links (e : Nat) : (s.freeCell e).links = s.links := by
  unfold State.freeCell; dsimp only; repeat' split
  all_goals simp
@[simp] theorem State.freeCell_inch (e : Nat) : (s.freeCell e).inch = s.inch := by
  unfold State.freeCell; dsimp only; repeat' split
  all_goals simp
@[simp] theorem State.freeCell_relays (e : Nat) : (s.freeCell e).relays = s.relays := by
  unfold State.freeCell; dsimp only; repeat' split
  all_goals simp
@[simp] theorem State.freeCell_poolTop (e : Nat) : (s.freeCell e).poolTop = s.poolTop := by
  unfold State.freeCell; dsimp only; repeat' split
  all_goals simp
@[simp] theorem State.freeCell_relayTop (e : Nat) : (s.freeCell e).relayTop = s.relayTop := by
  unfold State.freeCell; dsimp only; repeat' split
  all_goals simp
@[simp] theorem State.freeCell_farch (e : Nat) : (s.freeCell e).farch = s.farch := by
  unfold State.freeCell; dsimp only; repeat' split
  all_goals simp
@[simp] theorem State.freeCell_ldg (e : Nat) : (s.freeCell e).ldg = s.ldg := by
  unfold State.freeCell; dsimp only; repeat' split
  all_goals simp
@[simp] theorem State.freeCell_sweeps (e : Nat) : (s.freeCell e).sweeps = s.sweeps := by
  unfold State.freeCell; dsimp only; repeat' split
  all_goals simp
@[simp] theorem State.freeCell_clusters (e : Nat) : (s.freeCell e).clusters = s.clusters := by
  unfold State.freeCell; dsimp only; repeat' split
  all_goals simp
@[simp] theorem State.freeCell_rank (e : Nat) : (s.freeCell e).rank = s.rank := by
  unfold State.freeCell; dsimp only; repeat' split
  all_goals simp
@[simp] theorem State.freeCell_cmd (e : Nat) : (s.freeCell e).cmd = s.cmd := by
  unfold State.freeCell; dsimp only; repeat' split
  all_goals simp
@[simp] theorem State.freeCell_acc (e : Nat) : (s.freeCell e).acc = s.acc := by
  unfold State.freeCell; dsimp only; repeat' split
  all_goals simp
@[simp] theorem State.freeCell_bus (e : Nat) : (s.freeCell e).bus = s.bus := by
  unfold State.freeCell; dsimp only; repeat' split
  all_goals simp
@[simp] theorem State.freeCell_flt (e : Nat) : (s.freeCell e).flt = s.flt := by
  unfold State.freeCell; dsimp only; repeat' split
  all_goals simp
@[simp] theorem State.freeCell_rcd (e : Nat) : (s.freeCell e).rcd = s.rcd := by
  unfold State.freeCell; dsimp only; repeat' split
  all_goals simp
@[simp] theorem State.freeCell_at_queue (e : Nat) (x : Nat) : (s.freeCell e).queue x = s.queue x := by simp [State.queue]
@[simp] theorem State.freeCell_at_isHeld (e : Nat) (x : Nat) : (s.freeCell e).isHeld x = s.isHeld x := by simp [State.isHeld]
@[simp] theorem State.freeCell_tick (e : Nat) : (s.freeCell e).tick = s.tick := by simp [State.tick]

/-! ### housePulse -/

@[simp] theorem State.housePulse_pending (n : Nat) : (s.housePulse n).pending = s.pending := by
  unfold State.housePulse; dsimp only; repeat' split
  all_goals simp
@[simp] theorem State.housePulse_now (n : Nat) : (s.housePulse n).now = s.now := by
  unfold State.housePulse; dsimp only; repeat' split
  all_goals simp
@[simp] theorem State.housePulse_free (n : Nat) : (s.housePulse n).free = s.free := by
  unfold State.housePulse; dsimp only; repeat' split
  all_goals simp
@[simp] theorem State.housePulse_pins (n : Nat) : (s.housePulse n).pins = s.pins := by
  unfold State.housePulse; dsimp only; repeat' split
  all_goals simp
@[simp] theorem State.housePulse_strap (n : Nat) : (s.housePulse n).strap = s.strap := by
  unfold State.housePulse; dsimp only; repeat' split
  all_goals simp
@[simp] theorem State.housePulse_mode (n : Nat) : (s.housePulse n).mode = s.mode := by
  unfold State.housePulse; dsimp only; repeat' split
  all_goals simp
@[simp] theorem State.housePulse_rst (n : Nat) : (s.housePulse n).rst = s.rst := by
  unfold State.housePulse; dsimp only; repeat' split
  all_goals simp
@[simp] theorem State.housePulse_tb (n : Nat) : (s.housePulse n).tb = s.tb := by
  unfold State.housePulse; dsimp only; repeat' split
  all_goals simp
@[simp] theorem State.housePulse_pwr (n : Nat) : (s.housePulse n).pwr = s.pwr := by
  unfold State.housePulse; dsimp only; repeat' split
  all_goals simp
@[simp] theorem State.housePulse_cfg (n : Nat) : (s.housePulse n).cfg = s.cfg := by
  unfold State.housePulse; dsimp only; repeat' split
  all_goals simp
@[simp] theorem State.housePulse_lines (n : Nat) : (s.housePulse n).lines = s.lines := by
  unfold State.housePulse; dsimp only; repeat' split
  all_goals simp
@[simp] theorem State.housePulse_scrub (n : Nat) : (s.housePulse n).scrub = s.scrub := by
  unfold State.housePulse; dsimp only; repeat' split
  all_goals simp
@[simp] theorem State.housePulse_scrubbed (n : Nat) : (s.housePulse n).scrubbed = s.scrubbed := by
  unfold State.housePulse; dsimp only; repeat' split
  all_goals simp
@[simp] theorem State.housePulse_house (n : Nat) : (s.housePulse n).house = s.house := by
  unfold State.housePulse; dsimp only; repeat' split
  all_goals simp
@[simp] theorem State.housePulse_trans (n : Nat) : (s.housePulse n).trans = s.trans := by
  unfold State.housePulse; dsimp only; repeat' split
  all_goals simp
@[simp] theorem State.housePulse_pages (n : Nat) : (s.housePulse n).pages = s.pages := by
  unfold State.housePulse; dsimp only; repeat' split
  all_goals simp
@[simp] theorem State.housePulse_groups (n : Nat) : (s.housePulse n).groups = s.groups := by
  unfold State.housePulse; dsimp only; repeat' split
  all_goals simp
@[simp] theorem State.housePulse_insts (n : Nat) : (s.housePulse n).insts = s.insts := by
  unfold State.housePulse; dsimp only; repeat' split
  all_goals simp
@[simp] theorem State.housePulse_tgts (n : Nat) : (s.housePulse n).tgts = s.tgts := by
  unfold State.housePulse; dsimp only; repeat' split
  all_goals simp
@[simp] theorem State.housePulse_links (n : Nat) : (s.housePulse n).links = s.links := by
  unfold State.housePulse; dsimp only; repeat' split
  all_goals simp
@[simp] theorem State.housePulse_inch (n : Nat) : (s.housePulse n).inch = s.inch := by
  unfold State.housePulse; dsimp only; repeat' split
  all_goals simp
@[simp] theorem State.housePulse_relays (n : Nat) : (s.housePulse n).relays = s.relays := by
  unfold State.housePulse; dsimp only; repeat' split
  all_goals simp
@[simp] theorem State.housePulse_poolTop (n : Nat) : (s.housePulse n).poolTop = s.poolTop := by
  unfold State.housePulse; dsimp only; repeat' split
  all_goals simp
@[simp] theorem State.housePulse_relayTop (n : Nat) : (s.housePulse n).relayTop = s.relayTop := by
  unfold State.housePulse; dsimp only; repeat' split
  all_goals simp
@[simp] theorem State.housePulse_farch (n : Nat) : (s.housePulse n).farch = s.farch := by
  unfold State.housePulse; dsimp only; repeat' split
  all_goals simp
@[simp] theorem State.housePulse_clusters (n : Nat) : (s.housePulse n).clusters = s.clusters := by
  unfold State.housePulse; dsimp only; repeat' split
  all_goals simp
@[simp] theorem State.housePulse_rank (n : Nat) : (s.housePulse n).rank = s.rank := by
  unfold State.housePulse; dsimp only; repeat' split
  all_goals simp
@[simp] theorem State.housePulse_cmd (n : Nat) : (s.housePulse n).cmd = s.cmd := by
  unfold State.housePulse; dsimp only; repeat' split
  all_goals simp
@[simp] theorem State.housePulse_acc (n : Nat) : (s.housePulse n).acc = s.acc := by
  unfold State.housePulse; dsimp only; repeat' split
  all_goals simp
@[simp] theorem State.housePulse_bus (n : Nat) : (s.housePulse n).bus = s.bus := by
  unfold State.housePulse; dsimp only; repeat' split
  all_goals simp
@[simp] theorem State.housePulse_at_ctx (n : Nat) (x : Nat) : (s.housePulse n).ctx x = s.ctx x := by simp [State.ctx]
@[simp] theorem State.housePulse_at_tgt (n : Nat) (x : Nat) : (s.housePulse n).tgt x = s.tgt x := by simp [State.tgt]
@[simp] theorem State.housePulse_at_queue (n : Nat) (x : Nat) : (s.housePulse n).queue x = s.queue x := by simp [State.queue]
@[simp] theorem State.housePulse_at_isHeld (n : Nat) (x : Nat) : (s.housePulse n).isHeld x = s.isHeld x := by simp [State.isHeld]
@[simp] theorem State.housePulse_flt_corr (n : Nat) : (s.housePulse n).flt.corr = s.flt.corr := by
  unfold State.housePulse; dsimp only; repeat' split
  all_goals simp
@[simp] theorem State.housePulse_flt_cont (n : Nat) : (s.housePulse n).flt.cont = s.flt.cont := by
  unfold State.housePulse; dsimp only; repeat' split
  all_goals simp
@[simp] theorem State.housePulse_flt_cwr (n : Nat) : (s.housePulse n).flt.cwr = s.flt.cwr := by
  unfold State.housePulse; dsimp only; repeat' split
  all_goals simp
@[simp] theorem State.housePulse_flt_uncont (n : Nat) : (s.housePulse n).flt.uncont = s.flt.uncont := by
  unfold State.housePulse; dsimp only; repeat' split
  all_goals simp
@[simp] theorem State.housePulse_flt_new_ (n : Nat) : (s.housePulse n).flt.new_ = s.flt.new_ := by
  unfold State.housePulse; dsimp only; repeat' split
  all_goals simp
@[simp] theorem State.housePulse_flt_seq (n : Nat) : (s.housePulse n).flt.seq = s.flt.seq := by
  unfold State.housePulse; dsimp only; repeat' split
  all_goals simp
@[simp] theorem State.housePulse_flt_count (n : Nat) : (s.housePulse n).flt.count = s.flt.count := by
  unfold State.housePulse; dsimp only; repeat' split
  all_goals simp
@[simp] theorem State.housePulse_flt_mergedCount (n : Nat) : (s.housePulse n).flt.mergedCount = s.flt.mergedCount := by
  unfold State.housePulse; dsimp only; repeat' split
  all_goals simp
@[simp] theorem State.housePulse_flt_queue (n : Nat) : (s.housePulse n).flt.queue = s.flt.queue := by
  unfold State.housePulse; dsimp only; repeat' split
  all_goals simp
@[simp] theorem State.housePulse_flt_qdrop (n : Nat) : (s.housePulse n).flt.qdrop = s.flt.qdrop := by
  unfold State.housePulse; dsimp only; repeat' split
  all_goals simp
@[simp] theorem State.housePulse_flt_dropsOwed (n : Nat) : (s.housePulse n).flt.dropsOwed = s.flt.dropsOwed := by
  unfold State.housePulse; dsimp only; repeat' split
  all_goals simp
@[simp] theorem State.housePulse_flt_escNotify (n : Nat) : (s.housePulse n).flt.escNotify = s.flt.escNotify := by
  unfold State.housePulse; dsimp only; repeat' split
  all_goals simp
@[simp] theorem State.housePulse_flt_escRecovery (n : Nat) : (s.housePulse n).flt.escRecovery = s.flt.escRecovery := by
  unfold State.housePulse; dsimp only; repeat' split
  all_goals simp
@[simp] theorem State.housePulse_flt_escWarm (n : Nat) : (s.housePulse n).flt.escWarm = s.flt.escWarm := by
  unfold State.housePulse; dsimp only; repeat' split
  all_goals simp
@[simp] theorem State.housePulse_flt_log (n : Nat) : (s.housePulse n).flt.log = s.flt.log := by
  unfold State.housePulse; dsimp only; repeat' split
  all_goals simp
@[simp] theorem State.housePulse_flt_pre (n : Nat) : (s.housePulse n).flt.pre = s.flt.pre := by
  unfold State.housePulse; dsimp only; repeat' split
  all_goals simp
@[simp] theorem State.housePulse_tick (n : Nat) : (s.housePulse n).tick = s.tick := by simp [State.tick]

/-! ### raiseHouse -/

@[simp] theorem State.raiseHouse_pending (n : Nat) : (s.raiseHouse n).pending = s.pending := by
  unfold State.raiseHouse; split <;> simp
@[simp] theorem State.raiseHouse_now (n : Nat) : (s.raiseHouse n).now = s.now := by
  unfold State.raiseHouse; split <;> simp
@[simp] theorem State.raiseHouse_free (n : Nat) : (s.raiseHouse n).free = s.free := by
  unfold State.raiseHouse; split <;> simp
@[simp] theorem State.raiseHouse_pins (n : Nat) : (s.raiseHouse n).pins = s.pins := by
  unfold State.raiseHouse; split <;> simp
@[simp] theorem State.raiseHouse_strap (n : Nat) : (s.raiseHouse n).strap = s.strap := by
  unfold State.raiseHouse; split <;> simp
@[simp] theorem State.raiseHouse_mode (n : Nat) : (s.raiseHouse n).mode = s.mode := by
  unfold State.raiseHouse; split <;> simp
@[simp] theorem State.raiseHouse_rst (n : Nat) : (s.raiseHouse n).rst = s.rst := by
  unfold State.raiseHouse; split <;> simp
@[simp] theorem State.raiseHouse_tb (n : Nat) : (s.raiseHouse n).tb = s.tb := by
  unfold State.raiseHouse; split <;> simp
@[simp] theorem State.raiseHouse_pwr (n : Nat) : (s.raiseHouse n).pwr = s.pwr := by
  unfold State.raiseHouse; split <;> simp
@[simp] theorem State.raiseHouse_cfg (n : Nat) : (s.raiseHouse n).cfg = s.cfg := by
  unfold State.raiseHouse; split <;> simp
@[simp] theorem State.raiseHouse_lines (n : Nat) : (s.raiseHouse n).lines = s.lines := by
  unfold State.raiseHouse; split <;> simp
@[simp] theorem State.raiseHouse_scrub (n : Nat) : (s.raiseHouse n).scrub = s.scrub := by
  unfold State.raiseHouse; split <;> simp
@[simp] theorem State.raiseHouse_scrubbed (n : Nat) : (s.raiseHouse n).scrubbed = s.scrubbed := by
  unfold State.raiseHouse; split <;> simp
@[simp] theorem State.raiseHouse_trans (n : Nat) : (s.raiseHouse n).trans = s.trans := by
  unfold State.raiseHouse; split <;> simp
@[simp] theorem State.raiseHouse_pages (n : Nat) : (s.raiseHouse n).pages = s.pages := by
  unfold State.raiseHouse; split <;> simp
@[simp] theorem State.raiseHouse_groups (n : Nat) : (s.raiseHouse n).groups = s.groups := by
  unfold State.raiseHouse; split <;> simp
@[simp] theorem State.raiseHouse_insts (n : Nat) : (s.raiseHouse n).insts = s.insts := by
  unfold State.raiseHouse; split <;> simp
@[simp] theorem State.raiseHouse_tgts (n : Nat) : (s.raiseHouse n).tgts = s.tgts := by
  unfold State.raiseHouse; split <;> simp
@[simp] theorem State.raiseHouse_links (n : Nat) : (s.raiseHouse n).links = s.links := by
  unfold State.raiseHouse; split <;> simp
@[simp] theorem State.raiseHouse_inch (n : Nat) : (s.raiseHouse n).inch = s.inch := by
  unfold State.raiseHouse; split <;> simp
@[simp] theorem State.raiseHouse_relays (n : Nat) : (s.raiseHouse n).relays = s.relays := by
  unfold State.raiseHouse; split <;> simp
@[simp] theorem State.raiseHouse_poolTop (n : Nat) : (s.raiseHouse n).poolTop = s.poolTop := by
  unfold State.raiseHouse; split <;> simp
@[simp] theorem State.raiseHouse_relayTop (n : Nat) : (s.raiseHouse n).relayTop = s.relayTop := by
  unfold State.raiseHouse; split <;> simp
@[simp] theorem State.raiseHouse_farch (n : Nat) : (s.raiseHouse n).farch = s.farch := by
  unfold State.raiseHouse; split <;> simp
@[simp] theorem State.raiseHouse_clusters (n : Nat) : (s.raiseHouse n).clusters = s.clusters := by
  unfold State.raiseHouse; split <;> simp
@[simp] theorem State.raiseHouse_rank (n : Nat) : (s.raiseHouse n).rank = s.rank := by
  unfold State.raiseHouse; split <;> simp
@[simp] theorem State.raiseHouse_cmd (n : Nat) : (s.raiseHouse n).cmd = s.cmd := by
  unfold State.raiseHouse; split <;> simp
@[simp] theorem State.raiseHouse_acc (n : Nat) : (s.raiseHouse n).acc = s.acc := by
  unfold State.raiseHouse; split <;> simp
@[simp] theorem State.raiseHouse_bus (n : Nat) : (s.raiseHouse n).bus = s.bus := by
  unfold State.raiseHouse; split <;> simp
@[simp] theorem State.raiseHouse_at_ctx (n : Nat) (x : Nat) : (s.raiseHouse n).ctx x = s.ctx x := by simp [State.ctx]
@[simp] theorem State.raiseHouse_at_tgt (n : Nat) (x : Nat) : (s.raiseHouse n).tgt x = s.tgt x := by simp [State.tgt]
@[simp] theorem State.raiseHouse_at_queue (n : Nat) (x : Nat) : (s.raiseHouse n).queue x = s.queue x := by simp [State.queue]
@[simp] theorem State.raiseHouse_at_isHeld (n : Nat) (x : Nat) : (s.raiseHouse n).isHeld x = s.isHeld x := by simp [State.isHeld]
@[simp] theorem State.raiseHouse_flt_corr (n : Nat) : (s.raiseHouse n).flt.corr = s.flt.corr := by
  unfold State.raiseHouse; split <;> simp
@[simp] theorem State.raiseHouse_flt_cont (n : Nat) : (s.raiseHouse n).flt.cont = s.flt.cont := by
  unfold State.raiseHouse; split <;> simp
@[simp] theorem State.raiseHouse_flt_cwr (n : Nat) : (s.raiseHouse n).flt.cwr = s.flt.cwr := by
  unfold State.raiseHouse; split <;> simp
@[simp] theorem State.raiseHouse_flt_uncont (n : Nat) : (s.raiseHouse n).flt.uncont = s.flt.uncont := by
  unfold State.raiseHouse; split <;> simp
@[simp] theorem State.raiseHouse_flt_new_ (n : Nat) : (s.raiseHouse n).flt.new_ = s.flt.new_ := by
  unfold State.raiseHouse; split <;> simp
@[simp] theorem State.raiseHouse_flt_seq (n : Nat) : (s.raiseHouse n).flt.seq = s.flt.seq := by
  unfold State.raiseHouse; split <;> simp
@[simp] theorem State.raiseHouse_flt_count (n : Nat) : (s.raiseHouse n).flt.count = s.flt.count := by
  unfold State.raiseHouse; split <;> simp
@[simp] theorem State.raiseHouse_flt_mergedCount (n : Nat) : (s.raiseHouse n).flt.mergedCount = s.flt.mergedCount := by
  unfold State.raiseHouse; split <;> simp
@[simp] theorem State.raiseHouse_flt_queue (n : Nat) : (s.raiseHouse n).flt.queue = s.flt.queue := by
  unfold State.raiseHouse; split <;> simp
@[simp] theorem State.raiseHouse_flt_qdrop (n : Nat) : (s.raiseHouse n).flt.qdrop = s.flt.qdrop := by
  unfold State.raiseHouse; split <;> simp
@[simp] theorem State.raiseHouse_flt_dropsOwed (n : Nat) : (s.raiseHouse n).flt.dropsOwed = s.flt.dropsOwed := by
  unfold State.raiseHouse; split <;> simp
@[simp] theorem State.raiseHouse_flt_escNotify (n : Nat) : (s.raiseHouse n).flt.escNotify = s.flt.escNotify := by
  unfold State.raiseHouse; split <;> simp
@[simp] theorem State.raiseHouse_flt_escRecovery (n : Nat) : (s.raiseHouse n).flt.escRecovery = s.flt.escRecovery := by
  unfold State.raiseHouse; split <;> simp
@[simp] theorem State.raiseHouse_flt_escWarm (n : Nat) : (s.raiseHouse n).flt.escWarm = s.flt.escWarm := by
  unfold State.raiseHouse; split <;> simp
@[simp] theorem State.raiseHouse_flt_log (n : Nat) : (s.raiseHouse n).flt.log = s.flt.log := by
  unfold State.raiseHouse; split <;> simp
@[simp] theorem State.raiseHouse_flt_pre (n : Nat) : (s.raiseHouse n).flt.pre = s.flt.pre := by
  unfold State.raiseHouse; split <;> simp
@[simp] theorem State.raiseHouse_tick (n : Nat) : (s.raiseHouse n).tick = s.tick := by simp [State.tick]

/-! ### reply -/

@[simp] theorem State.reply_pending (n : Nat) (r : Reply) : (s.reply n r).pending = s.pending := by
  unfold State.reply; dsimp only; split <;> simp
@[simp] theorem State.reply_now (n : Nat) (r : Reply) : (s.reply n r).now = s.now := by
  unfold State.reply; dsimp only; split <;> simp
@[simp] theorem State.reply_free (n : Nat) (r : Reply) : (s.reply n r).free = s.free := by
  unfold State.reply; dsimp only; split <;> simp
@[simp] theorem State.reply_pins (n : Nat) (r : Reply) : (s.reply n r).pins = s.pins := by
  unfold State.reply; dsimp only; split <;> simp
@[simp] theorem State.reply_strap (n : Nat) (r : Reply) : (s.reply n r).strap = s.strap := by
  unfold State.reply; dsimp only; split <;> simp
@[simp] theorem State.reply_mode (n : Nat) (r : Reply) : (s.reply n r).mode = s.mode := by
  unfold State.reply; dsimp only; split <;> simp
@[simp] theorem State.reply_rst (n : Nat) (r : Reply) : (s.reply n r).rst = s.rst := by
  unfold State.reply; dsimp only; split <;> simp
@[simp] theorem State.reply_tb (n : Nat) (r : Reply) : (s.reply n r).tb = s.tb := by
  unfold State.reply; dsimp only; split <;> simp
@[simp] theorem State.reply_pwr (n : Nat) (r : Reply) : (s.reply n r).pwr = s.pwr := by
  unfold State.reply; dsimp only; split <;> simp
@[simp] theorem State.reply_cfg (n : Nat) (r : Reply) : (s.reply n r).cfg = s.cfg := by
  unfold State.reply; dsimp only; split <;> simp
@[simp] theorem State.reply_lines (n : Nat) (r : Reply) : (s.reply n r).lines = s.lines := by
  unfold State.reply; dsimp only; split <;> simp
@[simp] theorem State.reply_scrub (n : Nat) (r : Reply) : (s.reply n r).scrub = s.scrub := by
  unfold State.reply; dsimp only; split <;> simp
@[simp] theorem State.reply_scrubbed (n : Nat) (r : Reply) : (s.reply n r).scrubbed = s.scrubbed := by
  unfold State.reply; dsimp only; split <;> simp
@[simp] theorem State.reply_trans (n : Nat) (r : Reply) : (s.reply n r).trans = s.trans := by
  unfold State.reply; dsimp only; split <;> simp
@[simp] theorem State.reply_pages (n : Nat) (r : Reply) : (s.reply n r).pages = s.pages := by
  unfold State.reply; dsimp only; split <;> simp
@[simp] theorem State.reply_groups (n : Nat) (r : Reply) : (s.reply n r).groups = s.groups := by
  unfold State.reply; dsimp only; split <;> simp
@[simp] theorem State.reply_insts (n : Nat) (r : Reply) : (s.reply n r).insts = s.insts := by
  unfold State.reply; dsimp only; split <;> simp
@[simp] theorem State.reply_tgts (n : Nat) (r : Reply) : (s.reply n r).tgts = s.tgts := by
  unfold State.reply; dsimp only; split <;> simp
@[simp] theorem State.reply_links (n : Nat) (r : Reply) : (s.reply n r).links = s.links := by
  unfold State.reply; dsimp only; split <;> simp
@[simp] theorem State.reply_inch (n : Nat) (r : Reply) : (s.reply n r).inch = s.inch := by
  unfold State.reply; dsimp only; split <;> simp
@[simp] theorem State.reply_relays (n : Nat) (r : Reply) : (s.reply n r).relays = s.relays := by
  unfold State.reply; dsimp only; split <;> simp
@[simp] theorem State.reply_poolTop (n : Nat) (r : Reply) : (s.reply n r).poolTop = s.poolTop := by
  unfold State.reply; dsimp only; split <;> simp
@[simp] theorem State.reply_relayTop (n : Nat) (r : Reply) : (s.reply n r).relayTop = s.relayTop := by
  unfold State.reply; dsimp only; split <;> simp
@[simp] theorem State.reply_farch (n : Nat) (r : Reply) : (s.reply n r).farch = s.farch := by
  unfold State.reply; dsimp only; split <;> simp
@[simp] theorem State.reply_clusters (n : Nat) (r : Reply) : (s.reply n r).clusters = s.clusters := by
  unfold State.reply; dsimp only; split <;> simp
@[simp] theorem State.reply_rank (n : Nat) (r : Reply) : (s.reply n r).rank = s.rank := by
  unfold State.reply; dsimp only; split <;> simp
@[simp] theorem State.reply_acc (n : Nat) (r : Reply) : (s.reply n r).acc = s.acc := by
  unfold State.reply; dsimp only; split <;> simp
@[simp] theorem State.reply_bus (n : Nat) (r : Reply) : (s.reply n r).bus = s.bus := by
  unfold State.reply; dsimp only; split <;> simp
@[simp] theorem State.reply_at_ctx (n : Nat) (r : Reply) (x : Nat) : (s.reply n r).ctx x = s.ctx x := by simp [State.ctx]
@[simp] theorem State.reply_at_tgt (n : Nat) (r : Reply) (x : Nat) : (s.reply n r).tgt x = s.tgt x := by simp [State.tgt]
@[simp] theorem State.reply_at_isHeld (n : Nat) (r : Reply) (x : Nat) : (s.reply n r).isHeld x = s.isHeld x := by simp [State.isHeld]
@[simp] theorem State.reply_flt_corr (n : Nat) (r : Reply) : (s.reply n r).flt.corr = s.flt.corr := by
  unfold State.reply; dsimp only; split <;> simp
@[simp] theorem State.reply_flt_cont (n : Nat) (r : Reply) : (s.reply n r).flt.cont = s.flt.cont := by
  unfold State.reply; dsimp only; split <;> simp
@[simp] theorem State.reply_flt_cwr (n : Nat) (r : Reply) : (s.reply n r).flt.cwr = s.flt.cwr := by
  unfold State.reply; dsimp only; split <;> simp
@[simp] theorem State.reply_flt_uncont (n : Nat) (r : Reply) : (s.reply n r).flt.uncont = s.flt.uncont := by
  unfold State.reply; dsimp only; split <;> simp
@[simp] theorem State.reply_flt_new_ (n : Nat) (r : Reply) : (s.reply n r).flt.new_ = s.flt.new_ := by
  unfold State.reply; dsimp only; split <;> simp
@[simp] theorem State.reply_flt_seq (n : Nat) (r : Reply) : (s.reply n r).flt.seq = s.flt.seq := by
  unfold State.reply; dsimp only; split <;> simp
@[simp] theorem State.reply_flt_count (n : Nat) (r : Reply) : (s.reply n r).flt.count = s.flt.count := by
  unfold State.reply; dsimp only; split <;> simp
@[simp] theorem State.reply_flt_mergedCount (n : Nat) (r : Reply) : (s.reply n r).flt.mergedCount = s.flt.mergedCount := by
  unfold State.reply; dsimp only; split <;> simp
@[simp] theorem State.reply_flt_queue (n : Nat) (r : Reply) : (s.reply n r).flt.queue = s.flt.queue := by
  unfold State.reply; dsimp only; split <;> simp
@[simp] theorem State.reply_flt_qdrop (n : Nat) (r : Reply) : (s.reply n r).flt.qdrop = s.flt.qdrop := by
  unfold State.reply; dsimp only; split <;> simp
@[simp] theorem State.reply_flt_dropsOwed (n : Nat) (r : Reply) : (s.reply n r).flt.dropsOwed = s.flt.dropsOwed := by
  unfold State.reply; dsimp only; split <;> simp
@[simp] theorem State.reply_flt_escNotify (n : Nat) (r : Reply) : (s.reply n r).flt.escNotify = s.flt.escNotify := by
  unfold State.reply; dsimp only; split <;> simp
@[simp] theorem State.reply_flt_escRecovery (n : Nat) (r : Reply) : (s.reply n r).flt.escRecovery = s.flt.escRecovery := by
  unfold State.reply; dsimp only; split <;> simp
@[simp] theorem State.reply_flt_escWarm (n : Nat) (r : Reply) : (s.reply n r).flt.escWarm = s.flt.escWarm := by
  unfold State.reply; dsimp only; split <;> simp
@[simp] theorem State.reply_flt_log (n : Nat) (r : Reply) : (s.reply n r).flt.log = s.flt.log := by
  unfold State.reply; dsimp only; split <;> simp
@[simp] theorem State.reply_flt_pre (n : Nat) (r : Reply) : (s.reply n r).flt.pre = s.flt.pre := by
  unfold State.reply; dsimp only; split <;> simp
@[simp] theorem State.reply_tick (n : Nat) (r : Reply) : (s.reply n r).tick = s.tick := by simp [State.tick]

/-! ### clamp -/

@[simp] theorem State.clamp_pending (id wr ap : Nat) (w m : Bool) (k : Nat) : (s.clamp id wr ap w m k).pending = s.pending := by simp [State.clamp]
@[simp] theorem State.clamp_now (id wr ap : Nat) (w m : Bool) (k : Nat) : (s.clamp id wr ap w m k).now = s.now := by simp [State.clamp]
@[simp] theorem State.clamp_free (id wr ap : Nat) (w m : Bool) (k : Nat) : (s.clamp id wr ap w m k).free = s.free := by simp [State.clamp]
@[simp] theorem State.clamp_pins (id wr ap : Nat) (w m : Bool) (k : Nat) : (s.clamp id wr ap w m k).pins = s.pins := by simp [State.clamp]
@[simp] theorem State.clamp_strap (id wr ap : Nat) (w m : Bool) (k : Nat) : (s.clamp id wr ap w m k).strap = s.strap := by simp [State.clamp]
@[simp] theorem State.clamp_mode (id wr ap : Nat) (w m : Bool) (k : Nat) : (s.clamp id wr ap w m k).mode = s.mode := by simp [State.clamp]
@[simp] theorem State.clamp_rst (id wr ap : Nat) (w m : Bool) (k : Nat) : (s.clamp id wr ap w m k).rst = s.rst := by simp [State.clamp]
@[simp] theorem State.clamp_tb (id wr ap : Nat) (w m : Bool) (k : Nat) : (s.clamp id wr ap w m k).tb = s.tb := by simp [State.clamp]
@[simp] theorem State.clamp_pwr (id wr ap : Nat) (w m : Bool) (k : Nat) : (s.clamp id wr ap w m k).pwr = s.pwr := by simp [State.clamp]
@[simp] theorem State.clamp_lines (id wr ap : Nat) (w m : Bool) (k : Nat) : (s.clamp id wr ap w m k).lines = s.lines := by simp [State.clamp]
@[simp] theorem State.clamp_scrub (id wr ap : Nat) (w m : Bool) (k : Nat) : (s.clamp id wr ap w m k).scrub = s.scrub := by simp [State.clamp]
@[simp] theorem State.clamp_scrubbed (id wr ap : Nat) (w m : Bool) (k : Nat) : (s.clamp id wr ap w m k).scrubbed = s.scrubbed := by simp [State.clamp]
@[simp] theorem State.clamp_trans (id wr ap : Nat) (w m : Bool) (k : Nat) : (s.clamp id wr ap w m k).trans = s.trans := by simp [State.clamp]
@[simp] theorem State.clamp_pages (id wr ap : Nat) (w m : Bool) (k : Nat) : (s.clamp id wr ap w m k).pages = s.pages := by simp [State.clamp]
@[simp] theorem State.clamp_groups (id wr ap : Nat) (w m : Bool) (k : Nat) : (s.clamp id wr ap w m k).groups = s.groups := by simp [State.clamp]
@[simp] theorem State.clamp_insts (id wr ap : Nat) (w m : Bool) (k : Nat) : (s.clamp id wr ap w m k).insts = s.insts := by simp [State.clamp]
@[simp] theorem State.clamp_tgts (id wr ap : Nat) (w m : Bool) (k : Nat) : (s.clamp id wr ap w m k).tgts = s.tgts := by simp [State.clamp]
@[simp] theorem State.clamp_links (id wr ap : Nat) (w m : Bool) (k : Nat) : (s.clamp id wr ap w m k).links = s.links := by simp [State.clamp]
@[simp] theorem State.clamp_inch (id wr ap : Nat) (w m : Bool) (k : Nat) : (s.clamp id wr ap w m k).inch = s.inch := by simp [State.clamp]
@[simp] theorem State.clamp_relays (id wr ap : Nat) (w m : Bool) (k : Nat) : (s.clamp id wr ap w m k).relays = s.relays := by simp [State.clamp]
@[simp] theorem State.clamp_poolTop (id wr ap : Nat) (w m : Bool) (k : Nat) : (s.clamp id wr ap w m k).poolTop = s.poolTop := by simp [State.clamp]
@[simp] theorem State.clamp_relayTop (id wr ap : Nat) (w m : Bool) (k : Nat) : (s.clamp id wr ap w m k).relayTop = s.relayTop := by simp [State.clamp]
@[simp] theorem State.clamp_farch (id wr ap : Nat) (w m : Bool) (k : Nat) : (s.clamp id wr ap w m k).farch = s.farch := by simp [State.clamp]
@[simp] theorem State.clamp_clusters (id wr ap : Nat) (w m : Bool) (k : Nat) : (s.clamp id wr ap w m k).clusters = s.clusters := by simp [State.clamp]
@[simp] theorem State.clamp_rank (id wr ap : Nat) (w m : Bool) (k : Nat) : (s.clamp id wr ap w m k).rank = s.rank := by simp [State.clamp]
@[simp] theorem State.clamp_cmd (id wr ap : Nat) (w m : Bool) (k : Nat) : (s.clamp id wr ap w m k).cmd = s.cmd := by simp [State.clamp]
@[simp] theorem State.clamp_acc (id wr ap : Nat) (w m : Bool) (k : Nat) : (s.clamp id wr ap w m k).acc = s.acc := by simp [State.clamp]
@[simp] theorem State.clamp_bus (id wr ap : Nat) (w m : Bool) (k : Nat) : (s.clamp id wr ap w m k).bus = s.bus := by simp [State.clamp]
@[simp] theorem State.clamp_at_ctx (id wr ap : Nat) (w m : Bool) (k : Nat) (x : Nat) : (s.clamp id wr ap w m k).ctx x = s.ctx x := by simp [State.ctx]
@[simp] theorem State.clamp_at_tgt (id wr ap : Nat) (w m : Bool) (k : Nat) (x : Nat) : (s.clamp id wr ap w m k).tgt x = s.tgt x := by simp [State.tgt]
@[simp] theorem State.clamp_at_queue (id wr ap : Nat) (w m : Bool) (k : Nat) (x : Nat) : (s.clamp id wr ap w m k).queue x = s.queue x := by simp [State.queue]
@[simp] theorem State.clamp_at_isHeld (id wr ap : Nat) (w m : Bool) (k : Nat) (x : Nat) : (s.clamp id wr ap w m k).isHeld x = s.isHeld x := by simp [State.isHeld]
@[simp] theorem State.clamp_flt_corr (id wr ap : Nat) (w m : Bool) (k : Nat) : (s.clamp id wr ap w m k).flt.corr = s.flt.corr := by simp [State.clamp]
@[simp] theorem State.clamp_flt_cont (id wr ap : Nat) (w m : Bool) (k : Nat) : (s.clamp id wr ap w m k).flt.cont = s.flt.cont := by simp [State.clamp]
@[simp] theorem State.clamp_flt_cwr (id wr ap : Nat) (w m : Bool) (k : Nat) : (s.clamp id wr ap w m k).flt.cwr = s.flt.cwr := by simp [State.clamp]
@[simp] theorem State.clamp_flt_uncont (id wr ap : Nat) (w m : Bool) (k : Nat) : (s.clamp id wr ap w m k).flt.uncont = s.flt.uncont := by simp [State.clamp]
@[simp] theorem State.clamp_flt_new_ (id wr ap : Nat) (w m : Bool) (k : Nat) : (s.clamp id wr ap w m k).flt.new_ = s.flt.new_ := by simp [State.clamp]
@[simp] theorem State.clamp_flt_seq (id wr ap : Nat) (w m : Bool) (k : Nat) : (s.clamp id wr ap w m k).flt.seq = s.flt.seq := by simp [State.clamp]
@[simp] theorem State.clamp_flt_count (id wr ap : Nat) (w m : Bool) (k : Nat) : (s.clamp id wr ap w m k).flt.count = s.flt.count := by simp [State.clamp]
@[simp] theorem State.clamp_flt_mergedCount (id wr ap : Nat) (w m : Bool) (k : Nat) : (s.clamp id wr ap w m k).flt.mergedCount = s.flt.mergedCount := by simp [State.clamp]
@[simp] theorem State.clamp_flt_queue (id wr ap : Nat) (w m : Bool) (k : Nat) : (s.clamp id wr ap w m k).flt.queue = s.flt.queue := by simp [State.clamp]
@[simp] theorem State.clamp_flt_qdrop (id wr ap : Nat) (w m : Bool) (k : Nat) : (s.clamp id wr ap w m k).flt.qdrop = s.flt.qdrop := by simp [State.clamp]
@[simp] theorem State.clamp_flt_dropsOwed (id wr ap : Nat) (w m : Bool) (k : Nat) : (s.clamp id wr ap w m k).flt.dropsOwed = s.flt.dropsOwed := by simp [State.clamp]
@[simp] theorem State.clamp_flt_escNotify (id wr ap : Nat) (w m : Bool) (k : Nat) : (s.clamp id wr ap w m k).flt.escNotify = s.flt.escNotify := by simp [State.clamp]
@[simp] theorem State.clamp_flt_escRecovery (id wr ap : Nat) (w m : Bool) (k : Nat) : (s.clamp id wr ap w m k).flt.escRecovery = s.flt.escRecovery := by simp [State.clamp]
@[simp] theorem State.clamp_flt_escWarm (id wr ap : Nat) (w m : Bool) (k : Nat) : (s.clamp id wr ap w m k).flt.escWarm = s.flt.escWarm := by simp [State.clamp]
@[simp] theorem State.clamp_flt_log (id wr ap : Nat) (w m : Bool) (k : Nat) : (s.clamp id wr ap w m k).flt.log = s.flt.log := by simp [State.clamp]
@[simp] theorem State.clamp_flt_pre (id wr ap : Nat) (w m : Bool) (k : Nat) : (s.clamp id wr ap w m k).flt.pre = s.flt.pre := by simp [State.clamp]
@[simp] theorem State.clamp_tick (id wr ap : Nat) (w m : Bool) (k : Nat) : (s.clamp id wr ap w m k).tick = s.tick := by simp [State.tick]

/-! ### notice -/

@[simp] theorem State.notice_pending (m : Nat) (p q : Bool) (a b c d e : Nat) : (s.notice m p q a b c d e).pending = s.pending := by simp [State.notice]
@[simp] theorem State.notice_now (m : Nat) (p q : Bool) (a b c d e : Nat) : (s.notice m p q a b c d e).now = s.now := by simp [State.notice]
@[simp] theorem State.notice_free (m : Nat) (p q : Bool) (a b c d e : Nat) : (s.notice m p q a b c d e).free = s.free := by simp [State.notice]
@[simp] theorem State.notice_pins (m : Nat) (p q : Bool) (a b c d e : Nat) : (s.notice m p q a b c d e).pins = s.pins := by simp [State.notice]
@[simp] theorem State.notice_strap (m : Nat) (p q : Bool) (a b c d e : Nat) : (s.notice m p q a b c d e).strap = s.strap := by simp [State.notice]
@[simp] theorem State.notice_mode (m : Nat) (p q : Bool) (a b c d e : Nat) : (s.notice m p q a b c d e).mode = s.mode := by simp [State.notice]
@[simp] theorem State.notice_rst (m : Nat) (p q : Bool) (a b c d e : Nat) : (s.notice m p q a b c d e).rst = s.rst := by simp [State.notice]
@[simp] theorem State.notice_tb (m : Nat) (p q : Bool) (a b c d e : Nat) : (s.notice m p q a b c d e).tb = s.tb := by simp [State.notice]
@[simp] theorem State.notice_pwr (m : Nat) (p q : Bool) (a b c d e : Nat) : (s.notice m p q a b c d e).pwr = s.pwr := by simp [State.notice]
@[simp] theorem State.notice_cfg (m : Nat) (p q : Bool) (a b c d e : Nat) : (s.notice m p q a b c d e).cfg = s.cfg := by simp [State.notice]
@[simp] theorem State.notice_lines (m : Nat) (p q : Bool) (a b c d e : Nat) : (s.notice m p q a b c d e).lines = s.lines := by simp [State.notice]
@[simp] theorem State.notice_scrub (m : Nat) (p q : Bool) (a b c d e : Nat) : (s.notice m p q a b c d e).scrub = s.scrub := by simp [State.notice]
@[simp] theorem State.notice_scrubbed (m : Nat) (p q : Bool) (a b c d e : Nat) : (s.notice m p q a b c d e).scrubbed = s.scrubbed := by simp [State.notice]
@[simp] theorem State.notice_trans (m : Nat) (p q : Bool) (a b c d e : Nat) : (s.notice m p q a b c d e).trans = s.trans := by simp [State.notice]
@[simp] theorem State.notice_pages (m : Nat) (p q : Bool) (a b c d e : Nat) : (s.notice m p q a b c d e).pages = s.pages := by simp [State.notice]
@[simp] theorem State.notice_groups (m : Nat) (p q : Bool) (a b c d e : Nat) : (s.notice m p q a b c d e).groups = s.groups := by simp [State.notice]
@[simp] theorem State.notice_insts (m : Nat) (p q : Bool) (a b c d e : Nat) : (s.notice m p q a b c d e).insts = s.insts := by simp [State.notice]
@[simp] theorem State.notice_tgts (m : Nat) (p q : Bool) (a b c d e : Nat) : (s.notice m p q a b c d e).tgts = s.tgts := by simp [State.notice]
@[simp] theorem State.notice_links (m : Nat) (p q : Bool) (a b c d e : Nat) : (s.notice m p q a b c d e).links = s.links := by simp [State.notice]
@[simp] theorem State.notice_inch (m : Nat) (p q : Bool) (a b c d e : Nat) : (s.notice m p q a b c d e).inch = s.inch := by simp [State.notice]
@[simp] theorem State.notice_relays (m : Nat) (p q : Bool) (a b c d e : Nat) : (s.notice m p q a b c d e).relays = s.relays := by simp [State.notice]
@[simp] theorem State.notice_poolTop (m : Nat) (p q : Bool) (a b c d e : Nat) : (s.notice m p q a b c d e).poolTop = s.poolTop := by simp [State.notice]
@[simp] theorem State.notice_relayTop (m : Nat) (p q : Bool) (a b c d e : Nat) : (s.notice m p q a b c d e).relayTop = s.relayTop := by simp [State.notice]
@[simp] theorem State.notice_farch (m : Nat) (p q : Bool) (a b c d e : Nat) : (s.notice m p q a b c d e).farch = s.farch := by simp [State.notice]
@[simp] theorem State.notice_clusters (m : Nat) (p q : Bool) (a b c d e : Nat) : (s.notice m p q a b c d e).clusters = s.clusters := by simp [State.notice]
@[simp] theorem State.notice_rank (m : Nat) (p q : Bool) (a b c d e : Nat) : (s.notice m p q a b c d e).rank = s.rank := by simp [State.notice]
@[simp] theorem State.notice_cmd (m : Nat) (p q : Bool) (a b c d e : Nat) : (s.notice m p q a b c d e).cmd = s.cmd := by simp [State.notice]
@[simp] theorem State.notice_bus (m : Nat) (p q : Bool) (a b c d e : Nat) : (s.notice m p q a b c d e).bus = s.bus := by simp [State.notice]
@[simp] theorem State.notice_at_ctx (m : Nat) (p q : Bool) (a b c d e : Nat) (x : Nat) : (s.notice m p q a b c d e).ctx x = s.ctx x := by simp [State.ctx]
@[simp] theorem State.notice_at_tgt (m : Nat) (p q : Bool) (a b c d e : Nat) (x : Nat) : (s.notice m p q a b c d e).tgt x = s.tgt x := by simp [State.tgt]
@[simp] theorem State.notice_at_queue (m : Nat) (p q : Bool) (a b c d e : Nat) (x : Nat) : (s.notice m p q a b c d e).queue x = s.queue x := by simp [State.queue]
@[simp] theorem State.notice_at_isHeld (m : Nat) (p q : Bool) (a b c d e : Nat) (x : Nat) : (s.notice m p q a b c d e).isHeld x = s.isHeld x := by simp [State.isHeld]
@[simp] theorem State.notice_flt_corr (m : Nat) (p q : Bool) (a b c d e : Nat) : (s.notice m p q a b c d e).flt.corr = s.flt.corr := by simp [State.notice]
@[simp] theorem State.notice_flt_cont (m : Nat) (p q : Bool) (a b c d e : Nat) : (s.notice m p q a b c d e).flt.cont = s.flt.cont := by simp [State.notice]
@[simp] theorem State.notice_flt_cwr (m : Nat) (p q : Bool) (a b c d e : Nat) : (s.notice m p q a b c d e).flt.cwr = s.flt.cwr := by simp [State.notice]
@[simp] theorem State.notice_flt_uncont (m : Nat) (p q : Bool) (a b c d e : Nat) : (s.notice m p q a b c d e).flt.uncont = s.flt.uncont := by simp [State.notice]
@[simp] theorem State.notice_flt_new_ (m : Nat) (p q : Bool) (a b c d e : Nat) : (s.notice m p q a b c d e).flt.new_ = s.flt.new_ := by simp [State.notice]
@[simp] theorem State.notice_flt_seq (m : Nat) (p q : Bool) (a b c d e : Nat) : (s.notice m p q a b c d e).flt.seq = s.flt.seq := by simp [State.notice]
@[simp] theorem State.notice_flt_count (m : Nat) (p q : Bool) (a b c d e : Nat) : (s.notice m p q a b c d e).flt.count = s.flt.count := by simp [State.notice]
@[simp] theorem State.notice_flt_mergedCount (m : Nat) (p q : Bool) (a b c d e : Nat) : (s.notice m p q a b c d e).flt.mergedCount = s.flt.mergedCount := by simp [State.notice]
@[simp] theorem State.notice_flt_queue (m : Nat) (p q : Bool) (a b c d e : Nat) : (s.notice m p q a b c d e).flt.queue = s.flt.queue := by simp [State.notice]
@[simp] theorem State.notice_flt_qdrop (m : Nat) (p q : Bool) (a b c d e : Nat) : (s.notice m p q a b c d e).flt.qdrop = s.flt.qdrop := by simp [State.notice]
@[simp] theorem State.notice_flt_dropsOwed (m : Nat) (p q : Bool) (a b c d e : Nat) : (s.notice m p q a b c d e).flt.dropsOwed = s.flt.dropsOwed := by simp [State.notice]
@[simp] theorem State.notice_flt_escNotify (m : Nat) (p q : Bool) (a b c d e : Nat) : (s.notice m p q a b c d e).flt.escNotify = s.flt.escNotify := by simp [State.notice]
@[simp] theorem State.notice_flt_escRecovery (m : Nat) (p q : Bool) (a b c d e : Nat) : (s.notice m p q a b c d e).flt.escRecovery = s.flt.escRecovery := by simp [State.notice]
@[simp] theorem State.notice_flt_escWarm (m : Nat) (p q : Bool) (a b c d e : Nat) : (s.notice m p q a b c d e).flt.escWarm = s.flt.escWarm := by simp [State.notice]
@[simp] theorem State.notice_flt_log (m : Nat) (p q : Bool) (a b c d e : Nat) : (s.notice m p q a b c d e).flt.log = s.flt.log := by simp [State.notice]
@[simp] theorem State.notice_flt_pre (m : Nat) (p q : Bool) (a b c d e : Nat) : (s.notice m p q a b c d e).flt.pre = s.flt.pre := by simp [State.notice]
@[simp] theorem State.notice_tick (m : Nat) (p q : Bool) (a b c d e : Nat) : (s.notice m p q a b c d e).tick = s.tick := by simp [State.tick]

/-! ### refuse -/

@[simp] theorem State.refuse_pending (a b : Nat) (f : PulseFrom) (i : Nat) : (s.refuse a b f i).pending = s.pending := by simp [State.refuse]
@[simp] theorem State.refuse_now (a b : Nat) (f : PulseFrom) (i : Nat) : (s.refuse a b f i).now = s.now := by simp [State.refuse]
@[simp] theorem State.refuse_free (a b : Nat) (f : PulseFrom) (i : Nat) : (s.refuse a b f i).free = s.free := by simp [State.refuse]
@[simp] theorem State.refuse_pins (a b : Nat) (f : PulseFrom) (i : Nat) : (s.refuse a b f i).pins = s.pins := by simp [State.refuse]
@[simp] theorem State.refuse_strap (a b : Nat) (f : PulseFrom) (i : Nat) : (s.refuse a b f i).strap = s.strap := by simp [State.refuse]
@[simp] theorem State.refuse_mode (a b : Nat) (f : PulseFrom) (i : Nat) : (s.refuse a b f i).mode = s.mode := by simp [State.refuse]
@[simp] theorem State.refuse_rst (a b : Nat) (f : PulseFrom) (i : Nat) : (s.refuse a b f i).rst = s.rst := by simp [State.refuse]
@[simp] theorem State.refuse_tb (a b : Nat) (f : PulseFrom) (i : Nat) : (s.refuse a b f i).tb = s.tb := by simp [State.refuse]
@[simp] theorem State.refuse_pwr (a b : Nat) (f : PulseFrom) (i : Nat) : (s.refuse a b f i).pwr = s.pwr := by simp [State.refuse]
@[simp] theorem State.refuse_cfg (a b : Nat) (f : PulseFrom) (i : Nat) : (s.refuse a b f i).cfg = s.cfg := by simp [State.refuse]
@[simp] theorem State.refuse_lines (a b : Nat) (f : PulseFrom) (i : Nat) : (s.refuse a b f i).lines = s.lines := by simp [State.refuse]
@[simp] theorem State.refuse_scrub (a b : Nat) (f : PulseFrom) (i : Nat) : (s.refuse a b f i).scrub = s.scrub := by simp [State.refuse]
@[simp] theorem State.refuse_scrubbed (a b : Nat) (f : PulseFrom) (i : Nat) : (s.refuse a b f i).scrubbed = s.scrubbed := by simp [State.refuse]
@[simp] theorem State.refuse_trans (a b : Nat) (f : PulseFrom) (i : Nat) : (s.refuse a b f i).trans = s.trans := by simp [State.refuse]
@[simp] theorem State.refuse_pages (a b : Nat) (f : PulseFrom) (i : Nat) : (s.refuse a b f i).pages = s.pages := by simp [State.refuse]
@[simp] theorem State.refuse_groups (a b : Nat) (f : PulseFrom) (i : Nat) : (s.refuse a b f i).groups = s.groups := by simp [State.refuse]
@[simp] theorem State.refuse_insts (a b : Nat) (f : PulseFrom) (i : Nat) : (s.refuse a b f i).insts = s.insts := by simp [State.refuse]
@[simp] theorem State.refuse_tgts (a b : Nat) (f : PulseFrom) (i : Nat) : (s.refuse a b f i).tgts = s.tgts := by simp [State.refuse]
@[simp] theorem State.refuse_links (a b : Nat) (f : PulseFrom) (i : Nat) : (s.refuse a b f i).links = s.links := by simp [State.refuse]
@[simp] theorem State.refuse_inch (a b : Nat) (f : PulseFrom) (i : Nat) : (s.refuse a b f i).inch = s.inch := by simp [State.refuse]
@[simp] theorem State.refuse_relays (a b : Nat) (f : PulseFrom) (i : Nat) : (s.refuse a b f i).relays = s.relays := by simp [State.refuse]
@[simp] theorem State.refuse_poolTop (a b : Nat) (f : PulseFrom) (i : Nat) : (s.refuse a b f i).poolTop = s.poolTop := by simp [State.refuse]
@[simp] theorem State.refuse_relayTop (a b : Nat) (f : PulseFrom) (i : Nat) : (s.refuse a b f i).relayTop = s.relayTop := by simp [State.refuse]
@[simp] theorem State.refuse_farch (a b : Nat) (f : PulseFrom) (i : Nat) : (s.refuse a b f i).farch = s.farch := by simp [State.refuse]
@[simp] theorem State.refuse_clusters (a b : Nat) (f : PulseFrom) (i : Nat) : (s.refuse a b f i).clusters = s.clusters := by simp [State.refuse]
@[simp] theorem State.refuse_rank (a b : Nat) (f : PulseFrom) (i : Nat) : (s.refuse a b f i).rank = s.rank := by simp [State.refuse]
@[simp] theorem State.refuse_cmd (a b : Nat) (f : PulseFrom) (i : Nat) : (s.refuse a b f i).cmd = s.cmd := by simp [State.refuse]
@[simp] theorem State.refuse_bus (a b : Nat) (f : PulseFrom) (i : Nat) : (s.refuse a b f i).bus = s.bus := by simp [State.refuse]
@[simp] theorem State.refuse_at_ctx (a b : Nat) (f : PulseFrom) (i : Nat) (x : Nat) : (s.refuse a b f i).ctx x = s.ctx x := by simp [State.ctx]
@[simp] theorem State.refuse_at_tgt (a b : Nat) (f : PulseFrom) (i : Nat) (x : Nat) : (s.refuse a b f i).tgt x = s.tgt x := by simp [State.tgt]
@[simp] theorem State.refuse_at_queue (a b : Nat) (f : PulseFrom) (i : Nat) (x : Nat) : (s.refuse a b f i).queue x = s.queue x := by simp [State.queue]
@[simp] theorem State.refuse_at_isHeld (a b : Nat) (f : PulseFrom) (i : Nat) (x : Nat) : (s.refuse a b f i).isHeld x = s.isHeld x := by simp [State.isHeld]
@[simp] theorem State.refuse_flt_corr (a b : Nat) (f : PulseFrom) (i : Nat) : (s.refuse a b f i).flt.corr = s.flt.corr := by simp [State.refuse]
@[simp] theorem State.refuse_flt_cont (a b : Nat) (f : PulseFrom) (i : Nat) : (s.refuse a b f i).flt.cont = s.flt.cont := by simp [State.refuse]
@[simp] theorem State.refuse_flt_cwr (a b : Nat) (f : PulseFrom) (i : Nat) : (s.refuse a b f i).flt.cwr = s.flt.cwr := by simp [State.refuse]
@[simp] theorem State.refuse_flt_uncont (a b : Nat) (f : PulseFrom) (i : Nat) : (s.refuse a b f i).flt.uncont = s.flt.uncont := by simp [State.refuse]
@[simp] theorem State.refuse_flt_new_ (a b : Nat) (f : PulseFrom) (i : Nat) : (s.refuse a b f i).flt.new_ = s.flt.new_ := by simp [State.refuse]
@[simp] theorem State.refuse_flt_seq (a b : Nat) (f : PulseFrom) (i : Nat) : (s.refuse a b f i).flt.seq = s.flt.seq := by simp [State.refuse]
@[simp] theorem State.refuse_flt_count (a b : Nat) (f : PulseFrom) (i : Nat) : (s.refuse a b f i).flt.count = s.flt.count := by simp [State.refuse]
@[simp] theorem State.refuse_flt_mergedCount (a b : Nat) (f : PulseFrom) (i : Nat) : (s.refuse a b f i).flt.mergedCount = s.flt.mergedCount := by simp [State.refuse]
@[simp] theorem State.refuse_flt_queue (a b : Nat) (f : PulseFrom) (i : Nat) : (s.refuse a b f i).flt.queue = s.flt.queue := by simp [State.refuse]
@[simp] theorem State.refuse_flt_qdrop (a b : Nat) (f : PulseFrom) (i : Nat) : (s.refuse a b f i).flt.qdrop = s.flt.qdrop := by simp [State.refuse]
@[simp] theorem State.refuse_flt_dropsOwed (a b : Nat) (f : PulseFrom) (i : Nat) : (s.refuse a b f i).flt.dropsOwed = s.flt.dropsOwed := by simp [State.refuse]
@[simp] theorem State.refuse_flt_escNotify (a b : Nat) (f : PulseFrom) (i : Nat) : (s.refuse a b f i).flt.escNotify = s.flt.escNotify := by simp [State.refuse]
@[simp] theorem State.refuse_flt_escRecovery (a b : Nat) (f : PulseFrom) (i : Nat) : (s.refuse a b f i).flt.escRecovery = s.flt.escRecovery := by simp [State.refuse]
@[simp] theorem State.refuse_flt_escWarm (a b : Nat) (f : PulseFrom) (i : Nat) : (s.refuse a b f i).flt.escWarm = s.flt.escWarm := by simp [State.refuse]
@[simp] theorem State.refuse_flt_log (a b : Nat) (f : PulseFrom) (i : Nat) : (s.refuse a b f i).flt.log = s.flt.log := by simp [State.refuse]
@[simp] theorem State.refuse_flt_pre (a b : Nat) (f : PulseFrom) (i : Nat) : (s.refuse a b f i).flt.pre = s.flt.pre := by simp [State.refuse]
@[simp] theorem State.refuse_tick (a b : Nat) (f : PulseFrom) (i : Nat) : (s.refuse a b f i).tick = s.tick := by simp [State.tick]

end Sys2Proof.Machine
end

