-- ==== Sys2Proof/Laws/PerInstr.lean ====
section
/-! SUPPORT. For each command: it is well formed unless it is a message write whose data is not sixteen dwords (R44) or the end
of a witness window whose temperature does not fit eight bits (R483). -/
namespace Sys2Proof.Laws

/-- What makes `i` well formed: of a message write its data, of a witness window its temperature, of any other nothing. -/
def WellFormedness.Statement (i : Instr) : Prop :=
  (∀ c m, i = .messageWriteTransfer c m → m.data.length = 16) → (∀ r t, i = .witnessWindowEnd r t → -128 ≤ t ∧ t ≤ 127) →
    i.wf = true

theorem WellFormedness.coldResetAssert (src : ColdSrc) : WellFormedness.Statement (.coldResetAssert src) := fun _ _ => rfl
theorem WellFormedness.coldResetRelease (src : ColdSrc) (pins : StrapPins) : WellFormedness.Statement (.coldResetRelease src pins) := fun _ _ => rfl
theorem WellFormedness.warmResetAssert (src : WarmSrc) : WellFormedness.Statement (.warmResetAssert src) := fun _ _ => rfl
theorem WellFormedness.warmResetRelease (src : WarmSrc) : WellFormedness.Statement (.warmResetRelease src) := fun _ _ => rfl
theorem WellFormedness.warmResetTakeHold (part : HoldPart) : WellFormedness.Statement (.warmResetTakeHold part) := fun _ _ => rfl
theorem WellFormedness.intakeDrainComplete : WellFormedness.Statement .intakeDrainComplete := fun _ _ => rfl
theorem WellFormedness.intakeDrainTimeout : WellFormedness.Statement .intakeDrainTimeout := fun _ _ => rfl
theorem WellFormedness.kEscChange (v : Fin 4) : WellFormedness.Statement (.kEscChange v) := fun _ _ => rfl
theorem WellFormedness.kPwrReqChange (v : Fin 8) : WellFormedness.Statement (.kPwrReqChange v) := fun _ _ => rfl
theorem WellFormedness.strapChange (pins : StrapPins) : WellFormedness.Statement (.strapChange pins) := fun _ _ => rfl
theorem WellFormedness.domainRelease : WellFormedness.Statement .domainRelease := fun _ _ => rfl
theorem WellFormedness.inkwellInitComplete : WellFormedness.Statement .inkwellInitComplete := fun _ _ => rfl
theorem WellFormedness.firmwareReady : WellFormedness.Statement .firmwareReady := fun _ _ => rfl
theorem WellFormedness.timebaseGood (devPpm : Int) : WellFormedness.Statement (.timebaseGood devPpm) := fun _ _ => rfl
theorem WellFormedness.oscCalibrationComplete : WellFormedness.Statement .oscCalibrationComplete := fun _ _ => rfl
theorem WellFormedness.timebaseFallback : WellFormedness.Statement .timebaseFallback := fun _ _ => rfl
theorem WellFormedness.kPtsLoad (v : DWord) : WellFormedness.Statement (.kPtsLoad v) := fun _ _ => rfl
theorem WellFormedness.clockPresenceRise (b : Boundary) : WellFormedness.Statement (.clockPresenceRise b) := fun _ _ => rfl
theorem WellFormedness.clockPresenceFall (b : Boundary) : WellFormedness.Statement (.clockPresenceFall b) := fun _ _ => rfl
theorem WellFormedness.clockAbsent (b : Boundary) : WellFormedness.Statement (.clockAbsent b) := fun _ _ => rfl
theorem WellFormedness.lineEdge (k : Fin 2048) (high : Bool) : WellFormedness.Statement (.lineEdge k high) := fun _ _ => rfl
theorem WellFormedness.lineHandoff (k : Fin 2048) : WellFormedness.Statement (.lineHandoff k) := fun _ _ => rfl
theorem WellFormedness.wakeLineEdge (w : Fin 32) : WellFormedness.Statement (.wakeLineEdge w) := fun _ _ => rfl
theorem WellFormedness.switchItem (id : Fin 512) (kind : Fin 4) : WellFormedness.Statement (.switchItem id kind) := fun _ _ => rfl
theorem WellFormedness.switchWakeDetect : WellFormedness.Statement .switchWakeDetect := fun _ _ => rfl
theorem WellFormedness.messageWriteTransfer (c : Fin 16) (m : MsgWrite) : WellFormedness.Statement (.messageWriteTransfer c m) := fun h _ => by simp [Instr.wf, MsgWrite.wf, h c m rfl]
theorem WellFormedness.messageWriteJudge (w : ByCluster (Fin 16)) : WellFormedness.Statement (.messageWriteJudge w) := fun _ _ => rfl
theorem WellFormedness.engineResultApply (w : ByCluster EngineWork) : WellFormedness.Statement (.engineResultApply w) := fun _ _ => rfl
theorem WellFormedness.rankDecision (t : Fin 1536) (upset : RankUpset) : WellFormedness.Statement (.rankDecision t upset) := fun _ _ => rfl
theorem WellFormedness.queueRepairComplete (t : WalkedQueues) : WellFormedness.Statement (.queueRepairComplete t) := fun _ _ => rfl
theorem WellFormedness.listRepairComplete (l : ListName) : WellFormedness.Statement (.listRepairComplete l) := fun _ _ => rfl
theorem WellFormedness.withdrawalAnswer (t : Fin 1536) (neverShown : Bool) : WellFormedness.Statement (.withdrawalAnswer t neverShown) := fun _ _ => rfl
theorem WellFormedness.nibTake (n : Fin 1024) : WellFormedness.Statement (.nibTake n) := fun _ _ => rfl
theorem WellFormedness.nibDone (n : Fin 1024) (eid : BitVec 20) : WellFormedness.Statement (.nibDone n eid) := fun _ _ => rfl
theorem WellFormedness.doneApply (t : Fin 1536) : WellFormedness.Statement (.doneApply t) := fun _ _ => rfl
theorem WellFormedness.nibRunlvlChange (n : Fin 1024) (v : BitVec 7) : WellFormedness.Statement (.nibRunlvlChange n v) := fun _ _ => rfl
theorem WellFormedness.nibIdleChange (n : Fin 1024) (v : BitVec 2) : WellFormedness.Statement (.nibIdleChange n v) := fun _ _ => rfl
theorem WellFormedness.nibClkOkFall (n : Fin 1024) : WellFormedness.Statement (.nibClkOkFall n) := fun _ _ => rfl
theorem WellFormedness.n2Take (g : Fin 32) (h : FlitHead) (eid : BitVec 20) : WellFormedness.Statement (.n2Take g h eid) := fun _ _ => rfl
theorem WellFormedness.n2Done (g : Fin 32) (h : FlitHead) (eid : BitVec 20) : WellFormedness.Statement (.n2Done g h eid) := fun _ _ => rfl
theorem WellFormedness.n2StateLevel (g : Fin 32) (h : FlitHead) (runlvl : BitVec 7) (idle : BitVec 2) (held : Bool) (heldPseq : Fin 256) : WellFormedness.Statement (.n2StateLevel g h runlvl idle held heldPseq) := fun _ _ => rfl
theorem WellFormedness.n2StateWack (g : Fin 32) (h : FlitHead) : WellFormedness.Statement (.n2StateWack g h) := fun _ _ => rfl
theorem WellFormedness.n2StateLink (g : Fin 32) (h : FlitHead) (replayEnd : Bool) : WellFormedness.Statement (.n2StateLink g h replayEnd) := fun _ _ => rfl
theorem WellFormedness.n2FlitBad (g : Fin 32) (why : FlitFlaw) : WellFormedness.Statement (.n2FlitBad g why) := fun _ _ => rfl
theorem WellFormedness.n2LinkKeepalive (g : Fin 32) : WellFormedness.Statement (.n2LinkKeepalive g) := fun _ _ => rfl
theorem WellFormedness.n2LinkDown (g : Fin 32) : WellFormedness.Statement (.n2LinkDown g) := fun _ _ => rfl
theorem WellFormedness.n2LinkUp (g : Fin 32) : WellFormedness.Statement (.n2LinkUp g) := fun _ _ => rfl
theorem WellFormedness.n2LinkDownTimeout (g : Fin 32) : WellFormedness.Statement (.n2LinkDownTimeout g) := fun _ _ => rfl
theorem WellFormedness.farOffer (j : Fin 512) : WellFormedness.Statement (.farOffer j) := fun _ _ => rfl
theorem WellFormedness.farCredit (f : Fin 4) : WellFormedness.Statement (.farCredit f) := fun _ _ => rfl
theorem WellFormedness.farWriteTransfer (f : Fin 4) : WellFormedness.Statement (.farWriteTransfer f) := fun _ _ => rfl
theorem WellFormedness.stallTimerExpiry (j : ByCluster (Fin 512)) : WellFormedness.Statement (.stallTimerExpiry j) := fun _ _ => rfl
theorem WellFormedness.ligWindowEnd (g : Fin 65536) : WellFormedness.Statement (.ligWindowEnd g) := fun _ _ => rfl
theorem WellFormedness.ligBatchMemberRelease (g : ByCluster (Fin 65536)) : WellFormedness.Statement (.ligBatchMemberRelease g) := fun _ _ => rfl
theorem WellFormedness.rateRefill (i : Fin 512) : WellFormedness.Statement (.rateRefill i) := fun _ _ => rfl
theorem WellFormedness.quotaListRelease (i : ByCluster (Fin 512)) : WellFormedness.Statement (.quotaListRelease i) := fun _ _ => rfl
theorem WellFormedness.frozenListRelease (i : ByCluster (Fin 512)) : WellFormedness.Statement (.frozenListRelease i) := fun _ _ => rfl
theorem WellFormedness.switchWorkStep (t : ByCluster (Fin 1024)) : WellFormedness.Statement (.switchWorkStep t) := fun _ _ => rfl
theorem WellFormedness.sweepStep (k : SweepName) (bank : Fin 64) : WellFormedness.Statement (.sweepStep k bank) := fun _ _ => rfl
theorem WellFormedness.auditStart : WellFormedness.Statement .auditStart := fun _ _ => rfl
theorem WellFormedness.auditComplete : WellFormedness.Statement .auditComplete := fun _ _ => rfl
theorem WellFormedness.rebuildScanComplete : WellFormedness.Statement .rebuildScanComplete := fun _ _ => rfl
theorem WellFormedness.takerSweepComplete (t : Fin 1536) : WellFormedness.Statement (.takerSweepComplete t) := fun _ _ => rfl
theorem WellFormedness.destroySweepComplete (i : Fin 512) : WellFormedness.Statement (.destroySweepComplete i) := fun _ _ => rfl
theorem WellFormedness.staleSweepComplete (i : Fin 512) : WellFormedness.Statement (.staleSweepComplete i) := fun _ _ => rfl
theorem WellFormedness.instanceDrainComplete (i : Fin 512) : WellFormedness.Statement (.instanceDrainComplete i) := fun _ _ => rfl
theorem WellFormedness.freezeComplete (i : Fin 512) : WellFormedness.Statement (.freezeComplete i) := fun _ _ => rfl
theorem WellFormedness.prepareSweepComplete (i : Fin 512) : WellFormedness.Statement (.prepareSweepComplete i) := fun _ _ => rfl
theorem WellFormedness.scrubTick (bank : Fin 64) (err : WordRead) : WellFormedness.Statement (.scrubTick bank err) := fun _ _ => rfl
theorem WellFormedness.witnessWindowEnd (revs : Fin 65536) (tempC : Int) : WellFormedness.Statement (.witnessWindowEnd revs tempC) := fun _ h => by simp [Instr.wf, tempWf, h revs tempC rfl]
theorem WellFormedness.walkerPassEnd : WellFormedness.Statement .walkerPassEnd := fun _ _ => rfl
theorem WellFormedness.unsealWindowExpiry : WellFormedness.Statement .unsealWindowExpiry := fun _ _ => rfl
theorem WellFormedness.quiesceDrainComplete : WellFormedness.Statement .quiesceDrainComplete := fun _ _ => rfl
theorem WellFormedness.quiesceTimeout : WellFormedness.Statement .quiesceTimeout := fun _ _ => rfl
theorem WellFormedness.parkEntryComplete : WellFormedness.Statement .parkEntryComplete := fun _ _ => rfl
theorem WellFormedness.parkWake (src : WakeSrc) : WellFormedness.Statement (.parkWake src) := fun _ _ => rfl
theorem WellFormedness.kPokCoreRise : WellFormedness.Statement .kPokCoreRise := fun _ _ => rfl
theorem WellFormedness.powerUpCheckComplete (failure : CheckResult) : WellFormedness.Statement (.powerUpCheckComplete failure) := fun _ _ => rfl
theorem WellFormedness.rungEnter : WellFormedness.Statement .rungEnter := fun _ _ => rfl
theorem WellFormedness.rungWake (src : WakeSrc) : WellFormedness.Statement (.rungWake src) := fun _ _ => rfl
theorem WellFormedness.rungAlarm : WellFormedness.Statement .rungAlarm := fun _ _ => rfl
theorem WellFormedness.softwareAlarm : WellFormedness.Statement .softwareAlarm := fun _ _ => rfl
theorem WellFormedness.recordWriteStart (supply : Bool) : WellFormedness.Statement (.recordWriteStart supply) := fun _ _ => rfl
theorem WellFormedness.recordWriteComplete : WellFormedness.Statement .recordWriteComplete := fun _ _ => rfl
theorem WellFormedness.patchProgramComplete : WellFormedness.Statement .patchProgramComplete := fun _ _ => rfl
theorem WellFormedness.datapathCodeError (part : Fin 8) (unit : BitVec 12) : WellFormedness.Statement (.datapathCodeError part unit) := fun _ _ => rfl
theorem WellFormedness.dualrailIncompleteTimeout (part : Fin 8) (unit : BitVec 12) : WellFormedness.Statement (.dualrailIncompleteTimeout part unit) := fun _ _ => rfl
theorem WellFormedness.bankParityFault (bank : Fin 64) : WellFormedness.Statement (.bankParityFault bank) := fun _ _ => rfl
theorem WellFormedness.faultRecordTransfer : WellFormedness.Statement .faultRecordTransfer := fun _ _ => rfl
theorem WellFormedness.lockstepMismatch (pair : Fin 4) (q : Fin 8) : WellFormedness.Statement (.lockstepMismatch pair q) := fun _ _ => rfl
theorem WellFormedness.lockstepRestartComplete (pair : Fin 4) (pass : Bool) : WellFormedness.Statement (.lockstepRestartComplete pair pass) := fun _ _ => rfl
theorem WellFormedness.epochDrained : WellFormedness.Statement .epochDrained := fun _ _ => rfl
theorem WellFormedness.domainQuiesceIdle : WellFormedness.Statement .domainQuiesceIdle := fun _ _ => rfl
theorem WellFormedness.domainQuiesceExpiry : WellFormedness.Statement .domainQuiesceExpiry := fun _ _ => rfl
theorem WellFormedness.domainResetRelease : WellFormedness.Statement .domainResetRelease := fun _ _ => rfl
theorem WellFormedness.hotWriteApply : WellFormedness.Statement .hotWriteApply := fun _ _ => rfl
theorem WellFormedness.registerWrite (b : BusReq) : WellFormedness.Statement (.registerWrite b) := fun _ _ => rfl
theorem WellFormedness.maskedWrite (b : BusReq) : WellFormedness.Statement (.maskedWrite b) := fun _ _ => rfl
theorem WellFormedness.sequenceWrite (b : BusReq) : WellFormedness.Statement (.sequenceWrite b) := fun _ _ => rfl
theorem WellFormedness.glbModeReqWrite (b : BusReq) : WellFormedness.Statement (.glbModeReqWrite b) := fun _ _ => rfl
theorem WellFormedness.lineCfgWrite (b : BusReq) : WellFormedness.Statement (.lineCfgWrite b) := fun _ _ => rfl
theorem WellFormedness.unsealLimitWrite (b : BusReq) : WellFormedness.Statement (.unsealLimitWrite b) := fun _ _ => rfl
theorem WellFormedness.ldgSnapTake (b : BusReq) : WellFormedness.Statement (.ldgSnapTake b) := fun _ _ => rfl
theorem WellFormedness.tgtTakeWrite (b : BusReq) : WellFormedness.Statement (.tgtTakeWrite b) := fun _ _ => rfl
theorem WellFormedness.tgtDoneWrite (b : BusReq) : WellFormedness.Statement (.tgtDoneWrite b) := fun _ _ => rfl
theorem WellFormedness.tgtRunlvlWrite (b : BusReq) : WellFormedness.Statement (.tgtRunlvlWrite b) := fun _ _ => rfl
theorem WellFormedness.tgtResInstWrite (b : BusReq) : WellFormedness.Statement (.tgtResInstWrite b) := fun _ _ => rfl
theorem WellFormedness.instDoorbellWrite (b : BusReq) : WellFormedness.Statement (.instDoorbellWrite b) := fun _ _ => rfl
theorem WellFormedness.tgtOccLoRead (b : BusReq) : WellFormedness.Statement (.tgtOccLoRead b) := fun _ _ => rfl
theorem WellFormedness.tbCountLoRead (b : BusReq) : WellFormedness.Statement (.tbCountLoRead b) := fun _ _ => rfl
theorem WellFormedness.accSlotLoRead (b : BusReq) : WellFormedness.Statement (.accSlotLoRead b) := fun _ _ => rfl
theorem WellFormedness.cqCmdFifoWrite (b : BusReq) : WellFormedness.Statement (.cqCmdFifoWrite b) := fun _ _ => rfl
theorem WellFormedness.cqRplFifoRead (b : BusReq) : WellFormedness.Statement (.cqRplFifoRead b) := fun _ _ => rfl
theorem WellFormedness.cqResync (b : BusReq) : WellFormedness.Statement (.cqResync b) := fun _ _ => rfl
theorem WellFormedness.cdwWrite (b : BusReq) : WellFormedness.Statement (.cdwWrite b) := fun _ _ => rfl
theorem WellFormedness.cdwRead (b : BusReq) : WellFormedness.Statement (.cdwRead b) := fun _ _ => rfl
theorem WellFormedness.cdwAbandonTimeout : WellFormedness.Statement .cdwAbandonTimeout := fun _ _ => rfl
theorem WellFormedness.echo (q : Fin 8) : WellFormedness.Statement (.echo q) := fun _ _ => rfl
theorem WellFormedness.queryCaps (q : Fin 8) : WellFormedness.Statement (.queryCaps q) := fun _ _ => rfl
theorem WellFormedness.srcConfig (q : Fin 8) : WellFormedness.Statement (.srcConfig q) := fun _ _ => rfl
theorem WellFormedness.srcRead (q : Fin 8) : WellFormedness.Statement (.srcRead q) := fun _ _ => rfl
theorem WellFormedness.srcEnable (q : Fin 8) : WellFormedness.Statement (.srcEnable q) := fun _ _ => rfl
theorem WellFormedness.srcDisable (q : Fin 8) : WellFormedness.Statement (.srcDisable q) := fun _ _ => rfl
theorem WellFormedness.srcInject (q : Fin 8) : WellFormedness.Statement (.srcInject q) := fun _ _ => rfl
theorem WellFormedness.mapDevice (q : Fin 8) : WellFormedness.Statement (.mapDevice q) := fun _ _ => rfl
theorem WellFormedness.unmapDevice (q : Fin 8) : WellFormedness.Statement (.unmapDevice q) := fun _ _ => rfl
theorem WellFormedness.relayConfig (q : Fin 8) : WellFormedness.Statement (.relayConfig q) := fun _ _ => rfl
theorem WellFormedness.ligConfig (q : Fin 8) : WellFormedness.Statement (.ligConfig q) := fun _ _ => rfl
theorem WellFormedness.ligFlush (q : Fin 8) : WellFormedness.Statement (.ligFlush q) := fun _ _ => rfl
theorem WellFormedness.tgtConfig (q : Fin 8) : WellFormedness.Statement (.tgtConfig q) := fun _ _ => rfl
theorem WellFormedness.tgtState (q : Fin 8) : WellFormedness.Statement (.tgtState q) := fun _ _ => rfl
theorem WellFormedness.instCreate (q : Fin 8) : WellFormedness.Statement (.instCreate q) := fun _ _ => rfl
theorem WellFormedness.instShare (q : Fin 8) : WellFormedness.Statement (.instShare q) := fun _ _ => rfl
theorem WellFormedness.instReset (q : Fin 8) : WellFormedness.Statement (.instReset q) := fun _ _ => rfl
theorem WellFormedness.instDestroy (q : Fin 8) : WellFormedness.Statement (.instDestroy q) := fun _ _ => rfl
theorem WellFormedness.huskFreeze (q : Fin 8) : WellFormedness.Statement (.huskFreeze q) := fun _ _ => rfl
theorem WellFormedness.huskSave (q : Fin 8) : WellFormedness.Statement (.huskSave q) := fun _ _ => rfl
theorem WellFormedness.huskRestore (q : Fin 8) : WellFormedness.Statement (.huskRestore q) := fun _ _ => rfl
theorem WellFormedness.huskThaw (q : Fin 8) : WellFormedness.Statement (.huskThaw q) := fun _ _ => rfl
theorem WellFormedness.gateRules (q : Fin 8) : WellFormedness.Statement (.gateRules q) := fun _ _ => rfl
theorem WellFormedness.commit (q : Fin 8) : WellFormedness.Statement (.commit q) := fun _ _ => rfl
theorem WellFormedness.unseal (q : Fin 8) : WellFormedness.Statement (.unseal q) := fun _ _ => rfl
theorem WellFormedness.rungSet (q : Fin 8) : WellFormedness.Statement (.rungSet q) := fun _ _ => rfl
theorem WellFormedness.ledgerAudit (q : Fin 8) : WellFormedness.Statement (.ledgerAudit q) := fun _ _ => rfl
theorem WellFormedness.recordRead (q : Fin 8) : WellFormedness.Statement (.recordRead q) := fun _ _ => rfl
theorem WellFormedness.recordFlush (q : Fin 8) : WellFormedness.Statement (.recordFlush q) := fun _ _ => rfl
theorem WellFormedness.domainReset (q : Fin 8) : WellFormedness.Statement (.domainReset q) := fun _ _ => rfl
theorem WellFormedness.bulkLoad (q : Fin 8) : WellFormedness.Statement (.bulkLoad q) := fun _ _ => rfl
theorem WellFormedness.bulkRead (q : Fin 8) : WellFormedness.Statement (.bulkRead q) := fun _ _ => rfl
theorem WellFormedness.registerRead (b : BusReq) : WellFormedness.Statement (.registerRead b) := fun _ _ => rfl
theorem WellFormedness.resetDeferralEnd : WellFormedness.Statement .resetDeferralEnd := fun _ _ => rfl

end Sys2Proof.Laws
end

