-- ==== Sys2Proof/Tests/Slice0.lean ====
section
/-! SUPPORT. Tests of the model on small states: the well-formedness check on ill-formed commands, single commands with the
results that the rules named give, and for every claim with hypotheses a state and operands that meet them. -/
namespace Sys2Proof.Tests
open Sys2Proof Sys2Proof.Machine
set_option Elab.async false

/-! ### Helpers -/

/-- The block in START mode, every domain released, every clock present, the firmware ready. -/
def on : State :=
  { now := 60000, mode := { mode := .start }, cmd := { fwReady := true },
    pins := { fabOk := true, mbOk := true, tbRefOk := true, nibOk := [(0, true), (1, true)] },
    rst := { cold := [], held := [], coldReach := false, ring := false, needInit := false, running := false },
    tb := { good := true, count := 50000 } }

/-- A packet of queue 0 ready to run: opcode, instance, flags of the header, and its words. -/
def packet (op inst flags : Nat) (ws : List (BitVec 64)) : Packet :=
  { hdr := BitVec.ofNat 64 (op + 7 * 2 ^ 8 + inst * 2 ^ 16 + ws.length * 2 ^ 31 + flags * 2 ^ 39), words := ws }

/-- Queue 0 of `s` runs packet `p`. -/
def run (p : Packet) (s : State) : State := s.onQueue 0 fun c => { c with cur := some p }

/-- Source 5 on its way: an enabled source of VI 0 for target 0. -/
def src5 : SrcRec := { en := true, prio := 3, stamp := 100, payload := 9 }

/-- A management bus request at a byte address. -/
def req (a : Nat) (size8 : Bool) (data : BitVec 64) : BusReq :=
  { addr := BitVec.ofNat 24 (a / 4), size8 := size8, posted := false, tag := 3, master := 1, priv := true, data := data }

/-- A message write of one dword at an aperture address. -/
def msg (addr : BitVec 40) (len : BitVec 5) : MsgWrite :=
  { addr := addr, len := len, fbe := 15, lbe := 0, data := [7, 0, 0, 0, 0, 0, 0, 0, 0, 0, 0, 0, 0, 0, 0, 0], master := 1,
    priv := true, poison := false }

/-- Source 5 presented at nib target 0. -/
def shown : State :=
  ((on.putSource 5 { src5 with st := .pending, place := .presented }).onCtx 0 fun c => { c with cellsPlaced := 1 }).putTgt 0
    { svc := .online, pres := some 5, held := true, presLevel := 3, pseq := 4, port := { req := true, eid := 5, prio := 3 } }

/-- A sweep that has passed every record of every bank. -/
def swept (n : SweepName) : Sweep := { name := n, pos := (List.range 64).map fun b => (b, 4160) }

/-- Source 5 queued at level 3 of nib target 0. -/
def queued : State :=
  ((on.putSource 5 { src5 with st := .pending, place := .queued }).onCtx 0 fun c => { c with cellsPlaced := 1 }).putTgt 0
    { svc := .online, queues := [(3, [5])], bits := 8, counts := [(3, 1)] }

/-- Source 5 withdrawing at nib target 0 with cause `c`. -/
def leaving (c : WCause) : State :=
  (shown.onSource 5 fun r => { r with place := .withdrawing, wcause := c }).onTgt 0 fun t => { t with wdrBusy := true }

/-- Switch work `w` at the virtual target 0, resident instance 4. -/
def switching (w : SwitchWork) : State :=
  { on with tgts := [(0, { svc := .online, virt := true, resInst := 4, switching := some w })] }

/-- Link 0 with Nib-2 targets, up and open. -/
def linked (s : State) : State :=
  { s with strap := { nibGen := 1 }, links := [(0, { up := true, open_ := true, everUp := true, agentCredits := 1 })] }

/-- A write of source 5 that a far target has ready. -/
def farWrite : FarWrite :=
  { eid := 5, level := 3, inst := 0, addr := 16, len := 1, dw0 := 5, dw1 := 0, tc := 0, relay := false, auto := false,
    altMask := 1, retryMax := 9, stallLimit := 0, offered := 40000 }

/-- Source 5 presented at far target 1024, with its write ready. -/
def offered : State :=
  ({ on.putSource 5 { src5 with st := .pending, place := .presented, target := 1024, serving := 1024 } with
    farch := [(0, { credits := 2 })] }).putTgt 1024
      { svc := .online, pres := some 5, held := true, pseq := 4, far :=
        { altMask := 1, retryMax := 9, ready := some farWrite, retryDue := some 49000, retryPseq := 4, retryCell := 266240 } }

/-- Sixteen bank orders wait for the withdrawal of source 69, so bank 5 opens restricted rounds. -/
def bankFull5 (s : State) : State := { s with parked := (List.range 16).map fun _ => (69, .deassertion) }

/-- Queue 0 has 16 deferred commands. -/
def deferredFull (s : State) : State :=
  { s with cmd := { s.cmd with nextId := 20, deferred := (List.range 16).map fun k =>
      { id := k, q := 0, tag := 1, opcode := 0x58, clamped := false, work := .audit } } }

/-- The window is open for queue 0 with `n` words to come. -/
def window (x : Xfer) (out : Bool) (n : Nat) (s : State) : State :=
  { s with cmd := { s.cmd with cdw := { q := 0, open_ := true, outward := out, left := n, last := 100, xfer := some x } } }

/-- What command `c` leaves of `s`. -/
def after (c : Instr) (s : State) : State :=
  match exec c s with
  | .next t => t
  | _ => s

/-- What command packet `p` leaves of `s`, when queue 0 runs it by `c`. -/
def ran (c : Fin 8 → Instr) (p : Packet) (s : State) : State := after (c 0) (run p s)

/-- The reply words of queue 0. -/
def replies (s : State) : List (BitVec 64) := (s.queue 0).rpl

/-- The status of the reply whose header word is `w` (R311). -/
def status (w : BitVec 64) : Nat := w.toNat / 2 ^ 8 % 256

/-- Master 1 may write the page of `slot` (R383). -/
def granted (slot : Nat) (s : State) : State := { s with acc := { s.acc with slots := [(slot, 2 ^ 47 + 2 ^ 45)] } }

/-- A relay record for vector 7 with payload 5, at page 0 of VI 0. -/
def relayMsg : MsgWrite := { msg 16 2 with lbe := 15, data := [7, 5] ++ List.replicate 14 0 }

/-- An extended write of one record: source 0x1009 with payload 5. -/
def extMsg : MsgWrite := { msg 0x80 2 with lbe := 15, data := [0x1009, 5] ++ List.replicate 14 0 }

/-- A version 2 save of instance 4 after its sections: the sources and the half entry still to come. -/
def saving (srcs : List Nat) (half : Option (Nat × BitVec 64)) (tail : Nat) : HuskOut :=
  { inst := 4, version := 2, move := false, delta := false, pre := [], srcs := srcs, half := half, crc := 0xFFFFFFFF,
    carried := 1, active := 0, tail := tail }

/-- A restore of instance 4 that has had `words`. -/
def restoring (words : List (BitVec 64)) : HuskIn :=
  { inst := 4, delta := false, pageBase := 0, transBase := 20, midDelta := 5, groupDelta := 0, words := words, undo := [],
    failed := none }

/-- The header of a version 2 husk with one translation entry and one source. -/
def huskWords : List (BitVec 64) := [0x24B48, 0x10000000D, 0x100000000, 0, 0, 0, 0, 0]

/-- The last word of a patch image of three words. -/
def patchCrc : BitVec 64 := BitVec.ofNat 64 (crc32c [0x300074650, 5])

/-! ### The well-formedness check -/

theorem test_message_without_sixteen_words_is_ill_formed :
    (Instr.messageWriteTransfer 2 { msg 0 1 with data := [7] }).wf = false := by decide +kernel

theorem test_temperature_outside_eight_bits_is_ill_formed : (Instr.witnessWindowEnd 0 200).wf = false := by decide +kernel

theorem test_ill_formed_command_faults : exec (.witnessWindowEnd 0 200) on = .fault .illFormed := rfl

theorem test_temperature_of_minus_128_is_well_formed : (Instr.witnessWindowEnd 0 (-128)).wf = true := by decide +kernel

/-! ### Single commands, with the results that the rules give -/

/-- R37, R406, R409: the straps are sampled at the release, code 0b11 of K_STRAP_TB is clamped to 0 and marked, D0 leaves reset. -/
theorem test_cold_release_samples_straps :
    let t := after (.coldResetRelease .pokAon ⟨3, 1, 9, 0⟩) State.reset
    t.strap.tb = 0 ∧ t.strap.tbClamped = true ∧ t.strap.boot = 1 ∧ t.strap.blockNum = 9 ∧ t.mode.mode = .ductus ∧
      t.isHeld 0 = false ∧ t.isHeld 1 = true := by decide +kernel

/-- R404: a cold reset takes the tables back to reset and leaves the block number of the straps to the next release. -/
theorem test_cold_assert_clears_sources :
    let t := after (.coldResetAssert .testEn) shown
    t.source 5 = {} ∧ (t.tgt 0).pres = none ∧ t.mode.mode = .cold ∧ t.rst.causeLast = 4 := by decide +kernel

/-- R405, R413: with no program pulse under way a warm reset holds D1, D4, D7 and D8 at once; the others wait. -/
theorem test_warm_assert_holds_four_domains :
    let t := after (.warmResetAssert .watchdog) on
    t.mode.mode = .warm ∧ [0, 1, 2, 3, 4, 5, 6, 7, 8].map t.isHeld = 
      [false, true, false, false, true, false, false, true, true] := by
  decide +kernel

/-- R63, R460: K_ESC 2 in START brings RECOVERY, and 3 a warm reset. -/
theorem test_escalation : (after (.kEscChange 2) on).mode.mode = .recovery ∧ (after (.kEscChange 3) on).mode.mode = .warm := by
  decide +kernel

/-- R68, R358: a request of rung 7 is clamped to 0 and logged. -/
theorem test_power_request_clamped :
    let t := after (.kPwrReqChange 7) on
    t.pwr.pin = 0 ∧ t.cfg.clampLogged = true ∧ t.cfg.clampCount = 1 := by decide +kernel

theorem test_straps_move_only_the_mark :
    (after (.strapChange ⟨1, 0, 0, 0⟩) on).strap = { on.strap with changed := true } := by decide +kernel

/-- The ductus before the release of D3, the last release at tick `n`. -/
def upTo3 (n : Nat) : Rst :=
  { held := [3, 4, 5, 6, 7, 8], running := true, next := 3, cold := [], needInit := false, lastRelease := { now := n, tick := n - 10000, ring := false } }

/-- R406: a domain waits for the gap after the last release, and is released once it has passed. -/
theorem test_domain_release_waits :
    (after .domainRelease { on with rst := upTo3 59999 }).isHeld 3 = true ∧
    (after .domainRelease { on with rst := upTo3 59000 }).isHeld 3 = false := by decide +kernel

theorem test_firmware_ready : (after .firmwareReady { on with cmd := {} }).cmd.fwReady = true := by decide +kernel

/-- R66: 20,000 parts in a million are taken, 20,001 are rejected. -/
theorem test_timebase_deviation :
    (after (.timebaseGood 20000) { on with tb := { calibrated := true } }).tb.good = true ∧
      (after (.timebaseGood 20001) { on with tb := { calibrated := true } }).tb.good = false := by decide +kernel

/-- R79, R106: a rising line of level sense is handed to its source, which becomes pending. -/
theorem test_level_line_pends :
    let s := { on.putSource 5 src5 with cfg := { lineCfg := [(5, {})] } }
    ((after (.lineHandoff 5) (after (.lineEdge 5 true) s)).source 5).st = .pending := by decide +kernel

/-- R106: the fall of the level withdraws the pending event of level origin. -/
theorem test_level_fall_withdraws :
    let s := { on.putSource 5 src5 with cfg := { lineCfg := [(5, {})] } }
    let t := after (.lineHandoff 5) (after (.lineEdge 5 true) s)
    let u := after (.lineHandoff 5) (after (.lineEdge 5 false) t)
    (u.source 5).st = .inactive ∧ (u.ledger 0).withdrawn = 1 ∧ (u.ledger 0).accepted = 1 := by decide +kernel

/-- R45: a write that finds its channel without a credit is not taken; one that finds a credit is, and uses it. -/
theorem test_message_credit :
    ((after (.messageWriteTransfer 2 (msg 0 1)) { on with inch := [(2, { switchCredits := 1 })] }).chan 2).buf = [msg 0 1] ∧
      ((after (.messageWriteTransfer 2 (msg 0 1)) { on with inch := [(2, { switchCredits := 1 })] }).chan 2).switchCredits = 0 := by
  decide +kernel

/-- R154, R155: the ranker presents the event of the lowest PRIO at a target that has none presented. -/
theorem test_rank_presents :
    let s := { (on.putSource 5 { src5 with st := .pending, place := .queued }).putSource 6
      { src5 with st := .pending, place := .queued, prio := 2 } with tgts := [(0, { svc := .online, queues := [(2, [6]), (3, [5])], bits := 12, counts := [(2, 1), (3, 1)] })] }
    ((after (.rankDecision 0 .none) s).tgt 0).pres = some 6 ∧ ((after (.rankDecision 0 .none) s).source 6).place = .presented := by
  decide +kernel

/-- R155: an event whose level does not beat the running level is not presented. -/
theorem test_rank_held_by_running_level :
    let s := { on.putSource 5 { src5 with st := .pending, place := .queued } with
      tgts := [(0, { svc := .online, runRpt := 3, runEff := 3, queues := [(3, [5])], bits := 8, counts := [(3, 1)] })] }
    ((after (.rankDecision 0 .none) s).tgt 0).pres = none := by decide +kernel

/-- R188, R192: a take makes the event active, counts it delivered, and lowers the running level to the level taken. -/
theorem test_nib_take :
    let t := after (.nibTake 0) shown
    (t.source 5).st = .active ∧ (t.source 5).taker = 0 ∧ (t.tgt 0).pres = none ∧ (t.tgt 0).runEff = 3 ∧
      (t.ledger 0).delivered = 1 := by decide +kernel

/-- R106, R108: the done of an active source ends its service. -/
theorem test_nib_done :
    let t := after (.doneApply 0) (after (.nibDone 0 5) (after (.nibTake 0) shown))
    (t.source 5).st = .inactive ∧ (t.tgt 0).port.dones = [] := by decide +kernel

theorem test_running_level_reported :
    ((after (.nibRunlvlChange 0 17) on).tgt 0).runRpt = 17 ∧ ((after (.nibRunlvlChange 0 65) on).tgt 0).port.runBad = true := by
  decide +kernel

/-- R34, R490: the loss of a link's clock makes its 32 targets FAULTED with cause 1, and no other. -/
theorem test_link_clock_absent :
    let t := after (.clockAbsent (.link 1)) { on with strap := { nibGen := 2 }, links := [(1, { up := true, open_ := true, everUp := true })] }
    (t.tgt 32).svc = .faulted ∧ (t.tgt 63).svc = .faulted ∧ (t.tgt 32).fcause = 1 ∧ (t.tgt 64).svc = .offline ∧
      (t.tgt 31).svc = .offline := by decide +kernel

/-- R60: a channel holds at most 32 credits. -/
theorem test_far_credit_stops_at_32 :
    ((after (.farCredit 3) { on with farch := [(3, { credits := 32 })] }).farChan 3).credits = 32 ∧
      ((after (.farCredit 3) { on with farch := [(3, { credits := 31 })] }).farChan 3).credits = 32 := by decide +kernel

/-- R239, R241: the window of a group ends TIMER after its start and releases a batch of the members held. -/
theorem test_group_window :
    let s := { on.putSource 5 { src5 with st := .pending, held := { moderated := true }, group := 6, groupEn := true } with
      groups := [(6, { en := true, thresh := 2, timer := 100, open_ := true, count := 1, start := 46800, held := [5] })] }
    ((after (.ligWindowEnd 6) s).grp 6).open_ = false ∧ ((after (.ligWindowEnd 6) s).grp 6).batches.length = 1 := by
  decide +kernel

/-- R264: a refill adds RATE, no further than BURST. -/
theorem test_refill_stops_at_burst :
    let i : Inst := { created := true, en := true, rate := 10, burst := 100, tokens := 95, nextRefill := 50000 }
    ((after (.rateRefill 4) { on with insts := [(4, i)] }).ctx 4).tokens = 100 := by decide +kernel

theorem test_seal_expires_only_when_timed :
    (after .unsealWindowExpiry { on with cfg := { timed := true, unsealLimit := 1, unsealStart := 49500 } }).cfg.expired = true ∧
      (after .unsealWindowExpiry { on with cfg := { unsealLimit := 1, unsealStart := 49500 } }).cfg.expired = false := by decide +kernel

/-- R61: the oldest record leaves the fault port first. -/
theorem test_fault_record_leaves_oldest_first :
    (after .faultRecordTransfer { on with flt := { queue := [{ cls := 5, sev := 1, info := 7 }, { cls := 6, sev := 0, info := 8 }] } }).flt.queue
      = [{ cls := 6, sev := 0, info := 8 }] := by decide +kernel

/-- R475: a write of the record goes to one copy and the other stands meanwhile. -/
theorem test_record_write_takes_one_copy :
    let t := after .recordWriteComplete (after (.recordWriteStart true) { on with rcd := { flushWait := [3] } })
    (t.rcd.copyA = .blank) ≠ (t.rcd.copyB = .blank) ∧ t.rcd.writing = none := by decide +kernel

/-! #### Register accesses -/

theorem test_register_read_answers_the_id_page :
    (after (.registerRead (req 0x4000 true 0)) on).bus.split.isSome = true := by decide +kernel

/-- R353: bits [63:32] of the data say which bits a masked write changes. -/
theorem test_masked_write_leaves_unmasked_bits :
    (after (.maskedWrite (req 0x804090 true 0x0000FF0012345678)) (granted 4 on)).pwr.alarm = 0x5600 := by decide +kernel

theorem test_write_without_permission_changes_nothing :
    (after (.registerWrite (req 0x4090 false 3)) on).pwr.alarm = 0 ∧
      (after (.registerWrite (req 0x4090 false 3)) on).acc.violValid = true := by decide +kernel

theorem test_mode_request_quiesces : (after (.glbModeReqWrite (req 0x4 false 0x70)) on).mode.mode = .quiesce := by decide +kernel

theorem test_tbcount_read_pairs : (after (.tbCountLoRead (req 0x7000 true 0)) on).bus.hot.isSome = true ∨
    (after (.tbCountLoRead (req 0x7000 true 0)) on).bus.split.isSome = true := by decide +kernel

/-- R205: a register take with the sequence number on show takes the event; one with another does not. -/
theorem test_register_take_checks_the_sequence :
    let s := granted 0x800 (shown.onTgt 0 fun c => { c with path := true })
    ((after .hotWriteApply (after (.tgtTakeWrite (req 0x100000 false 0x04000000)) s)).source 5).st = .active ∧
      ((after .hotWriteApply (after (.tgtTakeWrite (req 0x100000 false 0x05000000)) s)).source 5).st = .pending := by decide +kernel

/-- R86: a doorbell raises the software event it names. -/
theorem test_doorbell :
    let s := granted 0xE00 (on.putSource 0xA05 src5)
    ((after .hotWriteApply (after (.instDoorbellWrite (req 0x1000040 false 5)) s)).source 0xA05).st = .pending := by decide +kernel

/-! #### Commands -/

/-- R311, R321: ECHO answers OK with the tag, one result word for each parameter word, and the opcode. -/
theorem test_echo : replies (ran .echo (packet 0x01 0 0 [11, 12]) on) = [0x0001000100020007, 11, 12] := by decide +kernel

theorem test_echo_of_a_reserved_flag_is_bad_param :
    (replies (ran .echo (packet 0x01 0 2 [11, 12]) on)).map status = [0x12] := by decide +kernel

theorem test_source_enable :
    ((ran .srcEnable (packet 0x12 0 0 [5 + 2 ^ 20]) (on.putSource 5 { src5 with en := false })).source 5).en = true := by decide +kernel

/-- R325: the disable of a source with no event withdraws nothing and is done at once. -/
theorem test_source_disable :
    let t := ran .srcDisable (packet 0x13 0 0 [5 + 2 ^ 20]) (on.putSource 5 src5)
    (t.source 5).en = false ∧ ((replies t).head?.map status) = some 0 := by decide +kernel

/-- R326: an injected event is accepted as a pulse. -/
theorem test_source_inject :
    let t := ran .srcInject (packet 0x14 0 0 [0xA05]) (on.putSource 0xA05 src5)
    (t.source 0xA05).st = .pending ∧ (t.ledger 0).accepted = 1 ∧ (t.ledger 0).outstanding = 1 := by decide +kernel

theorem test_group_settings :
    let t := ran .ligConfig (packet 0x20 0 5 [6, 2 + 100 * 2 ^ 13]) on
    (t.grp 6).thresh = 2 ∧ (t.grp 6).timer = 100 := by decide +kernel

theorem test_instance_create :
    let t := ran .instCreate (packet 0x30 4 0 [100 + 20 * 2 ^ 14, 10 + 100 * 2 ^ 16 + 128 * 2 ^ 32, 1 + 5 * 2 ^ 8]) on
    (t.ctx 4).created = true ∧ (t.ctx 4).en = false ∧ (t.ctx 4).pageBase = 100 ∧ (t.ctx 4).pageCount = 20 := by decide +kernel

/-- R256: REFILL below 128 is clamped to 128 and the reply is OK_CLAMPED. -/
theorem test_share_clamp :
    let s := { on with insts := [(4, { created := true, nextRefill := 60000 })] }
    let t := ran .instShare (packet 0x31 4 7 [10 + 100 * 2 ^ 16 + 127 * 2 ^ 32, 0]) s
    (replies t).map status = [1] ∧ (t.ctx 4).newRefill = 128 := by decide +kernel

/-- R281: an instance that does not exist cannot be frozen. -/
theorem test_freeze_of_no_instance_is_not_done :
    ((ran .huskFreeze (packet 0x38 4 0 []) on).ctx 4).phase = .thawed ∧
      (replies (ran .huskFreeze (packet 0x38 4 0 []) on)).map status ≠ [0] := by decide +kernel

theorem test_freeze_defers :
    (replies (ran .huskFreeze (packet 0x38 4 0 []) { on with insts := [(4, { created := true })] })).map status = [2] := by decide +kernel

theorem test_rung_beyond_three_is_refused : ((ran .rungSet (packet 0x50 0 0 [4]) on).pwr.sw) = 4 ∨
    (replies (ran .rungSet (packet 0x50 0 0 [4]) on)).map status ≠ [0] := by decide +kernel

theorem test_ledger_audit_defers : (replies (ran .ledgerAudit (packet 0x58 0 1 []) on)).map status = [2] := by decide +kernel

theorem test_domain_reset_starts : (ran .domainReset (packet 0x60 0 0 [8]) on).rst.dom.domain = 8 := by decide +kernel

/-- R308: a write to a full command FIFO is lost and sets OVERFLOW. -/
theorem test_command_fifo_overflow :
    ((after (.cqCmdFifoWrite (req 0x1000 true 9)) (on.onQueue 0 fun c => { c with fifo := List.replicate 512 0 })).queue 0).ovf = true := by
  decide +kernel

/-- R304: reply words leave in the order they came. -/
theorem test_reply_fifo_pops :
    replies (after (.cqRplFifoRead (req 0x1008 true 0)) (on.onQueue 0 fun c => { c with rpl := [7, 8] })) = [8] := by decide +kernel

/-- A command at the front of the queue runs and leaves the rest. -/
theorem test_step_takes_the_front :
    (match step { on with cmd := {}, pending := [.firmwareReady, .auditStart] } with
      | .next t => t.cmd.fwReady && decide (t.pending = [.auditStart])
      | _ => false) = true := by decide +kernel

/-- An empty queue lets one tick pass. -/
theorem test_empty_queue_is_a_tick :
    (match step on with | .next t => decide (t.now = 60001) && decide (t.tb.count = 50001) | _ => false) = true := by decide +kernel


/-- R287: a warm reset ends a save. -/
theorem test_reset_ends_a_save :
    let s := ran .huskSave (packet 0x39 4 0 [2]) { on with insts := [(4, { created := true, frozen := true, phase := .frozen })] }
    let t := after (.warmResetAssert .warmPin) s
    (s.ctx 4).saving = true ∧ (t.ctx 4).saving = false ∧ t.cmd.cdw.owner = none ∧ t.cmd.deferred = [] := by decide +kernel

/-! ### For every claim with hypotheses, values that meet them -/

theorem witness_LedgersStayConserved :
    (∃ (c : Instr) (s t : State), (∀ b w, c ≠ .scrubTick b (.scrub .double) ∧ c ≠ .scrubTick b (.access w .double)) ∧
      s.conserved ∧ exec c s = .next t) ∧
    (∃ s t : State, s.pending = [] ∧ s.conserved ∧ step s = .next t) :=
  ⟨⟨.nibTake 0, on, after (.nibTake 0) on, (fun _ _ => ⟨(fun h => nomatch h), (fun h => nomatch h)⟩), by decide +kernel, rfl⟩,
   ⟨on, passTick on, rfl, by decide +kernel, rfl⟩⟩

/-- The fault port with its queue full. -/
def portFull : State := { on with flt := { queue := List.replicate 16 { cls := 5, sev := 1, info := 7 } } }

theorem witness_FifosStayBounded : ∃ s t : State, s.fifosFit ∧ step s = .next t :=
  ⟨portFull, passTick portFull, ⟨Nat.le_refl 16, fun _ => Nat.zero_le 512⟩, rfl⟩

theorem witness_SourceTableStaysCanonical : ∃ s t : State, s.sourcesTidy ∧ step s = .next t :=
  ⟨shown, passTick shown, by decide +kernel, rfl⟩

theorem witness_SampledStrapsChangeOnlyAtColdReset :
    ∃ (c : Instr) (s t : State), (∀ src, c ≠ .coldResetAssert src) ∧ (∀ src p, c ≠ .coldResetRelease src p) ∧
      exec c s = .next t :=
  ⟨.firmwareReady, on, after .firmwareReady on, (fun _ h => nomatch h), (by intro b p h; cases h), rfl⟩

theorem witness_StepRunsTheFrontCommand : ∃ s : State, s.pending = [] := ⟨on, rfl⟩

theorem witness_EveryCommandCompletes :
    (∃ (c : Instr), c.wf = true) ∧
    (∃ (c : Instr), c.wf = false) :=
  ⟨⟨.firmwareReady, by decide +kernel⟩,
   ⟨.witnessWindowEnd 0 200, by decide +kernel⟩⟩

theorem witness_MergeKeepsStampAndPlace :
    ∃ (s : State) (e : Nat), ((s.source e).enabled && (s.ctx (s.source e).inst).serving) = true ∧
      (s.source e).pend = true :=
  ⟨on.putSource 5 { src5 with st := .pending, place := .queued, originLevel := true }, 5, by decide +kernel⟩

theorem witness_ColdResetAssertAndRelease :
    (∃ (src : ColdSrc) (s : State), s.rst.cold = [] ∧ (¬ (src = .pokCore ∧ s.pokExempt = true))) ∧
    (∃ (src : ColdSrc) (s : State), s.rst.cold ≠ [] ∧ src ∉ s.rst.cold ∧ (¬ (src = .pokCore ∧ s.pokExempt = true))) ∧
    (∃ (s : State), s.pokExempt = true) ∧
    (∃ (src : ColdSrc) (s : State), src ∈ s.rst.cold ∧ (¬ (src = .pokCore ∧ s.pokExempt = true))) ∧
    (∃ (src : ColdSrc) (s : State), s.rst.cold = [src] ∧ s.mode.mode = .cold) ∧
    (∃ (src : ColdSrc) (s : State), src ∈ s.rst.cold ∧ s.rst.cold.filter (· != src) ≠ []) ∧
    (∃ (src : ColdSrc) (s : State), src ∉ s.rst.cold) :=
  ⟨⟨.coldPin, on, by decide +kernel⟩,
   ⟨.testEn, State.reset, by decide +kernel⟩,
   ⟨{ on with mode := { mode := .park }, pwr := { coreEn := false, rung := 4 } }, by decide +kernel⟩,
   ⟨.pokAon, State.reset, by decide +kernel⟩,
   ⟨.pokAon, State.reset, by decide +kernel⟩,
   ⟨.testEn, { State.reset with rst := { cold := [.pokAon, .testEn] } }, by decide +kernel⟩,
   ⟨.coldPin, on, by decide +kernel⟩⟩

theorem witness_WarmResetAssertHoldAndRelease :
    (∃ (src : WarmSrc) (s : State), s.rst.cold = [] ∧ src ∉ s.rst.warm ∧ s.mode.mode ≠ .warm ∧
      (src = .esc → s.pins.esc = 3)) ∧
    (∃ (src : WarmSrc) (s : State), s.rst.cold = [] ∧ src ∉ s.rst.warm ∧ s.mode.mode = .warm ∧
      (src = .esc → s.pins.esc = 3)) ∧
    (∃ (src : WarmSrc) (s : State), s.rst.cold ≠ [] ∧ src ∉ s.rst.warm ∧ (src = .esc → s.pins.esc = 3)) ∧
    (∃ (src : WarmSrc) (s : State), src ∈ s.rst.warm ∧ (s.mode.mode = .warm ∨ s.rst.cold ≠ [])) ∧
    (∃ (s : State), s.pins.esc ≠ 3) ∧
    (∃ (src : WarmSrc) (s : State), s.rst.cold = [] ∧ s.rst.warm.filter (· != src) = [] ∧ src ∈ s.rst.warm ∧
      (src = .esc → s.pins.esc ≠ 3) ∧ s.mode.mode = .warm) ∧
    (∃ (src : WarmSrc) (s : State), s.rst.warm.filter (· != src) ≠ [] ∧ src ∈ s.rst.warm ∧
      (src = .esc → s.pins.esc ≠ 3)) ∧
    (∃ (src : WarmSrc) (s : State), src ∉ s.rst.warm) ∧
    (∃ (s : State), s.takingHold = true ∧ s.rst.drainStart = none) ∧
    (∃ (s : State), s.takingHold = true ∧ s.isHeld 3 = true ∧ s.isHeld 5 = true ∧ s.isHeld 6 = true) ∧
    (∃ (s : State), s.takingHold = true ∧ s.isHeld 3 = false ∧ s.bus.hotq = [] ∧ s.rst.drainStart = none) ∧
    (∃ (s : State), s.takingHold = false) :=
  ⟨⟨.warmPin, shown, by decide +kernel⟩,
   ⟨.warmPin, { on with mode := { mode := .warm }, rst := { on.rst with warm := [.esc] } }, by decide +kernel⟩,
   ⟨.warmPin, State.reset, by decide +kernel⟩,
   ⟨.watchdog, { on with mode := { mode := .warm }, rst := { on.rst with warm := [.watchdog, .warmPin] } },
     by decide +kernel⟩,
   ⟨{ on with mode := { mode := .warm }, rst := { on.rst with warm := [.watchdog], held := [3, 4, 5, 6, 7, 8] } },
     by decide +kernel⟩,
   ⟨.watchdog, { on with mode := { mode := .warm }, rst := { on.rst with warm := [.watchdog] } }, by decide +kernel⟩,
   ⟨.watchdog, { on with mode := { mode := .warm }, rst := { on.rst with warm := [.watchdog, .warmPin] } },
     by decide +kernel⟩,
   ⟨.warmPin, shown, by decide +kernel⟩,
   ⟨{ run (packet 0x02 0 0 []) on with mode := { mode := .warm }, rst := { on.rst with warm := [.watchdog], held := [4, 7, 8] } },
     by decide +kernel⟩,
   ⟨{ on with mode := { mode := .warm }, rst := { on.rst with warm := [.watchdog], held := [3, 4, 5, 6, 7, 8] } },
     by decide +kernel⟩,
   ⟨{ run (packet 0x02 0 0 []) on with mode := { mode := .warm }, rst := { on.rst with warm := [.watchdog], held := [4, 7, 8] } },
     by decide +kernel⟩,
   ⟨on, by decide +kernel⟩⟩

theorem witness_IntakeDrain :
    (∃ (s : State), s.rst.drainStart.isSome = true ∧ s.buffersEmpty = true) ∧
    (∃ (s : State), (s.rst.drainStart = none ∨ s.buffersEmpty = false)) ∧
    (∃ (s : State) (n : Nat), s.rst.drainStart = some n ∧ n + 1000 ≤ s.now) ∧
    (∃ (s : State), (∀ n, s.rst.drainStart = some n → s.now < n + 1000)) :=
  ⟨⟨{ on with rst := { on.rst with drainStart := some 59000 } }, by decide +kernel⟩,
   ⟨{ on with mode := { mode := .quiesce } }, by decide +kernel⟩,
   ⟨{ on with rst := { on.rst with drainStart := some 59000 }, inch := [(2, { buf := [msg 0 1] })] }, 59000,
     by decide +kernel⟩,
   ⟨{ on with mode := { mode := .warm }, rst := { on.rst with warm := [.watchdog], held := [4, 7, 8] } },
     by decide +kernel⟩⟩

theorem witness_EscalationAndPins :
    (∃ (s : State), s.rst.cold = [] ∧ s.pins.esc = 0) ∧
    (∃ (s : State), s.rst.cold = [] ∧ s.pins.esc < 2 ∧
      s.mode.mode ∈ [Mode.start, Mode.service, Mode.test, Mode.quiesce]) ∧
    (∃ (s : State), s.rst.cold = [] ∧ s.rst.warm = [] ∧ s.mode.mode ≠ .warm ∧ s.pins.esc < 3) ∧
    (∃ (v : Fin 4) (s : State), s.rst.cold = [] ∧ s.rst.warm = [.esc] ∧ s.pins.esc = 3 ∧ v.val < 2 ∧
      s.mode.mode = .warm) ∧
    (∃ (v : Fin 4) (s : State), s.rst.cold ≠ [] ∧ s.mode.mode = .cold ∧ s.pins.esc ≠ v.val ∧ v.val ≠ 3 ∧ s.pins.esc ≠ 3) ∧
    (∃ (v : Fin 4) (s : State), s.pins.esc = v.val) ∧
    (∃ (v : Fin 8) (s : State), v.val < 6 ∧ s.pwr.pin ≠ v.val) ∧
    (∃ (v : Fin 8) (s : State), 6 ≤ v.val ∧ s.pwr.pin ≠ v.val ∧ s.rst.cold = []) ∧
    (∃ (p : StrapPins) (s : State), s.rst.cold = [] ∧ s.strap.tbClamped = false ∧ s.strap.bootClamped = false ∧
      p.tb.val = s.strap.tb ∧ p.boot.val = s.strap.boot ∧ p.blockNum.val = s.strap.blockNum ∧ p.nibGen = s.strap.nibGen) ∧
    (∃ (p : StrapPins) (s : State), s.rst.cold = [] ∧ p.nibGen ≠ s.pins.straps.nibGen ∧ p.nibGen ≠ s.strap.nibGen) :=
  ⟨⟨on, by decide +kernel⟩,
   ⟨{ on with mode := { mode := .quiesce } }, by decide +kernel⟩,
   ⟨on, by decide +kernel⟩,
   ⟨1, { on with pins := { on.pins with esc := 3 }, mode := { mode := .warm }, rst := { on.rst with warm := [.esc] } },
     by decide +kernel⟩,
   ⟨2, State.reset, by decide +kernel⟩,
   ⟨0, on, by decide +kernel⟩,
   ⟨5, on, by decide +kernel⟩,
   ⟨6, on, by decide +kernel⟩,
   ⟨⟨0, 0, 0, 0⟩, { on with pins := { on.pins with straps := ⟨1, 0, 0, 0⟩ } }, by decide +kernel⟩,
   ⟨⟨0, 0, 0, 1⟩, on, by decide +kernel⟩⟩

theorem witness_DomainReleasesAndResets :
    (∃ (s : State) (n : Nat), s.rst.running = true ∧ s.rst.next = n ∧ 1 ≤ n ∧ n ≤ 8 ∧ s.mayRelease n = true ∧
      s.gapPassed = true) ∧
    (∃ (s : State), s.rst.running = true ∧ s.rst.next = 8 ∧ s.mayRelease 8 = true ∧ s.gapPassed = true ∧
      s.rst.coldReach = true ∧ s.mode.mode = .ductus ∧ s.mode.heldUncont = false ∧ s.mode.heldEsc = false ∧
      s.mode.heldCwr = false ∧ s.pins.esc ≠ 2 ∧ s.pwr.apply < 4) ∧
    (∃ (s : State), (s.gapPassed = false ∨ s.mayRelease s.rst.next = false ∨ s.rst.running = false)) ∧
    (∃ (s : State), s.rst.dom.phase = 1 ∧ s.domainIdle = true) ∧
    (∃ (s : State), (s.rst.dom.phase ≠ 1 ∨ s.domainIdle = false)) ∧
    (∃ (s : State), s.rst.dom.phase = 1 ∧ s.rst.dom.domain ≠ 1 ∧
      s.elapsed s.rst.dom.start (500 * s.cfg.quiesceLimit) = true) ∧
    (∃ (s : State), (s.rst.dom.phase ≠ 1 ∨ s.rst.dom.domain = 1)) ∧
    (∃ (s : State), s.rst.dom.phase = 2 ∧ s.elapsed s.rst.dom.start s.cfg.gap = true ∧ s.rst.cold = [] ∧
      s.rst.warm = [] ∧ (s.rst.dom.domain ≠ 1 ∨ s.waitsPulse = false)) ∧
    (∃ (s : State), (s.rst.dom.phase ≠ 2 ∨ s.elapsed s.rst.dom.start s.cfg.gap = false)) ∧
    (∃ (s : State), s.rcd.cutPulse = true) ∧
    (∃ (s : State), s.rcd.cutPulse = false) :=
  ⟨⟨{ on with mode := { mode := .ductus }, rst := { on.rst with running := true, next := 3, held := [3, 4, 5, 6, 7, 8] } }, 3,
    by decide +kernel⟩,
   ⟨{ on with mode := { mode := .ductus }, rst := { on.rst with running := true, next := 8, held := [8], coldReach := true } },
     by decide +kernel⟩,
   ⟨{ on with rcd := { cutPulse := true, writing := some (false, on.snapshot 1) } }, by decide +kernel⟩,
   ⟨{ on with rst := { on.rst with dom := { domain := 4, phase := 1, start := { now := 59999, tick := 49999 } } } },
     by decide +kernel⟩,
   ⟨{ on with rcd := { cutPulse := true, writing := some (false, on.snapshot 1) } }, by decide +kernel⟩,
   ⟨{ on with rst := { on.rst with dom := { domain := 7, phase := 1, start := { now := 10, tick := 10 } } }, cfg := { on.cfg with quiesceLimit := 1 } },
     by decide +kernel⟩,
   ⟨{ on with rcd := { cutPulse := true, writing := some (false, on.snapshot 1) } }, by decide +kernel⟩,
   ⟨{ on with rst := { on.rst with held := [4], dom := { domain := 4, phase := 2, start := { now := 10, tick := 10 } } } },
     by decide +kernel⟩,
   ⟨{ on with rcd := { cutPulse := true, writing := some (false, on.snapshot 1) } }, by decide +kernel⟩,
   ⟨{ on with rcd := { cutPulse := true, writing := some (false, on.snapshot 1) } }, by decide +kernel⟩,
   ⟨on, by decide +kernel⟩⟩

theorem witness_InitAndFirmware :
    (∃ (s : State), s.rst.waitInit = true) ∧
    (∃ (s : State), s.rst.waitInit = false) ∧
    (∃ (s : State), s.isHeld 3 = false ∧ s.cmd.fwReady = false) ∧
    (∃ (s : State), (s.isHeld 3 = true ∨ s.cmd.fwReady = true)) :=
  ⟨⟨{ shown with rst := { on.rst with waitInit := true } }, by decide +kernel⟩,
   ⟨{ on with cmd := {} }, by decide +kernel⟩,
   ⟨{ on with cmd := {} }, by decide +kernel⟩,
   ⟨{ shown with rst := { on.rst with waitInit := true } }, by decide +kernel⟩⟩

theorem witness_TimebaseAndClocks :
    (∃ (d : Int) (s : State), s.timed = true ∧ s.tb.calibrated = true ∧ s.sourcePresent = true ∧ s.asleepNow = false ∧
      s.tb.source ≠ 2 ∧ -20000 ≤ d ∧ d ≤ 20000) ∧
    (∃ (d : Int) (s : State), s.timed = true ∧ s.tb.calibrated = true ∧ s.sourcePresent = true ∧ s.asleepNow = false ∧
      s.tb.source ≠ 2 ∧ (d < -20000 ∨ 20000 < d)) ∧
    (∃ (s : State), s.timed = true ∧ s.tb.calibrated = true ∧ s.asleepNow = false ∧ s.tb.source = 2) ∧
    (∃ (s : State), s.timed = true ∧ s.tb.calibrated = false ∧ s.tb.source ≠ 2) ∧
    (∃ (s : State), s.timed = true ∧ s.tb.calibrated = false ∧ s.tb.source = 2) ∧
    (∃ (s : State), s.timed = true ∧ s.tb.good = false ∧ s.asleepNow = false ∧ s.tb.source ≠ 2 ∧
      s.tb.lostAt + 2 ^ 14 ≤ s.now) ∧
    (∃ (v : DWord) (s : State), s.timed = true ∧ s.tb.source = 1 ∧ s.tb.good = true ∧ s.tb.count ≤ v.toNat) ∧
    (∃ (v : DWord) (s : State), s.timed = true ∧ s.tb.source = 1 ∧ s.tb.good = true ∧ v.toNat < s.tb.count) ∧
    (∃ (s : State), s.timed = false) ∧
    (∃ (s : State), s.pins.fabOk = false) ∧
    (∃ (s : State), s.pins.mbOk = false) ∧
    (∃ (n : Fin 1024) (s : State), tget (fun _ => false) s.pins.nibOk n.val = false) ∧
    (∃ (s : State), s.pins.tbRefOk = false) ∧
    (∃ (s : State), s.pins.ptsGood = false) ∧
    (∃ (s : State), s.pins.fabOk = true) ∧
    (∃ (s : State), s.pins.mbOk = true) ∧
    (∃ (s : State), s.pins.tbRefOk = true) ∧
    (∃ (s : State), s.pins.ptsGood = true) ∧
    (∃ (b : Boundary) (s : State), s.released b = true ∧ b ∉ s.pins.absent ∧ s.absentDue b = true) ∧
    (∃ (b : Boundary) (s : State), (s.released b = false ∨ b ∈ s.pins.absent ∨ s.absentDue b = false)) :=
  ⟨⟨-20000, { on with tb := { calibrated := true, source := 0 } }, by decide +kernel⟩,
   ⟨40000, { on with tb := { calibrated := true, source := 0 } }, by decide +kernel⟩,
   ⟨{ on with tb := { calibrated := true, source := 2 } }, by decide +kernel⟩,
   ⟨on, by decide +kernel⟩,
   ⟨{ on with tb := { source := 2 } }, by decide +kernel⟩,
   ⟨{ on with tb := { calibrated := true, lostAt := 20000 } }, by decide +kernel⟩,
   ⟨50000, { on with tb := { on.tb with source := 1 } }, by decide +kernel⟩,
   ⟨49999, { on with tb := { on.tb with source := 1 } }, by decide +kernel⟩,
   ⟨State.reset, by decide +kernel⟩,
   ⟨{ on with pins := { on.pins with fabOk := false } }, by decide +kernel⟩,
   ⟨{ on with pins := { on.pins with mbOk := false } }, by decide +kernel⟩,
   ⟨5, on, by decide +kernel⟩,
   ⟨{ on with pins := { on.pins with tbRefOk := false } }, by decide +kernel⟩,
   ⟨{ on with bus := { outstanding := [(3, ⟨0, 4⟩)] } }, by decide +kernel⟩,
   ⟨{ on with bus := { outstanding := [(3, ⟨0, 4⟩)] } }, by decide +kernel⟩,
   ⟨{ on with bus := { outstanding := [(3, ⟨0, 4⟩)] } }, by decide +kernel⟩,
   ⟨{ on with bus := { outstanding := [(3, ⟨0, 4⟩)] } }, by decide +kernel⟩,
   ⟨{ on with pins := { on.pins with ptsGood := true }, tb := { on.tb with source := 1 } }, by decide +kernel⟩,
   ⟨.nib 1, on, by decide +kernel⟩,
   ⟨.fab, State.reset, by decide +kernel⟩⟩

theorem witness_LineEdgesAndHandoff :
    (∃ (k : Fin 2048) (high : Bool) (s : State), (s.line k.val).input ≠ high ∧ s.rst.cold = [] ∧
      (s.line k.val).latch = false ∧ (s.onLine k.val fun l => { l with input := high }).qualifies k.val = true) ∧
    (∃ (k : Fin 2048) (high : Bool) (s : State), (s.line k.val).input ≠ high ∧ s.rst.cold = [] ∧
      (s.onLine k.val fun l => { l with input := high }).qualifies k.val = false) ∧
    (∃ (k : Fin 2048) (high : Bool) (s : State), (s.line k.val).input ≠ high ∧ s.rst.cold = [] ∧
      (s.line k.val).latch = true ∧ s.lineLevelOnly k.val = false ∧
      (s.onLine k.val fun l => { l with input := high }).qualifies k.val = true) ∧
    (∃ (k : Fin 2048) (high : Bool) (s : State), (s.line k.val).input = high) ∧
    (∃ (k : Fin 2048) (s : State), s.intakeOn = true ∧ (s.line k.val).latch = true ∧ s.bankFull k.val = false ∧
      s.lineTurn k.val = true ∧ s.lineLevelOnly k.val = false ∧ (s.source k.val).st = .inactive ∧
      (s.source k.val).place = .unplaced ∧ (s.source k.val).enabled = true ∧
      (s.ctx (s.source k.val).inst).serving = true) ∧
    (∃ (k : Fin 2048) (s : State), s.intakeOn = true ∧ (s.line k.val).latch = true ∧ s.bankFull k.val = false ∧
      s.lineTurn k.val = true ∧ s.lineLevelOnly k.val = true ∧ (s.source k.val).st = .inactive ∧
      (s.source k.val).place = .unplaced ∧ s.lineActive k.val ≠ s.seenLevel k.val) ∧
    (∃ (k : Fin 2048) (s : State), (s.intakeOn = false ∨ (s.line k.val).latch = false ∨ s.bankFull k.val = true ∨ s.lineTurn k.val = false)) :=
  ⟨⟨5, true, { on with cfg := { lineCfg := [(5, { sense := 1 })] } }, by decide +kernel⟩,
   ⟨5, false, { on with cfg := { lineCfg := [(5, { sense := 1 })] }, lines := [(5, { input := true })] },
     by decide +kernel⟩,
   ⟨5, true, { on with cfg := { lineCfg := [(5, { sense := 2 })] }, lines := [(5, { latch := true })] },
     by decide +kernel⟩,
   ⟨5, false, on, by decide +kernel⟩,
   ⟨5, { (on.putSource 5 src5) with cfg := { lineCfg := [(5, { sense := 1 })] }, lines := [(5, { input := true, latch := true })] },
     by decide +kernel⟩,
   ⟨5, { (on.putSource 5 src5) with lines := [(5, { input := true, latch := true })] }, by decide +kernel⟩,
   ⟨5, on, by decide +kernel⟩⟩

theorem witness_WakeLinesAndSwitchItems :
    (∃ (s : State), s.rst.cold = []) ∧
    (∃ (s : State), s.rst.cold ≠ []) ∧
    (∃ (id : Fin 512) (s : State), s.channelOpen = true ∧ s.isHeld 2 = false ∧ s.mode.mode ≠ .park ∧ s.pwr.rung = 0 ∧
      s.bankFull (0x800 + id.val) = false ∧ (s.source (0x800 + id.val)).st = .inactive ∧
      (s.source (0x800 + id.val)).place = .unplaced ∧ (s.source (0x800 + id.val)).enabled = true ∧
      (s.ctx (s.source (0x800 + id.val)).inst).serving = true) ∧
    (∃ (id : Fin 512) (s : State), s.channelOpen = true ∧ s.isHeld 2 = false ∧ s.mode.mode ≠ .park ∧ s.pwr.rung = 0 ∧
      s.bankFull (0x800 + id.val) = false ∧ (s.source (0x800 + id.val)).st = .inactive ∧
      (s.source (0x800 + id.val)).place = .unplaced ∧ (s.source (0x800 + id.val)).level = false) ∧
    (∃ (id : Fin 512) (s : State), s.channelOpen = true ∧ s.isHeld 2 = false ∧ s.mode.mode ≠ .park ∧ s.pwr.rung = 0 ∧
      s.bankFull (0x800 + id.val) = false ∧ (s.source (0x800 + id.val)).st = .inactive ∧
      (s.source (0x800 + id.val)).place = .unplaced ∧ (s.source (0x800 + id.val)).level = true) ∧
    (∃ (id : Fin 512) (s : State) (kind : Fin 4), s.channelOpen = true ∧ s.isHeld 2 = false ∧ s.mode.mode ≠ .park ∧
      s.pwr.rung = 0 ∧ s.bankFull (0x800 + id.val) = false ∧ (s.source (0x800 + id.val)).st = .inactive ∧
      (s.source (0x800 + id.val)).place = .unplaced ∧ (kind = 1 ∧ (s.source (0x800 + id.val)).level = true ∨ kind = 2 ∧
      (s.source (0x800 + id.val)).level = false)) ∧
    (∃ (s : State), s.channelOpen = true ∧ s.isHeld 2 = false ∧ s.mode.mode ≠ .park ∧ s.pwr.rung = 0) ∧
    (∃ (s : State), (s.channelOpen = false ∨ s.isHeld 2 = true)) ∧
    (∃ (s : State), s.mode.mode = .park ∧ s.pwr.rung = 4 ∧ s.pins.fabOk = true) ∧
    (∃ (s : State), (s.mode.mode ≠ .park ∨ s.pwr.rung ≠ 4 ∨ s.pins.fabOk = false) ∧
      (s.pwr.parking = false ∨ s.pwr.parkRung ≠ 4 ∨ s.pins.fabOk = false)) ∧
    (∃ (s : State), s.mode.mode ≠ .park ∧ s.pwr.parking = true ∧ s.pwr.parkRung = 4 ∧ s.pins.fabOk = true ∧
      s.pwr.wakeDue = none) :=
  ⟨⟨on, by decide +kernel⟩,
   ⟨State.reset, by decide +kernel⟩,
   ⟨3, on.putSource 0x803 src5, by decide +kernel⟩,
   ⟨3, on, by decide +kernel⟩,
   ⟨3, on.putSource 0x803 { src5 with level := true }, by decide +kernel⟩,
   ⟨3, on.putSource 0x803 src5, 2, by decide +kernel⟩,
   ⟨on, by decide +kernel⟩,
   ⟨State.reset, by decide +kernel⟩,
   ⟨{ on with mode := { mode := .park }, pwr := { rung := 4 } }, by decide +kernel⟩,
   ⟨{ on with bus := { outstanding := [(3, ⟨0, 4⟩)] } }, by decide +kernel⟩,
   ⟨{ on with pwr := { on.pwr with parking := true, parkRung := 4 }, mode := { mode := .quiesce } }, by decide +kernel⟩⟩

theorem witness_MessageTransferAndJudge :
    (∃ (c : Fin 16) (m : MsgWrite) (s : State), m.wf = true ∧ s.channelOpen = true ∧ s.mode.mode ≠ .park ∧
      s.pwr.rung = 0 ∧ (s.chan c.val).switchCredits ≠ 0) ∧
    (∃ (c : Fin 16) (m : MsgWrite) (s : State), m.wf = true ∧ s.channelOpen = true ∧ s.mode.mode ≠ .park ∧
      s.pwr.rung = 0 ∧ (s.chan c.val).switchCredits = 0) ∧
    (∃ (m : MsgWrite) (s : State), m.wf = true ∧ s.channelOpen = false) ∧
    (∃ (c : Fin 16) (s : State) (m : MsgWrite) (rest : List MsgWrite), s.isHeld 6 = false ∧ s.isHeld 3 = false ∧
      s.engineOn = true ∧ (s.chan c.val).buf = m :: rest ∧ m.shaped = false) ∧
    (∃ (k : Fin 16) (c : Fin 16) (l : List (Fin 512)) (s : State) (m : MsgWrite) (rest : List MsgWrite) (e : Nat) (p : BitVec 32), s.isHeld 6 = false ∧ s.isHeld 3 = false ∧ s.engineOn = true ∧ s.picks k l m.inst ∧ (s.chan c.val).buf = m :: rest ∧ s.judgeWrite m ((s.pageOf m.inst m.page).map (0x1000 + ·)) = { out := [.pulse e p] } ∧ s.bankFull e = false ∧ (s.source e).st = .inactive ∧ (s.source e).place = .unplaced ∧ (s.source e).enabled = true ∧ (s.source e).inst = m.inst ∧ (s.ctx m.inst).serving = true) ∧
    (∃ (k : Fin 16) (c : Fin 16) (l : List (Fin 512)) (s : State) (m : MsgWrite) (rest : List MsgWrite) (e : Nat) (p : BitVec 32), (s.chan c.val).buf = m :: rest ∧ s.judgeWrite m ((s.pageOf m.inst m.page).map (0x1000 + ·)) = { out := [.pulse e p] } ∧ ¬ s.picks k l m.inst) ∧
    (∃ (k : Fin 16) (c : Fin 16) (l : List (Fin 512)) (s : State) (m : MsgWrite) (rest : List MsgWrite) (q : Nat) (f : Nat) (n : Nat) (e : Nat), s.isHeld 6 = false ∧ s.isHeld 3 = false ∧ s.engineOn = true ∧ s.picks k l m.inst ∧ (s.chan c.val).buf = m :: rest ∧ m.shaped = true ∧ m.poison = false ∧ s.pageOf m.inst m.page = some q ∧ (s.judge m.master.toNat m.priv true true m.offset (some (0x1000 + q)) false).ok = true ∧ (s.page q).valid = true ∧ (s.page q).function m = some f ∧ m.len.toNat = 2 ∧ (s.page q).relay = true ∧ m.inPage ≤ 0x3FF ∧ s.freeRelayCell = some n ∧ fld (m.dword 0) 16 8 = 0 ∧ fld (m.dword 0) 30 2 = 0 ∧ fld (m.dword 0) 0 16 < (s.page q).tstride ∧ (s.transEntry ((s.page q).tbase + f * (s.page q).tstride + fld (m.dword 0) 0 16)).valid = true ∧ e = 0x1000 + (s.transEntry ((s.page q).tbase + f * (s.page q).tstride + fld (m.dword 0) 0 16)).mid ∧ s.isStale e = false ∧ s.bankFull e = true) ∧
    (∃ (k : Fin 16) (c : Fin 16) (l : List (Fin 512)) (s : State) (m : MsgWrite) (rest : List MsgWrite) (q : Nat) (f : Nat) (n : Nat) (e : Nat), s.isHeld 6 = false ∧ s.isHeld 3 = false ∧ s.engineOn = true ∧ s.picks k l m.inst ∧ (s.chan c.val).buf = m :: rest ∧ m.shaped = true ∧ m.poison = false ∧ s.pageOf m.inst m.page = some q ∧ (s.judge m.master.toNat m.priv true true m.offset (some (0x1000 + q)) false).ok = true ∧ (s.page q).valid = true ∧ (s.page q).function m = some f ∧ m.len.toNat = 2 ∧ (s.page q).relay = true ∧ m.inPage ≤ 0x3FF ∧ s.freeRelayCell = some n ∧ fld (m.dword 0) 16 8 = 0 ∧ fld (m.dword 0) 30 2 = 0 ∧ fld (m.dword 0) 0 16 < (s.page q).tstride ∧ (s.transEntry ((s.page q).tbase + f * (s.page q).tstride + fld (m.dword 0) 0 16)).valid = true ∧ e = 0x1000 + (s.transEntry ((s.page q).tbase + f * (s.page q).tstride + fld (m.dword 0) 0 16)).mid ∧ s.isStale e = false ∧ s.bankFull e = false ∧ (s.source e).st = .inactive ∧ (s.source e).place = .unplaced ∧ (s.source e).enabled = true ∧ (s.source e).inst = m.inst ∧ (s.ctx m.inst).serving = true ∧ (∀ x ∈ s.relays, x.mid ≠ e - 0x1000)) ∧
    (∃ (k : Fin 16) (c : Fin 16) (l : List (Fin 512)) (s : State) (m : MsgWrite) (rest : List MsgWrite) (q : Nat) (f : Nat) (e : Nat), s.isHeld 6 = false ∧ s.isHeld 3 = false ∧ s.engineOn = true ∧ s.picks k l m.inst ∧ (s.chan c.val).buf = m :: rest ∧ m.shaped = true ∧ m.poison = false ∧ s.pageOf m.inst m.page = some q ∧ (s.judge m.master.toNat m.priv true true m.offset (some (0x1000 + q)) false).ok = true ∧ (s.page q).valid = true ∧ (s.page q).function m = some f ∧ m.len.toNat = 2 ∧ (s.page q).relay = false ∧ (s.page q).fmtExt = true ∧ 0x200 ≤ m.inPage ∧ m.inPage < 0x400 ∧ e = fld (m.dword 0) 0 20 ∧ fld (m.dword 0) 20 12 = 0 ∧ 0x1000 ≤ e ∧ e < 0x41000 ∧ s.bankFull e = false ∧ s.isStale e = false ∧ (s.source e).st = .inactive ∧ (s.source e).place = .unplaced ∧ (s.source e).enabled = true ∧ (s.source e).inst = m.inst ∧ (s.ctx m.inst).serving = true) ∧
    (∃ (k : Fin 16) (c : Fin 16) (l : List (Fin 512)) (s : State) (m : MsgWrite) (rest : List MsgWrite) (q : Nat) (f : Nat) (e : Nat), s.isHeld 6 = false ∧ s.isHeld 3 = false ∧ s.engineOn = true ∧ s.picks k l m.inst ∧ (s.chan c.val).buf = m :: rest ∧ m.shaped = true ∧ m.poison = false ∧ s.pageOf m.inst m.page = some q ∧ (s.judge m.master.toNat m.priv true true m.offset (some (0x1000 + q)) false).ok = true ∧ (s.page q).valid = true ∧ (s.page q).function m = some f ∧ m.len.toNat = 2 ∧ (s.page q).relay = false ∧ (s.page q).fmtExt = true ∧ 0x200 ≤ m.inPage ∧ m.inPage < 0x400 ∧ e = fld (m.dword 0) 0 20 ∧ fld (m.dword 0) 20 12 = 0 ∧ 0x1000 ≤ e ∧ e < 0x41000 ∧ s.bankFull e = false ∧ s.isStale e = false ∧ (s.source e).st = .inactive ∧ (s.source e).place = .unplaced ∧ (s.source e).enabled = true ∧ (s.source e).inst ≠ m.inst) ∧
    (∃ (k : Fin 16) (c : Fin 16) (l : List (Fin 512)) (s : State) (m : MsgWrite) (rest : List MsgWrite) (x : Verdict1) (r : Nat) (v : Nat), s.isHeld 6 = false ∧ s.isHeld 3 = false ∧ s.engineOn = true ∧ s.picks k l m.inst ∧ (s.chan c.val).buf = m :: rest ∧ s.judgeWrite m ((s.pageOf m.inst m.page).map (0x1000 + ·)) = { out := [x], relay := true, cell := true } ∧ x = .refuse r v) ∧
    (∃ (c : Fin 16) (s : State), (s.isHeld 6 = true ∨ s.isHeld 3 = true ∨ s.engineOn = false ∨ (s.chan c.val).buf = [])) :=
  ⟨⟨2, msg 0 1, { on with inch := [(2, { switchCredits := 64 })] }, by decide +kernel⟩,
   ⟨2, msg 0 1, on, by decide +kernel⟩,
   ⟨msg 0 1, State.reset, by decide +kernel⟩,
   ⟨2, { on with inch := [(2, { buf := [msg 0 0, msg 0 1], switchCredits := 10 })] }, msg 0 0, [msg 0 1],
     by decide +kernel⟩,
   ⟨3, 2, [], { on.putSource 0x1009 src5 with inch := [(2, { buf := [msg 16 1] })], trans := [(7, { mid := 9, valid := true })], pages := [(0, { fmtMsi := true, valid := true, fnM1 := 0, tstride := 32, reqBase := 1 })], acc := { slots := [(0x1000, 2 ^ 47 + 2 ^ 45)] } }, msg 16 1, [], 0x1009, 7,
     by decide +kernel⟩,
   ⟨3, 2, [4], { on.putSource 0x1009 src5 with inch := [(2, { buf := [msg 16 1] })], trans := [(7, { mid := 9, valid := true })], pages := [(0, { fmtMsi := true, valid := true, fnM1 := 0, tstride := 32, reqBase := 1 })], acc := { slots := [(0x1000, 2 ^ 47 + 2 ^ 45)] }, clusters := [(3, { visit := 4, deficit := [(4, 5)] })] }, msg 16 1, [], 0x1009, 7,
     by decide +kernel⟩,
   ⟨3, 2, [], { (on.putSource 0x1009 src5) with inch := [(2, { buf := [relayMsg] })], trans := [(7, { mid := 9, valid := true })], pages := [(0, { relay := true, valid := true, fnM1 := 0, tstride := 32, reqBase := 1 })], acc := { slots := [(0x1000, 2 ^ 47 + 2 ^ 45)] }, parked := (List.range 16).map fun _ => (73, .deassertion) }, relayMsg, [], 0, 0, 523264, 0x1009,
     by decide +kernel⟩,
   ⟨3, 2, [], { (on.putSource 0x1009 src5) with inch := [(2, { buf := [relayMsg] })], trans := [(7, { mid := 9, valid := true })], pages := [(0, { relay := true, valid := true, fnM1 := 0, tstride := 32, reqBase := 1 })], acc := { slots := [(0x1000, 2 ^ 47 + 2 ^ 45)] } }, relayMsg, [], 0, 0, 523264, 0x1009,
     by decide +kernel⟩,
   ⟨3, 2, [], { (on.putSource 0x1009 { src5 with inst := 0 }) with inch := [(2, { buf := [extMsg] })], pages := [(0, { fmtExt := true, valid := true, fnM1 := 0, tstride := 32, reqBase := 1 })], acc := { slots := [(0x1000, 2 ^ 47 + 2 ^ 45)] } }, extMsg, [], 0, 0, 0x1009,
     by decide +kernel⟩,
   ⟨3, 2, [], { (on.putSource 0x1009 { src5 with inst := 4 }) with inch := [(2, { buf := [extMsg] })], pages := [(0, { fmtExt := true, valid := true, fnM1 := 0, tstride := 32, reqBase := 1 })], acc := { slots := [(0x1000, 2 ^ 47 + 2 ^ 45)] }, insts := [(4, { created := true, en := true })] }, extMsg, [], 0, 0, 0x1009,
     by decide +kernel⟩,
   ⟨3, 2, [], { (on.putSource 0x1009 src5) with inch := [(2, { buf := [relayMsg] })], trans := [(7, { mid := 9, valid := true })], pages := [(0, { relay := true, valid := true, fnM1 := 0, tstride := 32, reqBase := 9 })], acc := { slots := [(0x1000, 2 ^ 47 + 2 ^ 45)] } }, relayMsg, [], .refuse 6 0, 6, 0,
     by decide +kernel⟩,
   ⟨0, on, by decide +kernel⟩⟩

theorem witness_EngineResults :
    (∃ (c : Fin 16) (l : List (Fin 512)) (e : Fin 266240) (s : State), s.worksOn e.val = true ∧ s.mode.mode ≠ .park ∧
      s.mode.mode ≠ .failsafe ∧ s.pwr.rung = 0 ∧
      (s.tb.good = false ∨ (s.source e.val).stamp < (s.ctx (s.source e.val).inst).nextRefill) ∧
      s.picks c l (s.source e.val).inst ∧ s.due e.val = true ∧ s.awaitsScan e.val = false ∧ s.isStale e.val = false ∧
      (s.source e.val).changes < 65536 ∧ (s.ctx (s.source e.val).inst).frozen = false ∧ s.isDormant e.val {} = false ∧
      s.isMember e.val = false ∧ (s.ctx (s.source e.val).inst).rate = 0 ∧
      (s.ctx (s.source e.val).inst).cellsPlaced < (s.ctx (s.source e.val).inst).quota ∧
      (s.ctx (s.source e.val).inst).quotaList = []) ∧
    (∃ (e : Fin 266240) (n : Fin 65536) (s : State), (s.source e.val).changes ≠ n.val) ∧
    (∃ (c : Fin 16) (l : List (Fin 512)) (g : Fin 65536) (k : Nat) (x : LigCount) (s : State), s.nextCount g.val = some (k, x) ∧ s.picks c l (s.grp g.val).inst ∧ s.worksOn x.eid = true ∧ s.mode.mode ≠ .park ∧ s.mode.mode ≠ .quiesce ∧ s.pwr.rung = 0 ∧ x.group = g.val ∧ (s.grp g.val).en = true ∧ s.age x.stamp ≤ s.age (s.grp g.val).closed ∧ (if (s.grp g.val).open_ then (s.grp g.val).count else 0) + 1 < (s.grp g.val).thresh) ∧
    (∃ (c : Fin 16) (l : List (Fin 512)) (e : Fin 266240) (s : State), ¬ s.picks c l (s.source e.val).inst) ∧
    (∃ (s : State), (s.isHeld 5 = true ∨ s.isHeld 2 = true ∨ 2 ≤ s.pwr.rung)) :=
  ⟨⟨0, [], 5, on.putSource 5 { src5 with st := .pending, changes := 4 }, by decide +kernel⟩,
   ⟨5, 3, on.putSource 5 { src5 with st := .pending, changes := 4 }, by decide +kernel⟩,
   ⟨0, [], 6, 0, { group := 6, eid := 5, stamp := 49990 }, { on with counts := [{ group := 6, eid := 5, stamp := 49990 }], groups := [(6, { en := true, thresh := 3 })] },
     by decide +kernel⟩,
   ⟨3, [4], 5, { on.putSource 5 { src5 with st := .pending, changes := 3 } with clusters := [(3, { visit := 4, deficit := [(4, 5)] })] },
     by decide +kernel⟩,
   ⟨State.reset, by decide +kernel⟩⟩

theorem witness_GroupReleases :
    (∃ (g : Fin 65536) (s : State), s.engineOn = true ∧ s.pwr.rung = 0 ∧ s.endReached g.val = true ∧
      s.sweeping .rebuild = false ∧ s.listHeld g.val = false ∧ s.earlierWork g.val = false) ∧
    (∃ (g : Fin 65536) (s : State), s.endReached g.val = false) ∧
    (∃ (g : Fin 65536) (b : Batch) (bs : List Batch) (s : State), s.isHeld 5 = false ∧ s.isHeld 2 = false ∧
      s.pwr.rung < 2 ∧ (s.grp g.val).batches = b :: bs ∧ (b.members = [] ∨ b.gen ≠ (s.ctx (s.grp g.val).inst).parity)) ∧
    (∃ (g : Fin 65536) (b : Batch) (bs : List Batch) (e : Nat) (n : Nat) (es : List Nat) (s : State), s.isHeld 5 = false ∧ s.isHeld 2 = false ∧ s.pwr.rung < 2 ∧ s.worksOn e = true ∧ (s.grp g.val).batches = b :: bs ∧ b.members = e :: es ∧ b.cell = none ∧ s.freePool = some n ∧ b.gen = (s.ctx (s.grp g.val).inst).parity ∧ s.awaitsScan e = false) ∧
    (∃ (c : Fin 16) (l : List (Fin 512)) (g : Fin 65536) (b : Batch) (bs : List Batch) (e : Nat) (n : Nat) (es : List Nat) (s : State), s.mode.mode ≠ .park ∧ s.mode.mode ≠ .failsafe ∧ s.pwr.rung = 0 ∧ s.worksOn e = true ∧ s.picks c l (s.grp g.val).inst ∧ (s.grp g.val).batches = b :: bs ∧ b.members = e :: es ∧ b.cell = some n ∧ b.gen = (s.ctx (s.grp g.val).inst).parity ∧ s.awaitsScan e = false ∧ s.isStale e = false ∧ (s.tb.good = false ∨ (s.source e).stamp < (s.ctx (s.source e).inst).nextRefill) ∧ (s.source e).st = .pending ∧ (s.source e).place = .unplaced ∧ (s.source e).held = { moderated := true } ∧ (s.source e).group = g.val ∧ (s.ctx (s.source e).inst).frozen = false ∧ s.isDormant e {} = false ∧ (s.ctx (s.source e).inst).rate = 0 ∧ (s.ctx (s.source e).inst).cellsPlaced < (s.ctx (s.source e).inst).quota ∧ (s.ctx (s.source e).inst).quotaList = [] ∧ (s.grp g.val).drain = false) ∧
    (∃ (g : Fin 65536) (s : State), (s.grp g.val).batches = []) :=
  ⟨⟨6, { on with groups := [(6, { en := true, thresh := 2, timer := 100, open_ := true, count := 1, start := 46800, held := [5] })] },
    by decide +kernel⟩,
   ⟨6, on, by decide +kernel⟩,
   ⟨6, { members := [], gen := true, cell := none }, [], { on with groups := [(6, { en := true, batches := [{ members := [], gen := true, cell := none }] })] },
     by decide +kernel⟩,
   ⟨6, { members := [5], gen := false, cell := none }, [], 5, 266240, [], { on.putSource 5 { src5 with st := .pending, held := { moderated := true }, group := 6, groupEn := true } with groups := [(6, { en := true, batches := [{ members := [5], gen := false, cell := none }] })] },
     by decide +kernel⟩,
   ⟨0, [], 6, { members := [5], gen := false, cell := some 266240 }, [], 5, 266240, [], { on.putSource 5 { src5 with st := .pending, held := { moderated := true }, group := 6, groupEn := true } with groups := [(6, { en := true, batches := [{ members := [5], gen := false, cell := some 266240 }] })] },
     by decide +kernel⟩,
   ⟨6, on, by decide +kernel⟩⟩

theorem witness_RefillsAndListReleases :
    (∃ (i : Fin 512) (s : State), s.isHeld 5 = false ∧ s.isHeld 2 = false ∧ s.pwr.rung = 0 ∧ s.tb.good = true ∧
      (s.ctx i.val).nextRefill ≤ s.tick ∧ (s.ctx i.val).rateList = []) ∧
    (∃ (i : Fin 512) (e : Nat) (s : State), s.isHeld 5 = false ∧ s.isHeld 2 = false ∧ s.pwr.rung = 0 ∧
      s.tb.good = true ∧ (s.ctx i.val).nextRefill ≤ s.tick ∧ (s.ctx i.val).rateList = [e] ∧
      (s.ctx i.val).sharePend = false ∧ 0 < (s.ctx i.val).rate ∧ 0 < (s.ctx i.val).burst ∧
      (s.ctx i.val).frozen = false ∧ s.repairing (.rate i) = false ∧ s.mode.mode ≠ .failsafe ∧ s.isStale e = false ∧
      (s.source e).st = .pending ∧ (s.source e).place = .unplaced ∧ (s.source e).held = { rate := true } ∧
      (s.source e).inst = i.val ∧ s.isDormant e {} = false ∧ (s.isMember e = false ∨ (s.source e).carried = true) ∧
      (s.ctx i.val).cellsPlaced < (s.ctx i.val).quota ∧ (s.ctx i.val).quotaList = []) ∧
    (∃ (i : Fin 512) (s : State), s.tick < (s.ctx i.val).nextRefill) ∧
    (∃ (c : Fin 16) (l : List (Fin 512)) (i : Fin 512) (e : Nat) (es : List Nat) (s : State), s.worksOn e = true ∧
      s.picks c l i.val ∧ s.mode.mode ≠ .park ∧ s.mode.mode ≠ .failsafe ∧ s.pwr.rung = 0 ∧
      s.repairing (.quota i) = false ∧ (s.ctx i.val).frozen = false ∧
      (s.tb.good = false ∨ (s.source e).stamp < (s.ctx i.val).nextRefill) ∧
      (s.ctx i.val).cellsPlaced < (s.ctx i.val).quota ∧ (s.ctx i.val).quotaList = e :: es ∧ e ∉ es ∧
      s.isStale e = false ∧ (s.source e).st = .pending ∧ (s.source e).place = .unplaced ∧
      (s.source e).held = { quota := true } ∧ (s.source e).inst = i.val ∧ s.isDormant e {} = false ∧
      (s.isMember e = false ∨ (s.source e).carried = true) ∧ (s.ctx i.val).rate = 0) ∧
    (∃ (c : Fin 16) (l : List (Fin 512)) (i : Fin 512) (e : Nat) (es : List Nat) (s : State), s.worksOn e = true ∧
      s.picks c l i.val ∧ s.mode.mode ≠ .park ∧ s.mode.mode ≠ .failsafe ∧ s.pwr.rung = 0 ∧
      s.repairing (.frozen i) = false ∧ (s.ctx i.val).frozen = false ∧ (s.ctx i.val).drain = false ∧
      (s.tb.good = false ∨ (s.source e).stamp < (s.ctx i.val).nextRefill) ∧
      (s.ctx i.val).cellsPlaced < (s.ctx i.val).quota ∧ (s.ctx i.val).quotaList = [] ∧
      (s.ctx i.val).frozenList = e :: es ∧ e ∉ es ∧ s.isStale e = false ∧ (s.source e).st = .pending ∧
      (s.source e).place = .unplaced ∧ (s.source e).held = { frozen := true } ∧ (s.source e).inst = i.val ∧
      s.isDormant e {} = false ∧ (s.isMember e = false ∨ (s.source e).carried = true) ∧ (s.ctx i.val).rate = 0) ∧
    (∃ (i : Fin 512) (s : State), ((s.ctx i.val).frozen = true ∨ (s.ctx i.val).quotaList = [])) ∧
    (∃ (i : Fin 512) (s : State), ((s.ctx i.val).frozen = true ∨ (s.ctx i.val).drain = true ∨ (s.ctx i.val).frozenList = [])) :=
  ⟨⟨4, { on with insts := [(4, { created := true, en := true, rate := 10, burst := 100, tokens := 95, nextRefill := 50000 })] },
    by decide +kernel⟩,
   ⟨4, 5, (on.putSource 5 { src5 with st := .pending, inst := 4, held := { rate := true } }).putCtx 4 { created := true, en := true, rate := 2, burst := 9, nextRefill := 49999, rateList := [5] },
     by decide +kernel⟩,
   ⟨4, { on with insts := [(4, { created := true, nextRefill := 50001 })] }, by decide +kernel⟩,
   ⟨0, [], 4, 5, [], (on.putSource 5 { src5 with st := .pending, inst := 4, held := { quota := true } }).putCtx 4 { created := true, en := true, quota := 3, nextRefill := 60000, quotaList := [5] },
     by decide +kernel⟩,
   ⟨0, [], 4, 5, [], (on.putSource 5 { src5 with st := .pending, inst := 4, held := { frozen := true } }).putCtx 4 { created := true, en := true, quota := 3, nextRefill := 60000, frozenList := [5] },
     by decide +kernel⟩,
   ⟨4, on, by decide +kernel⟩,
   ⟨4, on, by decide +kernel⟩⟩

theorem witness_SwitchWorkAndSweepSteps :
    (∃ (t : Fin 1024) (w : SwitchWork) (s : State) (n : Nat), s.isHeld 5 = false ∧ s.isHeld 2 = false ∧
      s.pwr.rung = 0 ∧ s.mode.mode ≠ .park ∧ (s.tgt t.val).switching = some w ∧ s.scanning = false ∧
      s.switchBlocked t.val w = false ∧ (s.switchSource t.val w).all s.worksOn = true ∧ w.cell = none ∧
      s.freePool = some n) ∧
    (∃ (c : Fin 16) (l : List (Fin 512)) (t : Fin 1024) (w : SwitchWork) (s : State) (n : Nat), s.isHeld 5 = false ∧
      s.isHeld 2 = false ∧ s.pwr.rung = 0 ∧ s.mode.mode ≠ .park ∧ (s.tgt t.val).switching = some w ∧
      s.scanning = false ∧ s.switchBlocked t.val w = false ∧ (s.switchSource t.val w).all s.worksOn = true ∧
      w.cell = some n ∧ s.picks c l w.inst ∧ w.gen ≠ (s.ctx w.inst).parity) ∧
    (∃ (c : Fin 16) (l : List (Fin 512)) (t : Fin 1024) (w : SwitchWork) (s : State) (n : Nat), s.isHeld 5 = false ∧
      s.isHeld 2 = false ∧ s.pwr.rung = 0 ∧ s.mode.mode ≠ .park ∧ (s.tgt t.val).switching = some w ∧
      s.scanning = false ∧ s.switchBlocked t.val w = false ∧ (s.switchSource t.val w).all s.worksOn = true ∧
      w.cell = some n ∧ s.picks c l w.inst ∧ s.pwr.parking = false ∧ w.gen = (s.ctx w.inst).parity ∧ w.step = 1 ∧
      (s.tgt t.val).pres = none) ∧
    (∃ (c : Fin 16) (l : List (Fin 512)) (t : Fin 1024) (w : SwitchWork) (s : State) (n : Nat), s.isHeld 5 = false ∧
      s.isHeld 2 = false ∧ s.pwr.rung = 0 ∧ s.mode.mode ≠ .park ∧ (s.tgt t.val).switching = some w ∧
      s.scanning = false ∧ s.switchBlocked t.val w = false ∧ (s.switchSource t.val w).all s.worksOn = true ∧
      w.cell = some n ∧ s.picks c l w.inst ∧ s.pwr.parking = false ∧ w.gen = (s.ctx w.inst).parity ∧ w.step = 2 ∧
      s.walkNext t.val = none) ∧
    (∃ (c : Fin 16) (l : List (Fin 512)) (t : Fin 1024) (w : SwitchWork) (s : State) (n : Nat) (e : Nat), s.isHeld 5 = false ∧ s.isHeld 2 = false ∧ s.pwr.rung = 0 ∧ s.mode.mode ≠ .park ∧ (s.tgt t.val).switching = some w ∧ s.scanning = false ∧ s.switchBlocked t.val w = false ∧ (s.switchSource t.val w).all s.worksOn = true ∧ w.cell = some n ∧ s.picks c l w.inst ∧ w.gen = (s.ctx w.inst).parity ∧ w.step = 2 ∧ s.walkNext t.val = some e ∧ s.isStale e = false ∧ (s.source e).st = .pending ∧ (s.source e).place = .queued) ∧
    (∃ (c : Fin 16) (l : List (Fin 512)) (t : Fin 1024) (w : SwitchWork) (s : State) (n : Nat), s.isHeld 5 = false ∧
      s.isHeld 2 = false ∧ s.pwr.rung = 0 ∧ s.mode.mode ≠ .park ∧ (s.tgt t.val).switching = some w ∧
      s.scanning = false ∧ s.switchBlocked t.val w = false ∧ (s.switchSource t.val w).all s.worksOn = true ∧
      w.cell = some n ∧ s.picks c l w.inst ∧ s.pwr.parking = false ∧ w.gen = (s.ctx w.inst).parity ∧ w.step = 3 ∧
      (s.tgt t.val).dormList (s.tgt t.val).resInst = []) ∧
    (∃ (t : Fin 1024) (s : State), (s.tgt t.val).switching = none) ∧
    (∃ (k : SweepName) (bank : Fin 64) (w : Sweep) (s : State), s.sweepRuns k = true ∧
      s.sweeps.find? (·.name == k) = some w ∧ tget (fun _ => 0) w.pos bank.val < 4160) ∧
    (∃ (t : Fin 1536) (bank : Fin 64) (w : Sweep) (e : Nat) (s : State), s.sweepRuns (.taker t) = true ∧
      s.sweeps.find? (·.name == .taker t) = some w ∧ tget (fun _ => 0) w.pos bank.val < 4160 ∧
      e = 64 * tget (fun _ => 0) w.pos bank.val + bank.val ∧ (s.source e).st = .active ∧ (s.source e).taker = t.val ∧
      (s.source e).drain = false ∧ s.isStale e = false) ∧
    (∃ (k : SweepName) (s : State), (s.sweepRuns k = false ∨ s.sweeping k = false)) :=
  ⟨⟨0, { step := 1, inst := 4, gen := false, cell := none }, switching { step := 1, inst := 4, gen := false, cell := none }, 266240,
    by decide +kernel⟩,
   ⟨0, [], 0, { step := 1, inst := 4, gen := true, cell := some 266240 }, switching { step := 1, inst := 4, gen := true, cell := some 266240 }, 266240,
     by decide +kernel⟩,
   ⟨0, [], 0, { step := 1, inst := 4, gen := false, cell := some 266240 }, switching { step := 1, inst := 4, gen := false, cell := some 266240 }, 266240,
     by decide +kernel⟩,
   ⟨0, [], 0, { step := 2, inst := 4, gen := false, cell := some 266240 }, switching { step := 2, inst := 4, gen := false, cell := some 266240 }, 266240,
     by decide +kernel⟩,
   ⟨0, [], 0, { step := 2, inst := 4, gen := false, cell := some 266240 }, ((switching { step := 2, inst := 4, gen := false, cell := some 266240 }).onTgt 0 fun c => { c with queues := [(3, [5])], bits := 8, counts := [(3, 1)], guests := [{ inst := 6, entry := 0, srcs := 1, dorm := [] }] }).putSource 5 { src5 with st := .pending, place := .queued, inst := 6 }, 266240, 5,
     by decide +kernel⟩,
   ⟨0, [], 0, { step := 3, inst := 4, gen := false, cell := some 266240 }, switching { step := 3, inst := 4, gen := false, cell := some 266240 }, 266240,
     by decide +kernel⟩,
   ⟨0, on, by decide +kernel⟩,
   ⟨.taker 7, 5, { name := .taker 7 }, { on with sweeps := [{ name := .taker 7 }] }, by decide +kernel⟩,
   ⟨7, 5, { name := .taker 7 }, 5, { on.putSource 5 { src5 with st := .active, taker := 7 } with sweeps := [{ name := .taker 7 }] },
     by decide +kernel⟩,
   ⟨.taker 7, on, by decide +kernel⟩⟩

theorem witness_RankDecisionPresents :
    (∃ (t : Fin 1536) (p : Nat) (e : Nat) (s : State), t.val < 1024 ∧ s.isIdle 4 = false ∧ s.isHeld 2 = false ∧
      s.pwr.rung < 2 ∧ (s.tgt t.val).svc = .online ∧ (s.tgt t.val).repair = false ∧ s.presents = true ∧
      (s.tgt t.val).agrees = true ∧ s.winnerOf t.val = some (p, e) ∧ s.isStale e = false ∧ p < (s.tgt t.val).runEff ∧
      (s.tgt t.val).wdrBusy = false ∧ (s.tgt t.val).port.takenCut = false ∧ (s.tgt t.val).pres = none ∧
      s.canOffer t.val = true ∧ s.isIdle 7 = false) ∧
    (∃ (t : Fin 1536) (p : Nat) (e : Nat) (x : Nat) (s : State), t.val < 1024 ∧ s.isIdle 4 = false ∧
      s.isHeld 2 = false ∧ s.pwr.rung < 2 ∧ (s.tgt t.val).svc = .online ∧ (s.tgt t.val).repair = false ∧
      s.presents = true ∧ (s.tgt t.val).agrees = true ∧ s.winnerOf t.val = some (p, e) ∧ s.isStale x = false ∧
      (s.source x).place = .presented ∧ p < (s.tgt t.val).runEff ∧ (s.tgt t.val).wdrBusy = false ∧
      (s.tgt t.val).port.takenCut = false ∧ (s.tgt t.val).pres = some x ∧ x ≠ e ∧ p < (s.tgt t.val).presLevel ∧
      s.canOffer t.val = true ∧ s.isIdle 7 = false ∧ (s.source x).serving = t.val) ∧
    (∃ (t : Fin 1536) (p : Nat) (e : Nat) (x : Nat) (s : State), 1024 ≤ t.val ∧ s.isIdle 4 = false ∧
      s.isHeld 2 = false ∧ s.pwr.rung < 2 ∧ (s.tgt t.val).svc = .online ∧ (s.tgt t.val).repair = false ∧
      s.presents = true ∧ (s.tgt t.val).agrees = true ∧ s.offerable t.val = some (p, e) ∧ s.isStale x = false ∧
      (s.source x).place = .presented ∧ (s.tgt t.val).wdrBusy = false ∧ (s.tgt t.val).pres = some x ∧
      p < (s.source x).prio ∧ (s.source x).serving = t.val) ∧
    (∃ (t : Fin 1536) (s : State), t.val < 1024 ∧ s.isIdle 4 = false ∧ s.isHeld 2 = false ∧ s.pwr.rung < 2 ∧
      (s.tgt t.val).svc = .online ∧ (s.tgt t.val).repair = false ∧ s.presents = true ∧ (s.tgt t.val).agrees = true ∧
      s.winnerOf t.val = none) ∧
    (∃ (t : Fin 1536) (x : RankUpset) (s : State), s.isIdle 4 = false ∧ s.isHeld 2 = false ∧ s.pwr.rung < 2 ∧
      (s.tgt t.val).svc = .online ∧ s.presents = true ∧ ((s.tgt t.val).repair = false ∨ x ≠ .none) ∧
      ((s.tgt t.val).upset x).agrees = false) ∧
    (∃ (t : Fin 1536) (s : State), (s.isIdle 4 = true ∨ s.isHeld 2 = true ∨ (s.tgt t.val).svc ≠ .online)) :=
  ⟨⟨0, 3, 5, queued, by decide +kernel⟩,
   ⟨0, 2, 6, 5, ((shown.putSource 6 { src5 with st := .pending, place := .queued, prio := 2 }).onTgt 0 fun c => { c with queues := [(2, [6])], bits := 4, counts := [(2, 1)] }),
     by decide +kernel⟩,
   ⟨1024, 2, 6, 5, ((on.putSource 6 { src5 with st := .pending, place := .queued, prio := 2, target := 1024 }).putSource 5 { src5 with st := .pending, place := .presented, target := 1024, serving := 1024 }).putTgt 1024 { svc := .online, pres := some 5, held := true, queues := [(2, [6])], bits := 4, counts := [(2, 1)] },
     by decide +kernel⟩,
   ⟨0, on.putTgt 0 { svc := .online }, by decide +kernel⟩,
   ⟨0, .bit 3, on.putTgt 0 { svc := .online }, by decide +kernel⟩,
   ⟨0, on, by decide +kernel⟩⟩

theorem witness_RepairsAndRebuild :
    (∃ (t : Fin 1536) (s : State), s.isHeld 4 = false ∧ s.isHeld 2 = false ∧ (s.tgt t.val).repair = true) ∧
    (∃ (t : Fin 1536) (s : State), s.isHeld 4 = false ∧ s.isHeld 2 = false ∧ (s.tgt t.val).repair = true) ∧
    (∃ (t : Fin 1536) (s : State), (s.tgt t.val).repair = false) ∧
    (∃ (l : ListName) (s : State), (∀ g, l ≠ .moderated g) ∧ s.isHeld 2 = false ∧ s.sweepDone (.repair l) = true) ∧
    (∃ (g : Fin 65536) (s : State), s.isHeld 2 = false ∧ s.sweepDone (.repair (.moderated g)) = true ∧
      (s.grp g.val).owed ≠ 0 ∧ (s.grp g.val).held ≠ []) ∧
    (∃ (l : ListName) (s : State), (s.isHeld 2 = true ∨ s.sweepDone (.repair l) = false)) ∧
    (∃ (w : Sweep) (s : State), s.sweeps.find? (fun w => w.name == .rebuild || w.name == .rescan) = some w ∧
      w.name = .rebuild ∧ w.complete = true ∧ s.mode.mode = .rebuild ∧ s.mode.heldUncont = false ∧
      s.mode.heldEsc = false ∧ s.mode.heldCwr = false ∧ s.pins.esc ≠ 2 ∧ s.pwr.apply < 4 ∧ s.ledgerFails w = []) ∧
    (∃ (s : State), (∀ w ∈ s.sweeps, w.name = .rebuild ∨ w.name = .rescan → w.complete = false)) :=
  ⟨⟨1535, { on with tgts := [(1535, { svc := .online, repair := true })] }, by decide +kernel⟩,
   ⟨0, (queued.onTgt 0 fun c => { c with repair := true }), by decide +kernel⟩,
   ⟨0, queued, by decide +kernel⟩,
   ⟨.rate 4, { on with sweeps := [swept (.repair (.rate 4))] }, ⟨fun _ h => (nomatch h), by decide +kernel⟩⟩,
   ⟨6, { on with sweeps := [swept (.repair (.moderated 6))], groups := [(6, { en := true, held := [5], owed := 2 })] },
     by decide +kernel⟩,
   ⟨.rate 4, on, by decide +kernel⟩,
   ⟨{ name := .rebuild, pos := (List.range 64).map fun b => (b, 4160) }, { on with mode := { mode := .rebuild }, cfg := { walked := true }, sweeps := [{ name := .rebuild, pos := (List.range 64).map fun b => (b, 4160) }] },
     by decide +kernel⟩,
   ⟨{ on with pins := { on.pins with fabOk := false } }, by decide +kernel⟩⟩

theorem witness_TakesAndDones :
    (∃ (n : Fin 1024) (e : Nat) (s : State), s.portLive n.val = true ∧ s.mode.mode ≠ .park ∧ s.pwr.rung = 0 ∧
      (s.tgt n.val).port.req = true ∧ (s.tgt n.val).pres = some e ∧ s.isHeld 7 = false ∧ s.bankFull e = false ∧
      (s.source e).place = .presented ∧ (s.source e).st = .pending ∧ s.isStale e = false ∧ s.bankQuiet e) ∧
    (∃ (n : Fin 1024) (e : Nat) (s : State), s.portLive n.val = true ∧ s.mode.mode ≠ .park ∧ s.pwr.rung = 0 ∧
      (s.tgt n.val).port.req = true ∧ (s.tgt n.val).pres = some e ∧ (s.source e).place = .withdrawing) ∧
    (∃ (n : Fin 1024) (e : Nat) (s : State), s.portLive n.val = true ∧ s.mode.mode ≠ .park ∧ s.pwr.rung = 0 ∧
      (s.tgt n.val).port.req = true ∧ (s.tgt n.val).pres = some e ∧ (s.source e).place ≠ .withdrawing ∧
      (s.isHeld 7 = true ∨ s.bankFull e = true)) ∧
    (∃ (n : Fin 1024) (s : State), s.portLive n.val = true ∧ s.mode.mode ≠ .park ∧ s.pwr.rung = 0 ∧
      (s.tgt n.val).port.req = true ∧ (s.tgt n.val).pres = none ∧ s.isHeld 7 = false) ∧
    (∃ (n : Fin 1024) (s : State), s.portLive n.val = true ∧ s.mode.mode ≠ .park ∧ s.pwr.rung = 0 ∧
      (s.tgt n.val).port.req = false) ∧
    (∃ (n : Fin 1024) (s : State), s.portLive n.val = true ∧ s.mode.mode ≠ .park ∧ s.pwr.rung = 0 ∧
      s.pwr.parking = false ∧ (s.tgt n.val).port.dones.length < 16) ∧
    (∃ (n : Fin 1024) (s : State), s.portLive n.val = true ∧ s.mode.mode ≠ .park ∧ s.pwr.rung = 0 ∧
      s.pwr.parking = false ∧ 16 ≤ (s.tgt n.val).port.dones.length) ∧
    (∃ (n : Fin 1024) (s : State), s.portLive n.val = false) ∧
    (∃ (n : Fin 1536) (e : Nat) (es : List Nat) (s : State), (s.tgt n.val).port.dones = e :: es ∧ s.isHeld 7 = false ∧
      s.isHeld 2 = false ∧ e < 0x41000 ∧ s.bankFull e = false ∧ (∀ p ∈ s.tgts, p.2.port.takenCut = false) ∧
      (s.source e).st = .active ∧ (s.source e).place = .unplaced ∧ (s.source e).taker = n.val ∧
      (s.source e).level = false ∧ (s.source e).drain = false ∧ s.isStale e = false) ∧
    (∃ (n : Fin 1536) (e : Nat) (es : List Nat) (s : State), (s.tgt n.val).port.dones = e :: es ∧ s.isHeld 7 = false ∧
      s.isHeld 2 = false ∧ e < 0x41000 ∧ s.bankFull e = false ∧ (∀ p ∈ s.tgts, p.2.port.takenCut = false) ∧
      (s.source e).place ≠ .withdrawing ∧ ((s.source e).inService = false ∨ (s.source e).taker ≠ n.val) ∧
      s.isStale e = false) ∧
    (∃ (n : Fin 1536) (s : State), (s.tgt n.val).port.dones = []) :=
  ⟨⟨0, 5, shown, by decide +kernel⟩,
   ⟨0, 5, leaving .disable, by decide +kernel⟩,
   ⟨0, 5, { shown with parked := (List.range 16).map fun _ => (5, .deassertion) }, by decide +kernel⟩,
   ⟨0, on.putTgt 0 { svc := .online, blot := true, held := true, port := { req := true } }, by decide +kernel⟩,
   ⟨0, on, by decide +kernel⟩,
   ⟨0, on, by decide +kernel⟩,
   ⟨0, on.putTgt 0 { svc := .online, port := { dones := [1, 2, 3, 4, 5, 6, 7, 8, 9, 10, 11, 12, 13, 14, 15, 16] } },
     by decide +kernel⟩,
   ⟨0, State.reset, by decide +kernel⟩,
   ⟨0, 5, [], { on.putSource 5 { src5 with st := .active } with tgts := [(0, { svc := .online, runRpt := 64, runEff := 3, effEid := some 5, port := { dones := [5] } })] },
     by decide +kernel⟩,
   ⟨0, 5, [], on.putTgt 0 { svc := .online, port := { dones := [5] } }, by decide +kernel⟩,
   ⟨1535, { on with tgts := [(1535, { svc := .online, repair := true })] }, by decide +kernel⟩⟩

theorem witness_NibReportsLossAndWithdrawal :
    (∃ (n : Fin 1024) (v : BitVec 7) (s : State), s.portLive n.val = true ∧ s.mode.mode ≠ .park ∧ s.pwr.rung = 0 ∧
      s.pwr.parking = false ∧ v.toNat ≤ 64) ∧
    (∃ (n : Fin 1024) (v : BitVec 7) (s : State), s.portLive n.val = true ∧ s.mode.mode ≠ .park ∧ s.pwr.rung = 0 ∧
      64 < v.toNat ∧ (s.tgt n.val).path = false ∧ (s.tgt n.val).port.runBad = false) ∧
    (∃ (n : Fin 1024) (v : BitVec 2) (s : State), s.portLive n.val = true ∧ s.mode.mode ≠ .park ∧ s.pwr.rung = 0 ∧
      s.pwr.parking = false ∧ v.toNat < 3) ∧
    (∃ (n : Fin 1024) (s : State), s.portLive n.val = false) ∧
    (∃ (n : Fin 1024) (s : State), tget (fun _ => false) s.pins.nibOk n.val = true) ∧
    (∃ (n : Fin 1024) (e : Nat) (s : State), tget (fun _ => false) s.pins.nibOk n.val = true ∧ s.isNib2 n.val = false ∧
      (s.tgt n.val).path = false ∧ (s.tgt n.val).pres = some e ∧ (s.source e).place = .presented ∧
      s.isStale e = false ∧ (∀ p ∈ s.tgts, p.2.port.takenCut = false) ∧ s.bankFull e = false ∧ s.bankQuiet e) ∧
    (∃ (n : Fin 1024) (s : State), tget (fun _ => false) s.pins.nibOk n.val = false) ∧
    (∃ (n : Fin 1536) (e : Nat) (s : State), (s.tgt n.val).pres = some e ∧ s.portAnswers n.val e ∧
      (s.source e).place = .withdrawing ∧ s.isStale e = false ∧ (s.tgt n.val).port.taken = false ∧
      (s.source e).wcause = .preemption ∧ (s.source e).drain = false) ∧
    (∃ (n : Fin 1536) (e : Nat) (s : State), (s.tgt n.val).pres = some e ∧ s.portAnswers n.val e ∧
      (s.source e).place = .withdrawing ∧ s.isStale e = false ∧ (s.tgt n.val).port.taken = false ∧
      (s.source e).wcause = .disable ∧ (s.source e).drain = true ∧ (s.source e).en = false ∧ s.cmd.deferred = []) ∧
    (∃ (n : Fin 1536) (e : Nat) (s : State), n.val < 1024 ∧ (s.tgt n.val).pres = some e ∧ s.portAnswers n.val e ∧
      (s.source e).place = .withdrawing ∧ s.isStale e = false ∧ (s.tgt n.val).port.taken = true ∧
      (s.source e).wcause = .preemption ∧ (s.source e).drain = false) ∧
    (∃ (n : Fin 1536) (s : State), (∀ e, (s.tgt n.val).pres = some e → (s.source e).place ≠ .withdrawing)) :=
  ⟨⟨0, 64, { on with tgts := [(0, { runRpt := 3 })] }, by decide +kernel⟩,
   ⟨0, 65, on, by decide +kernel⟩,
   ⟨0, 0, { on with tgts := [(0, { port := { idle := 2 } })] }, by decide +kernel⟩,
   ⟨0, State.reset, by decide +kernel⟩,
   ⟨1, on, by decide +kernel⟩,
   ⟨0, 5, shown, by decide +kernel⟩,
   ⟨9, on, by decide +kernel⟩,
   ⟨0, 5, (shown.onSource 5 fun r => { r with place := .withdrawing }).onTgt 0 fun c => { c with wdrBusy := true },
     by decide +kernel⟩,
   ⟨0, 5, (leaving .disable).onSource 5 fun r => { r with en := false, drain := true }, by decide +kernel⟩,
   ⟨0, 5, (leaving .preemption).onTgt 0 fun c => { c with port := { c.port with taken := true, req := false } },
     by decide +kernel⟩,
   ⟨0, on, by decide +kernel⟩⟩

theorem witness_Nib2LinkLevelAndFlits :
    (∃ (g : Fin 32) (s : State), (s.link g.val).up = false ∧ s.isNib2 (32 * g.val) = false) ∧
    (∃ (g : Fin 32) (s : State), (s.link g.val).up = false ∧ s.isNib2 (32 * g.val) = true ∧ s.isHeld 7 = false) ∧
    (∃ (g : Fin 32) (s : State), (s.link g.val).up = true) ∧
    (∃ (g : Fin 32) (s : State), (s.link g.val).up = false) ∧
    (∃ (g : Fin 32) (s : State), (s.link g.val).up = true) ∧
    (∃ (g : Fin 32) (k : Fin 32) (e : Nat) (s : State), (s.link g.val).up = true ∧ s.isNib2 (32 * g.val) = true ∧
      (s.tgt (32 * g.val + k.val)).path = false ∧ (s.tgt (32 * g.val + k.val)).pres = some e ∧
      (∀ j, j ≠ k.val → (s.tgt (32 * g.val + j)).pres = none) ∧ (∀ p ∈ s.tgts, p.2.port.takenCut = false) ∧
      (s.source e).place = .presented ∧ s.isStale e = false ∧ s.bankFull e = false ∧ s.bankQuiet e) ∧
    (∃ (g : Fin 32) (s : State), s.rxOn g.val = true) ∧
    (∃ (g : Fin 32) (why : FlitFlaw) (s : State), s.rxOn g.val = true ∧ why ≠ .noCredit ∧
      (s.link g.val).agentCredits ≠ 0 ∧ (s.link g.val).rxDiscard = false ∧ (s.link g.val).nakRun < 7) ∧
    (∃ (g : Fin 32) (s : State), s.isNib2 (32 * g.val) = true ∧ (s.link g.val).up = false ∧
      (s.link g.val).everUp = true ∧ (s.link g.val).resetDue = false ∧ s.tb.good = true ∧
      (s.link g.val).downSince + 2 ^ 20 ≤ s.tick) ∧
    (∃ (g : Fin 32) (s : State), s.rxOn g.val = true ∧ (s.link g.val).sent ≠ [] ∧ (s.link g.val).sent.length < 32 ∧
      s.tb.good = true ∧ (s.link g.val).lastSend + 64 ≤ s.tick) ∧
    (∃ (g : Fin 32) (s : State), (s.tb.good = false ∨ s.isNib2 (32 * g.val) = false)) ∧
    (∃ (g : Fin 32) (h : FlitHead) (s : State), s.rxOn g.val = true ∧ s.mode.mode ≠ .park ∧ s.pwr.rung = 0 ∧
      s.pwr.parking = false ∧ (s.link g.val).agentCredits ≠ 0 ∧ h.lseq.val = (s.link g.val).rxNext ∧ h.nak = false ∧
      (s.link g.val).nakIn < 8) ∧
    (∃ (g : Fin 32) (h : FlitHead) (s : State), s.rxOn g.val = true ∧ s.mode.mode ≠ .park ∧ s.pwr.rung = 0 ∧
      s.pwr.parking = false ∧ (s.link g.val).agentCredits ≠ 0 ∧ h.lseq.val = (s.link g.val).rxNext ∧ h.nak = false ∧
      (s.link g.val).nakIn < 8 ∧ (s.link g.val).resetDue = false) ∧
    (∃ (g : Fin 32) (h : FlitHead) (s : State) (v : BitVec 7), s.rxOn g.val = true ∧ s.mode.mode ≠ .park ∧
      s.pwr.rung = 0 ∧ s.pwr.parking = false ∧ (s.link g.val).agentCredits ≠ 0 ∧ h.lseq.val = (s.link g.val).rxNext ∧
      h.nak = false ∧ (s.link g.val).nakIn < 8 ∧ v.toNat ≤ 64 ∧ (s.tgt (32 * g.val + h.tgt.val)).path = false) ∧
    (∃ (g : Fin 32) (h : FlitHead) (s : State) (e : Nat), s.rxOn g.val = true ∧ s.mode.mode ≠ .park ∧ s.pwr.rung = 0 ∧
      s.pwr.parking = false ∧ (s.link g.val).agentCredits ≠ 0 ∧ h.lseq.val = (s.link g.val).rxNext ∧ h.nak = false ∧
      (s.link g.val).nakIn < 8 ∧ (s.tgt (32 * g.val + h.tgt.val)).pres = some e ∧ (s.source e).place = .withdrawing ∧
      (s.source e).wcause = .preemption ∧ (s.source e).drain = false ∧ s.isStale e = false ∧
      (s.tgt (32 * g.val + h.tgt.val)).path = false ∧ (s.tgt (32 * g.val + h.tgt.val)).pseq = h.pseq.val ∧
      (s.tgt (32 * g.val + h.tgt.val)).spliceDue = false ∧ s.bankQuiet e ∧ (∀ x ∈ s.tgts, x.2.port.takenCut = false)) ∧
    (∃ (g : Fin 32) (h : FlitHead) (s : State) (e : Nat), s.rxOn g.val = true ∧ s.mode.mode ≠ .park ∧ s.pwr.rung = 0 ∧
      s.pwr.parking = false ∧ (s.link g.val).agentCredits ≠ 0 ∧ h.lseq.val = (s.link g.val).rxNext ∧ h.nak = false ∧
      (s.link g.val).nakIn < 8 ∧ (s.tgt (32 * g.val + h.tgt.val)).pres = some e ∧
      (s.tgt (32 * g.val + h.tgt.val)).path = false ∧ (s.tgt (32 * g.val + h.tgt.val)).pseq = h.pseq.val ∧
      (s.tgt (32 * g.val + h.tgt.val)).held = true ∧ (s.tgt (32 * g.val + h.tgt.val)).port.takenCut = false ∧
      (s.source e).place = .presented ∧ (s.source e).st = .pending ∧ s.isStale e = false ∧ s.bankFull e = false ∧
      s.bankQuiet e) ∧
    (∃ (g : Fin 32) (h : FlitHead) (s : State) (eid : BitVec 20), s.rxOn g.val = true ∧ s.mode.mode ≠ .park ∧
      s.pwr.rung = 0 ∧ s.pwr.parking = false ∧ (s.link g.val).agentCredits ≠ 0 ∧ h.lseq.val = (s.link g.val).rxNext ∧
      h.nak = false ∧ (s.link g.val).nakIn < 8 ∧ (s.tgt (32 * g.val + h.tgt.val)).pseq ≠ h.pseq.val ∧
      eid.toNat < 0x41000 ∧ s.bankFull eid.toNat = false ∧ (s.source eid.toNat).st = .pending ∧
      (s.source eid.toNat).place = .queued ∧ (s.source eid.toNat).serving = 32 * g.val + h.tgt.val ∧
      (s.source eid.toNat).shownAt = some (32 * g.val + h.tgt.val, h.pseq.val) ∧ s.isStale eid.toNat = false) :=
  ⟨⟨31, on, by decide +kernel⟩,
   ⟨0, { on with strap := { nibGen := 1 } }, by decide +kernel⟩,
   ⟨0, { on with strap := { nibGen := 1 }, links := [(0, { up := true, open_ := true })] }, by decide +kernel⟩,
   ⟨0, { on with now := 2000000, strap := { nibGen := 1 }, links := [(0, { everUp := true })] }, by decide +kernel⟩,
   ⟨0, { on with strap := { nibGen := 1 }, links := [(0, { up := true, open_ := true, everUp := true })] },
     by decide +kernel⟩,
   ⟨0, 0, 5, linked shown, ⟨rfl, rfl, rfl, rfl, fun | 0, h => absurd rfl h | _ + 1, _ => rfl, by decide +kernel⟩⟩,
   ⟨0, { on with strap := { nibGen := 1 }, links := [(0, { up := true, open_ := true, everUp := true, txNext := 1, sent := [{ lseq := 0, kind := 5, tgt := 0, pseq := 0, payload := 0, cred := 0, nak := false, ack := 0 }] })] },
     by decide +kernel⟩,
   ⟨0, .crc, linked on, by decide +kernel⟩,
   ⟨0, { on with tb := { on.tb with count := 2000000 }, strap := { nibGen := 1 }, links := [(0, { everUp := true })] },
     by decide +kernel⟩,
   ⟨0, { on with strap := { nibGen := 1 }, links := [(0, { up := true, open_ := true, everUp := true, txNext := 1, sent := [{ lseq := 0, kind := 5, tgt := 0, pseq := 0, payload := 0, cred := 0, nak := false, ack := 0 }] })] },
     by decide +kernel⟩,
   ⟨31, on, by decide +kernel⟩,
   ⟨0, { lseq := 0, ack := 255, nak := false, tgt := 1, pseq := 0 }, { on with strap := { nibGen := 1 }, links := [(0, { up := true, open_ := true, everUp := true, agentCredits := 1 })] },
     by decide +kernel⟩,
   ⟨0, { lseq := 0, ack := 255, nak := false, tgt := 0, pseq := 0 }, { on with strap := { nibGen := 1 }, links := [(0, { up := true, open_ := true, everUp := true, agentCredits := 1, awaitReplay := true })] },
     by decide +kernel⟩,
   ⟨0, { lseq := 0, ack := 255, nak := false, tgt := 1, pseq := 0 }, { on with strap := { nibGen := 1 }, links := [(0, { up := true, open_ := true, everUp := true, agentCredits := 1 })] }, 7,
     by decide +kernel⟩,
   ⟨0, { lseq := 0, ack := 255, nak := false, tgt := 0, pseq := 4 }, { (shown.onSource 5 fun r => { r with place := .withdrawing }) with strap := { nibGen := 1 }, links := [(0, { up := true, open_ := true, everUp := true, agentCredits := 1 })] }, 5,
     by decide +kernel⟩,
   ⟨0, { lseq := 0, ack := 255, nak := false, tgt := 0, pseq := 4 }, { shown with strap := { nibGen := 1 }, links := [(0, { up := true, open_ := true, everUp := true, agentCredits := 1 })] }, 5,
     by decide +kernel⟩,
   ⟨0, { lseq := 0, ack := 255, nak := false, tgt := 0, pseq := 3 }, (linked queued).onSource 5 fun r => { r with shownAt := some (0, 3) }, 5,
     by decide +kernel⟩⟩

theorem witness_FarDeliveryAndStallTimer :
    (∃ (j : Fin 512) (p : Nat) (e : Nat) (s : State), s.isIdle 4 = false ∧ s.isHeld 2 = false ∧ s.isIdle 8 = false ∧
      s.farOpen = true ∧ s.pwr.rung < 2 ∧ (s.tgt (1024 + j.val)).svc = .online ∧
      (s.tgt (1024 + j.val)).repair = false ∧ (s.tgt (1024 + j.val)).wdrBusy = false ∧
      (s.tgt (1024 + j.val)).pres = none ∧ s.presents = true ∧ s.offerable (1024 + j.val) = some (p, e) ∧
      (s.tgt (1024 + j.val)).agrees = true ∧ s.isStale e = false ∧
      ((s.tgt (1024 + j.val)).far.timed = false ∨ (s.freePool).isSome = true)) ∧
    (∃ (j : Fin 512) (s : State), (s.farOpen = false ∨ (s.tgt (1024 + j.val)).svc ≠ .online ∨ s.offerable (1024 + j.val) = none)) ∧
    (∃ (f : Fin 4) (s : State), s.farOpen = true ∧ (s.farChan f.val).credits < 32) ∧
    (∃ (f : Fin 4) (s : State), s.farOpen = true ∧ 32 ≤ (s.farChan f.val).credits) ∧
    (∃ (s : State), s.farOpen = false) ∧
    (∃ (f : Fin 4) (t : Nat) (w : FarWrite) (c : FarChan) (s : State), s.farOpen = true ∧ s.fabOn = true ∧
      s.isHeld 2 = false ∧ (s.farChan f.val).credits ≠ 0 ∧ s.nextWrite f.val = some (t, w, c) ∧
      s.bankFull w.eid = false ∧ 1024 ≤ t ∧ (s.source w.eid).place = .presented ∧ (s.source w.eid).st = .pending ∧
      s.isStale w.eid = false) ∧
    (∃ (f : Fin 4) (s : State), (s.farOpen = false ∨ (s.farChan f.val).credits = 0 ∨ s.nextWrite f.val = none)) ∧
    (∃ (c : Fin 16) (l : List (Fin 512)) (j : Fin 512) (e : Nat) (due : Nat) (w : FarWrite) (s : State), s.isHeld 8 = false ∧ s.engineOn = true ∧ s.pwr.rung = 0 ∧ s.tb.good = true ∧ (s.tgt (1024 + j.val)).far.retryDue = some due ∧ (s.tgt (1024 + j.val)).pres = some e ∧ due ≤ s.tick ∧ (s.tgt (1024 + j.val)).far.retryPseq = (s.tgt (1024 + j.val)).pseq ∧ (s.tgt (1024 + j.val)).far.ready = some w ∧ s.picks c l (s.source e).inst ∧ (s.tgt (1024 + j.val)).far.retryGen = (s.ctx (s.source e).inst).parity ∧ sat 15 ((s.tgt (1024 + j.val)).far.tries + 1) ≠ w.retryMax ∧ (s.source e).place = .presented ∧ (s.source e).serving = 1024 + j.val ∧ s.isStale e = false) ∧
    (∃ (j : Fin 512) (due : Nat) (s : State), s.isHeld 8 = false ∧ s.engineOn = true ∧ s.pwr.rung = 0 ∧
      s.tb.good = true ∧ (s.tgt (1024 + j.val)).far.retryDue = some due ∧ due ≤ s.tick ∧
      ((s.tgt (1024 + j.val)).pres = none ∨ (s.tgt (1024 + j.val)).far.ready = none)) ∧
    (∃ (j : Fin 512) (s : State), (∀ due, (s.tgt (1024 + j.val)).far.retryDue = some due → s.tick < due)) :=
  ⟨⟨0, 3, 5, { on.putSource 5 { src5 with st := .pending, place := .queued, target := 1024, serving := 1024 } with tgts := [(1024, { svc := .online, queues := [(3, [5])], bits := 8, counts := [(3, 1)], far := { msgAddr := 16 } })] },
    by decide +kernel⟩,
   ⟨3, on.putSource 0x803 src5, by decide +kernel⟩,
   ⟨3, { on with farch := [(3, { credits := 31 })] }, by decide +kernel⟩,
   ⟨3, { on with farch := [(3, { credits := 32 })] }, by decide +kernel⟩,
   ⟨State.reset, by decide +kernel⟩,
   ⟨0, 1024, farWrite, { credits := 2, visit := 0, deficit := [(0, 254)] }, offered, by decide +kernel⟩,
   ⟨3, { on with farch := [(3, { credits := 32 })] }, by decide +kernel⟩,
   ⟨3, [], 0, 5, 49000, farWrite, offered, by decide +kernel⟩,
   ⟨0, 49000, { on with tgts := [(1024, { svc := .online, far := { altMask := 3, retryMax := 9, retryDue := some 49000 } })] },
     by decide +kernel⟩,
   ⟨4, { on with insts := [(4, { created := true })], sweeps := [{ name := .destroy 4, pos := (List.range 64).map fun b => (b, 4160) }] },
     by decide +kernel⟩⟩

theorem witness_SweepsCompleteAndSavesOpen :
    (∃ (t : Fin 1536) (s : State), s.sweepDone (.taker t) = true ∧ (s.tgt t.val).wdrBusy = false) ∧
    (∃ (i : Fin 512) (s : State), s.sweepDone (.stale i) = true ∧
      (∀ p ∈ s.src, p.2.inst = i.val → p.2.place ≠ .withdrawing) ∧ (s.ctx i.val).drain = false) ∧
    (∃ (i : Fin 512) (s : State), s.sweepDone (.freeze i) = true ∧ s.poolWork i.val = false ∧
      (∀ p ∈ s.src, p.2.inst = i.val → p.2.placed = false)) ∧
    (∃ (i : Fin 512) (s : State), s.sweepDone (.drain i) = true ∧ s.busySources i.val = false ∧
      s.poolWork i.val = false ∧ (s.ctx i.val).en = false) ∧
    (∃ (i : Fin 512) (s : State), s.sweepDone (.drain i) = true ∧ s.busySources i.val = false ∧
      s.poolWork i.val = false ∧ (s.ctx i.val).en = true ∧ (s.ctx i.val).oldGen = false) ∧
    (∃ (i : Fin 512) (s : State), s.sweepDone (.destroy i) = true) ∧
    (∃ (i : Fin 512) (w : Sweep) (h : HuskOut) (s : State), s.sweeps.find? (fun w => w.name == .prepare i) = some w ∧
      s.cmd.cdw.xfer = some (.huskOut h) ∧ w.complete = true ∧ h.inst = i.val) ∧
    (∃ (t : Fin 1536) (s : State), s.sweepDone (.taker t) = false) ∧
    (∃ (i : Fin 512) (s : State), s.sweepDone (.stale i) = false) ∧
    (∃ (i : Fin 512) (s : State), s.sweepDone (.freeze i) = false) ∧
    (∃ (i : Fin 512) (s : State), s.sweepDone (.drain i) = false) ∧
    (∃ (i : Fin 512) (s : State), s.sweepDone (.destroy i) = false) ∧
    (∃ (i : Fin 512) (s : State), (∀ w ∈ s.sweeps, w.name = .prepare i → w.complete = false)) :=
  ⟨⟨0, { on with tgts := [(0, { svc := .draining, sweep := true })], sweeps := [{ name := .taker 0, pos := (List.range 64).map fun b => (b, 4160) }] },
    by decide +kernel⟩,
   ⟨4, { on with insts := [(4, { created := true, en := true, gen := 1, oldGen := true })], sweeps := [{ name := .stale 4, pos := (List.range 64).map fun b => (b, 4160) }] },
     by decide +kernel⟩,
   ⟨4, { on with insts := [(4, { created := true, frozen := true, phase := .freezing })], sweeps := [{ name := .freeze 4, pos := (List.range 64).map fun b => (b, 4160) }] },
     by decide +kernel⟩,
   ⟨4, { on with insts := [(4, { created := true, drain := true })], sweeps := [{ name := .drain 4, pos := (List.range 64).map fun b => (b, 4160) }] },
     by decide +kernel⟩,
   ⟨4, { (on.putCtx 4 { created := true, en := true, drain := true }) with sweeps := [swept (.drain 4)] },
     by decide +kernel⟩,
   ⟨4, { on with insts := [(4, { created := true })], sweeps := [{ name := .destroy 4, pos := (List.range 64).map fun b => (b, 4160) }] },
     by decide +kernel⟩,
   ⟨4, { name := .prepare 4, pos := (List.range 64).map fun b => (b, 4160) }, { inst := 4, version := 2, move := false, delta := false, pre := [], srcs := [], half := none, crc := 0xFFFFFFFF, carried := 0, active := 0, tail := 0 }, { on with cmd := { on.cmd with cdw := { q := 2, xfer := some (.huskOut { inst := 4, version := 2, move := false, delta := false, pre := [], srcs := [], half := none, crc := 0xFFFFFFFF, carried := 0, active := 0, tail := 0 }) } }, insts := [(4, { created := true, frozen := true, phase := .frozen, saving := true })], sweeps := [{ name := .prepare 4, pos := (List.range 64).map fun b => (b, 4160) }] },
     by decide +kernel⟩,
   ⟨7, on, by decide +kernel⟩,
   ⟨4, on, by decide +kernel⟩,
   ⟨4, on, by decide +kernel⟩,
   ⟨4, on, by decide +kernel⟩,
   ⟨4, on, by decide +kernel⟩,
   ⟨4, on, by decide +kernel⟩⟩

theorem witness_Audits :
    (∃ (s : State), s.auditMay = true ∧ (s.ldg.auditDue = true ∨ s.ldg.wanted ≠ [] ∨ (s.periodDue = true ∧
      s.pwr.rung = 0))) ∧
    (∃ (s : State), (s.auditMay = false ∨ (s.ldg.auditDue = false ∧ s.ldg.wanted = [] ∧
      (s.periodDue = false ∨ s.pwr.rung ≠ 0)))) ∧
    (∃ (w : Sweep) (s : State), s.sweeps.find? (fun w => w.name == .audit) = some w ∧ w.complete = true ∧
      s.ledgerFails w = [] ∧ (s.cfg.auditCredit = true → s.creditFails = []) ∧ s.ldg.badWords = []) ∧
    (∃ (w : Sweep) (s : State), s.sweeps.find? (fun w => w.name == .audit) = some w ∧ w.complete = true ∧
      s.ledgerFails w ≠ []) ∧
    (∃ (w : Sweep) (s : State), s.sweeps.find? (fun w => w.name == .audit) = some w ∧ w.complete = true ∧
      s.cfg.auditCredit = true ∧ s.creditFails ≠ []) ∧
    (∃ (s : State), (∀ w ∈ s.sweeps, w.name = .audit → w.complete = false)) :=
  ⟨⟨{ on with ldg := { auditDue := true, periodKnown := true, periodStart := 50000 } }, by decide +kernel⟩,
   ⟨{ on with mode := { mode := .quiesce } }, by decide +kernel⟩,
   ⟨{ name := .audit, pos := (List.range 64).map fun b => (b, 4160) }, { on with sweeps := [{ name := .audit, pos := (List.range 64).map fun b => (b, 4160) }], inch := (List.range 16).map fun c => (c, { switchCredits := 64 }) },
     by decide +kernel⟩,
   ⟨swept .audit, { on with ldg := { on.ldg with inst := [(0, { accepted := 5 })] }, sweeps := [swept .audit] },
     by decide +kernel⟩,
   ⟨swept .audit, { on with cfg := { on.cfg with auditCredit := true }, farch := [(0, { credits := 5 })], sweeps := [swept .audit] },
     by decide +kernel⟩,
   ⟨{ on with ldg := { auditDue := true, periodKnown := true, periodStart := 50000 } }, by decide +kernel⟩⟩

theorem witness_ScrubWitnessWalkerAndSeal :
    (∃ (bank : Fin 64) (s : State), s.isHeld 2 = false ∧ s.pwr.rung < 2 ∧ s.scrubDue bank.val = true) ∧
    (∃ (bank : Fin 64) (s : State), s.isHeld 2 = false ∧ s.pwr.rung < 2 ∧ s.scrubDue bank.val = true) ∧
    (∃ (bank : Fin 64) (s : State), s.isHeld 2 = false ∧ s.pwr.rung < 2 ∧ s.scrubDue bank.val = true) ∧
    (∃ (bank : Fin 64) (n : Nat) (s : State), s.isHeld 2 = false ∧ s.pwr.rung < 2 ∧ s.scrubDue bank.val = true ∧
      s.holdsNoMode ∧ s.scrubWord bank.val = .trans n) ∧
    (∃ (bank : Fin 64) (n : Nat) (s : State), s.isHeld 2 = false ∧ s.pwr.rung < 2 ∧ s.scrubDue bank.val = true ∧
      s.holdsNoMode ∧ s.scrubWord bank.val = .page n 0) ∧
    (∃ (bank : Fin 64) (s : State), s.isHeld 2 = false ∧ s.pwr.rung < 2 ∧ s.scrubDue bank.val = true ∧ s.holdsNoMode ∧
      s.scrubWord bank.val = .spare) ∧
    (∃ (bank : Fin 64) (n : Nat) (s : State), s.isHeld 2 = false ∧ s.pwr.rung < 2 ∧ s.scrubDue bank.val = true ∧
      s.holdsNoMode ∧ s.scrubWord bank.val = .record n 0 ∧ (n < 0xE00 ∨ 0x1000 ≤ n) ∧ (s.source n).st = .inactive ∧
      (s.source n).place = .unplaced ∧ (s.source n).drain = false ∧ s.bankQuiet n ∧ s.cellLost n = false) ∧
    (∃ (bank : Fin 64) (n : Nat) (s : State), s.isHeld 2 = false ∧ s.pwr.rung < 2 ∧ s.scrubDue bank.val = true ∧
      s.holdsNoMode ∧ s.scrubWord bank.val = .target n 0 ∧ (s.tgt n).svc = .online) ∧
    (∃ (bank : Fin 64) (n : Nat) (s : State), s.isHeld 2 = false ∧ s.pwr.rung < 2 ∧ s.scrubDue bank.val = true ∧
      s.holdsNoMode ∧ s.scrubWord bank.val = .group n 0 ∧ s.listHeld n = false) ∧
    (∃ (bank : Fin 64) (n : Nat) (s : State), s.isHeld 2 = false ∧ s.pwr.rung < 2 ∧ s.scrubDue bank.val = true ∧
      s.holdsNoMode ∧ s.scrubWord bank.val = .inst n 0 ∧ (s.mode.mode = .start ∨ s.mode.mode = .service)) ∧
    (∃ (bank : Fin 64) (s : State), (s.isHeld 2 = true ∨ 2 ≤ s.pwr.rung ∨ s.scrubDue bank.val = false)) ∧
    (∃ (s : State), s.isHeld 2 = false ∧ s.pwr.rung < 2) ∧
    (∃ (bank : Fin 64) (w : Fin 32768) (n : Nat) (s : State), s.isHeld 2 = false ∧ s.pwr.rung < 2 ∧ s.holdsNoMode ∧
      inkAt (bankAddr bank.val w.val) = .trans n) ∧
    (∃ (s : State), (s.isHeld 2 = true ∨ 2 ≤ s.pwr.rung)) ∧
    (∃ (tc : Int) (s : State), -128 ≤ tc ∧ tc ≤ 127 ∧ s.isHeld 4 = false ∧ s.pwr.rung < 2 ∧ s.tb.good = true ∧
      s.rank.windowStart + 500 ≤ s.tick) ∧
    (∃ (tc : Int) (s : State), -128 ≤ tc ∧ tc ≤ 127 ∧
      (s.isHeld 4 = true ∨ 2 ≤ s.pwr.rung ∨ s.tb.good = false ∨ s.tick < s.rank.windowStart + 500)) ∧
    (∃ (s : State), s.walks = true ∧ s.cfg.latchPend = false ∧ (s.cfg.sealed_ = false ∨ s.passCrc = s.cfg.ref) ∧
      (s.mode.mode ≠ .rebuild ∨ s.sweeping .rebuild = true)) ∧
    (∃ (s : State), s.walks = true ∧ s.cfg.latchPend = false ∧ (s.cfg.sealed_ = false ∨ s.passCrc = s.cfg.ref) ∧
      s.mode.mode = .rebuild ∧ s.sweeping .rebuild = false ∧ s.mode.heldUncont = false ∧ s.mode.heldEsc = false ∧
      s.mode.heldCwr = false ∧ s.pins.esc ≠ 2 ∧ s.pwr.apply < 4) ∧
    (∃ (s : State), s.walks = true ∧ s.cfg.latchPend = false ∧ s.cfg.sealed_ = true ∧ s.passCrc ≠ s.cfg.ref) ∧
    (∃ (s : State), s.walks = true ∧ s.cfg.latchPend = true ∧ s.mode.mode = .start ∧ s.mode.heldUncont = false ∧
      s.mode.heldEsc = false ∧ s.mode.heldCwr = false ∧ s.pins.esc ≠ 2 ∧ s.pwr.apply < 4) ∧
    (∃ (s : State), s.walks = false) ∧
    (∃ (s : State), s.unsealOver = true ∧ s.pwr.rung = 0) ∧
    (∃ (s : State), (s.unsealOver = false ∨ s.pwr.rung ≠ 0)) :=
  ⟨⟨63, { on with scrub := [(63, 32767)] }, by decide +kernel⟩,
   ⟨63, on, by decide +kernel⟩,
   ⟨63, on, by decide +kernel⟩,
   ⟨5, 5, { on with scrub := [(5, 8320)] }, by decide +kernel⟩,
   ⟨5, 5, { on with scrub := [(5, 29824)] }, by decide +kernel⟩,
   ⟨5, { on with scrub := [(5, 31872)] }, by decide +kernel⟩,
   ⟨5, 5, { on with scrub := [(5, 0)] } |> fun s => s.putSource 5 { src5 with inst := 4 }, by decide +kernel⟩,
   ⟨5, 5, { on with scrub := [(5, 26752)], tgts := [(5, { svc := .online })] }, by decide +kernel⟩,
   ⟨5, 5, { on with scrub := [(5, 20608)], groups := [(5, { en := true, thresh := 7 })] }, by decide +kernel⟩,
   ⟨5, 5, { on with scrub := [(5, 24704)] }, by decide +kernel⟩,
   ⟨0, State.reset, by decide +kernel⟩,
   ⟨on, by decide +kernel⟩,
   ⟨5, 8320, 5, { on with trans := [(5, { valid := true })] }, by decide +kernel⟩,
   ⟨State.reset, by decide +kernel⟩,
   ⟨-128, { on with rank := { windowStart := 49500 } }, by decide +kernel⟩,
   ⟨-128, State.reset, by decide +kernel⟩,
   ⟨{ on with cfg := { timed := true, unsealLimit := 1, unsealStart := 49500 } }, by decide +kernel⟩,
   ⟨{ on with mode := { mode := .rebuild }, cfg := { sealed_ := true, walkPos := 12545, walkCrc := 5, ref := 0xFFFFFFFA } },
     by decide +kernel⟩,
   ⟨{ on with cfg := { sealed_ := true, walkPos := 12545, walkCrc := 5 } }, by decide +kernel⟩,
   ⟨{ on with cfg := { sealed_ := true, latchPend := true } }, by decide +kernel⟩,
   ⟨{ on with mode := { mode := .warm }, rst := { on.rst with warm := [.watchdog], held := [3, 4, 5, 6, 7, 8] } },
     by decide +kernel⟩,
   ⟨{ on with cfg := { timed := true, unsealLimit := 1, unsealStart := 49500 } }, by decide +kernel⟩,
   ⟨{ on with cfg := { sealed_ := true, latchPend := true } }, by decide +kernel⟩⟩

theorem witness_DatapathFaultsPortAndLockstep :
    (∃ (s : State), s.corePowered = true) ∧
    (∃ (s : State), s.corePowered = true ∧ s.isHeld 2 = false ∧
      s.mode.mode ∈ [Mode.start, Mode.service, Mode.test, Mode.quiesce, Mode.recovery, Mode.rebuild, Mode.wake]) ∧
    (∃ (s : State), s.corePowered = false) ∧
    (∃ (r : FaultRec) (rest : List FaultRec) (s : State), s.fabOn = true ∧ s.flt.queue = r :: rest ∧
      s.flt.dropsOwed = 0) ∧
    (∃ (r : FaultRec) (rest : List FaultRec) (s : State), s.fabOn = true ∧ s.flt.queue = r :: rest ∧
      0 < s.flt.dropsOwed ∧ rest.length < 16) ∧
    (∃ (s : State), (s.fabOn = false ∨ s.flt.queue = [])) ∧
    (∃ (q : Fin 8) (pair : Fin 4) (p : Packet) (s : State), s.pairOf q.val = some pair.val ∧ s.pairReady q.val = true ∧
      s.withheld q.val = false ∧ (s.queue q.val).cur = some p ∧ p.complete = true ∧ (s.queue q.val).fifo = [] ∧
      s.soonAgain pair.val = false) ∧
    (∃ (q : Fin 8) (pair : Fin 4) (p : Packet) (s : State), s.pairOf q.val = some pair.val ∧ s.pairReady q.val = true ∧
      s.withheld q.val = false ∧ (s.queue q.val).cur = some p ∧ p.complete = true ∧ (s.queue q.val).fifo = [] ∧
      s.soonAgain pair.val = true) ∧
    (∃ (q : Fin 8) (pair : Fin 4) (s : State), ((s.queue q.val).cur = none ∨ s.pairOf q.val ≠ some pair.val ∨ s.pairReady q.val = false ∨ s.withheld q.val = true)) ∧
    (∃ (pair : Fin 4) (x : Nat × Nat) (s : State), s.cmd.pairsRestarting = [x] ∧ x.1 = pair.val) ∧
    (∃ (pair : Fin 4) (x : Nat × Nat) (s : State), s.cmd.pairsRestarting = [x] ∧ x.1 = pair.val) ∧
    (∃ (pair : Fin 4) (s : State), (∀ x ∈ s.cmd.pairsRestarting, x.1 ≠ pair.val)) ∧
    (∃ (g : Nat × Nat × Nat × Nat) (s : State), s.isHeld 3 = false ∧ s.cmd.gates = [g] ∧
      (∀ x ∈ s.undrained, g.2.2.1 ≤ x)) ∧
    (∃ (g : Nat × Nat × Nat × Nat) (s : State), s.isHeld 3 = false ∧ s.cmd.gates = [g] ∧
      (∃ x ∈ s.undrained, x < g.2.2.1)) ∧
    (∃ (s : State), s.isHeld 3 = true) :=
  ⟨⟨on, by decide +kernel⟩,
   ⟨on, by decide +kernel⟩,
   ⟨State.reset, by decide +kernel⟩,
   ⟨{ cls := 5, sev := 1, info := 7 }, [], { on with flt := { queue := [{ cls := 5, sev := 1, info := 7 }] } },
     by decide +kernel⟩,
   ⟨{ cls := 5, sev := 1, info := 7 }, [], { on with flt := { queue := [{ cls := 5, sev := 1, info := 7 }], dropsOwed := 70000 } },
     by decide +kernel⟩,
   ⟨{ on with rcd := { cutPulse := true, writing := some (false, on.snapshot 1) } }, by decide +kernel⟩,
   ⟨0, 0, packet 0x02 0 0 [], run (packet 0x02 0 0 []) on, by decide +kernel⟩,
   ⟨0, 0, packet 2 0 0 [], { run (packet 2 0 0 []) on with cmd := { (run (packet 2 0 0 []) on).cmd with lastRestart := [(0, 40001)] } },
     by decide +kernel⟩,
   ⟨0, 0, on, by decide +kernel⟩,
   ⟨2, (2, 1), { on with cmd := { on.cmd with pairsRestarting := [(2, 1)] } }, by decide +kernel⟩,
   ⟨2, (2, 1), { on with cmd := { on.cmd with pairsRestarting := [(2, 1)] } }, by decide +kernel⟩,
   ⟨2, State.reset, by decide +kernel⟩,
   ⟨(0, 7, 1, 0), { (run (packet 0x40 0 0 [0, 0]) on) with acc := { epoch := 1 }, cmd := { (run (packet 0x40 0 0 [0, 0]) on).cmd with gates := [(0, 7, 1, 0)] } },
     by decide +kernel⟩,
   ⟨(0, 7, 4, 0), { on with cmd := { on.cmd with gates := [(0, 7, 4, 0)] }, acc := { on.acc with epoch := 4 }, bus := { on.bus with outstanding := [(3, ⟨3, 4⟩)] } },
     by decide +kernel⟩,
   ⟨{ on with mode := { mode := .warm }, rst := { on.rst with warm := [.watchdog], held := [3, 4, 5, 6, 7, 8] } },
     by decide +kernel⟩⟩

theorem witness_RecordWrites :
    (∃ (s : State), s.isIdle 1 = false ∧ s.isHeld 2 = false ∧ s.rcd.writing = none ∧ s.writeAsked = true ∧
      s.parkWriteDue = false) ∧
    (∃ (w : Sweep) (s : State), s.isIdle 1 = false ∧ s.isHeld 2 = false ∧ s.rcd.writing = none ∧
      s.parkWriteDue = true ∧ s.sweeps.find? (fun w => w.name == .park) = some w) ∧
    (∃ (s : State), s.isIdle 1 = false ∧ s.isHeld 2 = false ∧ s.rcd.writing = none ∧ s.writeAsked = true ∧
      s.parkWriteDue = false ∧ s.rcd.flushWait = []) ∧
    (∃ (s : State), (s.isIdle 1 = true ∨ s.isHeld 2 = true ∨ s.rcd.writing ≠ none ∨ s.writeAsked = false)) ∧
    (∃ (toB : Bool) (i : Image) (s : State), s.rcd.writing = some (toB, i) ∧ s.rcd.cutPulse = false) ∧
    (∃ (s : State), (s.rcd.writing = none ∨ s.rcd.cutPulse = true)) ∧
    (∃ (toB : Bool) (p : Patch) (n : Nat) (s : State), s.rcd.patchBusy = some (toB, p, n)) ∧
    (∃ (s : State), s.rcd.patchBusy = none) :=
  ⟨⟨{ on with rcd := { flushWait := [3] } }, by decide +kernel⟩,
   ⟨swept .park, { on with mode := { mode := .quiesce }, pwr := { on.pwr with parking := true }, sweeps := [swept .park] },
     by decide +kernel⟩,
   ⟨{ on with rcd := { causeWaits := true } }, by decide +kernel⟩,
   ⟨State.reset, by decide +kernel⟩,
   ⟨true, on.snapshot 1, { on with rcd := { writing := some (true, on.snapshot 1) } }, by decide +kernel⟩,
   ⟨{ on with rcd := { causeWaits := true } }, by decide +kernel⟩,
   ⟨false, { image := [], ver := 1, crc := 2, len := 3, pseq := 4 }, 10, { on with rcd := { patchBusy := some (false, { image := [], ver := 1, crc := 2, len := 3, pseq := 4 }, 10) } },
     by decide +kernel⟩,
   ⟨{ on with rcd := { causeWaits := true } }, by decide +kernel⟩⟩

theorem witness_QuiesceAndPark :
    (∃ (s : State), s.mode.mode = .quiesce ∧ s.pwr.parking = false ∧ s.mode.quiesceTimedOut = false ∧
      s.drainDone = true ∧ (s.pwr.apply < 4 ∨ s.pins.esc = 1)) ∧
    (∃ (s : State), s.mode.mode = .quiesce ∧ s.pwr.parking = false ∧ s.mode.quiesceTimedOut = false ∧
      s.drainDone = true ∧ 4 ≤ s.pwr.apply ∧ s.pins.esc ≠ 1) ∧
    (∃ (s : State), (s.mode.mode ≠ .quiesce ∨ s.pwr.parking = true ∨ s.mode.quiesceTimedOut = true ∨ s.drainDone = false)) ∧
    (∃ (s : State), s.mode.mode = .quiesce ∧ s.mode.drained = false ∧ s.mode.quiesceTimedOut = false ∧
      s.elapsed s.mode.quiesceStart (500 * s.cfg.quiesceLimit) = true) ∧
    (∃ (s : State), (s.mode.mode ≠ .quiesce ∨ s.mode.drained = true ∨ s.mode.quiesceTimedOut = true ∨ s.elapsed s.mode.quiesceStart (500 * s.cfg.quiesceLimit) = false)) ∧
    (∃ (s : State), s.mode.mode = .quiesce ∧ s.pwr.parking = true ∧ s.rcd.parkWrite = true ∧ s.rcd.writing = none) ∧
    (∃ (s : State), (s.pwr.parking = false ∨ s.rcd.parkWrite = false ∨ s.rcd.writing ≠ none)) ∧
    (∃ (k : WakeSrc) (s : State), s.mode.mode = .park ∧ wakesFrom s.pwr.rung k = true) ∧
    (∃ (k : WakeSrc) (s : State), (s.mode.mode ≠ .park ∨ wakesFrom s.pwr.rung k = false)) ∧
    (∃ (s : State), s.pwr.pokCore = false ∧ ColdSrc.pokCore ∉ s.rst.cold) ∧
    (∃ (s : State), (s.pwr.pokCore = true ∨ ColdSrc.pokCore ∈ s.rst.cold)) ∧
    (∃ (s : State), s.rst.checking = true) ∧
    (∃ (s : State), s.rst.checking = false) :=
  ⟨⟨{ on with mode := { mode := .quiesce } }, by decide +kernel⟩,
   ⟨{ on with mode := { mode := .quiesce }, pwr := { pin := 4, sw := 4, confirm := true } }, by decide +kernel⟩,
   ⟨{ on with mode := { mode := .quiesce }, pwr := { pin := 5, sw := 5, confirm := true, parking := true }, rcd := { parkWrite := true } },
     by decide +kernel⟩,
   ⟨{ on with mode := { mode := .quiesce }, pwr := { pin := 5, sw := 5, confirm := true, parking := true }, rcd := { parkWrite := true } },
     by decide +kernel⟩,
   ⟨{ on with pwr := { pokCore := false }, rst := { on.rst with needCheck := true } }, by decide +kernel⟩,
   ⟨{ on with mode := { mode := .quiesce }, pwr := { pin := 5, sw := 5, confirm := true, parking := true }, rcd := { parkWrite := true } },
     by decide +kernel⟩,
   ⟨{ on with rst := { on.rst with checking := true, needCheck := true } }, by decide +kernel⟩,
   ⟨.wakeLine, { on with mode := { mode := .park }, pwr := { rung := 5 } }, by decide +kernel⟩,
   ⟨.latch, { on with pwr := { pin := 3, sw := 3, rung := 3 } }, by decide +kernel⟩,
   ⟨{ on with pwr := { pokCore := false }, rst := { on.rst with needCheck := true } }, by decide +kernel⟩,
   ⟨{ on with rst := { on.rst with checking := true, needCheck := true } }, by decide +kernel⟩,
   ⟨{ on with rst := { on.rst with checking := true, needCheck := true } }, by decide +kernel⟩,
   ⟨on, by decide +kernel⟩⟩

theorem witness_Rungs :
    (∃ (s : State), s.pwr.rung = 0 ∧ 1 ≤ s.pwr.apply ∧ s.pwr.apply ≤ 3 ∧ s.mayEnter s.pwr.apply = true) ∧
    (∃ (s : State), (s.pwr.rung ≠ 0 ∨ s.pwr.apply = 0 ∨ 3 < s.pwr.apply ∨ s.mayEnter s.pwr.apply = false)) ∧
    (∃ (k : WakeSrc) (s : State), 1 ≤ s.pwr.rung ∧ s.pwr.rung ≤ 3 ∧ wakesFrom s.pwr.rung k = true) ∧
    (∃ (k : WakeSrc) (s : State), (s.pwr.rung = 0 ∨ 3 < s.pwr.rung ∨ wakesFrom s.pwr.rung k = false)) ∧
    (∃ (s : State), 1 ≤ s.pwr.rung ∧ s.pwr.rung ≤ 3 ∧ s.tb.good = true ∧
      (s.endWithin (exitTicks s.pwr.rung) = true ∨ (∃ d ∈ s.dueTicks, d ≤ s.tick + exitTicks s.pwr.rung))) ∧
    (∃ (s : State), (s.pwr.rung = 0 ∨ 3 < s.pwr.rung ∨ s.tb.good = false ∨ (s.endWithin (exitTicks s.pwr.rung) = false ∧ ∀ d ∈ s.dueTicks, s.tick + exitTicks s.pwr.rung < d))) ∧
    (∃ (s : State), s.pwr.alarmEn = true ∧ s.tb.good = true ∧ s.pwr.stopped = false ∧ s.pwr.alarm ≤ s.tick) ∧
    (∃ (s : State), (s.pwr.alarmEn = false ∨ s.tb.good = false ∨ s.pwr.stopped = true ∨ s.tick < s.pwr.alarm)) :=
  ⟨⟨{ on with pwr := { pin := 2, sw := 2 } }, by decide +kernel⟩,
   ⟨{ on with pwr := { alarmEn := true, alarm := 50000 } }, by decide +kernel⟩,
   ⟨.latch, { on with pwr := { pin := 3, sw := 3, rung := 3 } }, by decide +kernel⟩,
   ⟨.wakeLine, { on with mode := { mode := .park }, pwr := { rung := 5 } }, by decide +kernel⟩,
   ⟨{ on with pwr := { on.pwr with rung := 1 }, tgts := [(1024, { svc := .online, far := { retryDue := some 50001 } })] },
     by decide +kernel⟩,
   ⟨{ on with pwr := { alarmEn := true, alarm := 50000 } }, by decide +kernel⟩,
   ⟨{ on with pwr := { alarmEn := true, alarm := 50000 } }, by decide +kernel⟩,
   ⟨{ on with pwr := { pin := 2, sw := 2 } }, by decide +kernel⟩⟩

theorem witness_RegisterReadsAndRefusals :
    (∃ (b : BusReq) (r : RegAt) (s : State), s.grants b false false r ∧ readIs b ownRead = false ∧
      (b.size8 = true ∨ r.wideOnly = false)) ∧
    (∃ (b : BusReq) (r : RegAt) (s : State), s.grants b false true r) ∧
    (∃ (b : BusReq) (n : Nat) (s : State), s.grants b false false (.target n 0x104) ∧ b.size8 = false) ∧
    (∃ (b : BusReq) (s : State), s.grants b false false (.global 7 0)) ∧
    (∃ (b : BusReq) (s : State), s.grants b false false (.global 2 0x54) ∧ b.size8 = false) ∧
    (∃ (b : BusReq) (r : RegAt), (decodeAddr (reqAddr b)).reg = r ∧ (decodeAddr (reqAddr b)).masked = false ∧
      b.size8 = false ∧ ownRead r = false) ∧
    (∃ (b : BusReq) (r : RegAt), (decodeAddr (reqAddr b)).reg = r ∧ (decodeAddr (reqAddr b)).masked = false ∧
      ownRead r = true) ∧
    (∃ (b : BusReq) (s : State), s.portOn = true ∧ s.portShut = false ∧ s.pwr.rung = 0 ∧
      (∀ x ∈ s.bus.outstanding, x.1 ≠ b.tag.toNat) ∧ s.accepts 0 = true ∧ readIs b ownRead = false ∧
      badShape b false (decodeAddr (reqAddr b)) = false ∧
      (s.judge b.master.toNat b.priv false false (reqAddr b) (decodeAddr (reqAddr b)).slot (defaultWritable (decodeAddr (reqAddr b)).reg)).ok = false) ∧
    (∃ (b : BusReq) (s : State), s.portOn = true ∧ s.portShut = true ∧ readIs b ownRead = false) ∧
    (∃ (s : State), (s.portOn = false ∨ (s.portShut = false ∧ s.accepts 0 = false))) :=
  ⟨⟨req 0x4000 true 0, .global 4 0, { on with bus := { outstanding := [(4, ⟨0, 4⟩)] } }, by decide +kernel⟩,
   ⟨req 0x804000 false 0, .global 4 0, on, by decide +kernel⟩,
   ⟨req 0x100104 false 0, 0, { on with tgts := [(0, { queues := [(3, [5])] })] }, by decide +kernel⟩,
   ⟨req 0x7000 true 0, on, by decide +kernel⟩,
   ⟨req 0x2054 false 0, { on with acc := { slotSel := 3, slots := [(3, 77)] } }, by decide +kernel⟩,
   ⟨req 0x4000 false 0, .global 4 0, by decide +kernel⟩,
   ⟨req 0x1008 true 0, .global 1 8, by decide +kernel⟩,
   ⟨{ req 0x4000 false 0 with priv := false }, on, by decide +kernel⟩,
   ⟨req 0x4000 false 0, { on with rst := { on.rst with held := [3] } }, by decide +kernel⟩,
   ⟨granted 4 ({ on with pins := { on.pins with mbOk := false } }), by decide +kernel⟩⟩

theorem witness_RegisterWrites :
    (∃ (b : BusReq) (s : State), s.takesWrite b (.global 4 8)) ∧
    (∃ (b : BusReq) (s : State), s.takesWrite b (.global 4 0xC)) ∧
    (∃ (b : BusReq) (s : State), s.takesWrite b (.global 6 0x14)) ∧
    (∃ (b : BusReq) (c : Nat) (s : State), c ∈ promoting ∧ s.takesWrite b (.global 6 (0x180 + 4 * c))) ∧
    (∃ (b : BusReq) (s : State), s.takesWrite b (.global 5 0x60)) ∧
    (∃ (b : BusReq) (s : State), s.takesWrite b (.global 5 0x80)) ∧
    (∃ (b : BusReq) (s : State), s.takesWrite b (.global 4 0x90)) ∧
    (∃ (b : BusReq) (s : State), s.takesWrite b (.global 4 0x94)) ∧
    (∃ (b : BusReq) (s : State), s.takesWrite b (.global 4 0x98)) ∧
    (∃ (b : BusReq) (s : State), s.takesWrite b (.global 2 0x50)) ∧
    (∃ (b : BusReq) (s : State), s.takesWrite b (.global 5 0)) ∧
    (∃ (b : BusReq) (r : RegAt) (s : State), s.takesWrite b r ∧ r.row = .plain ∧ r.configMask = 0 ∧
      r ∉ [RegAt.global 4 0x90, .global 4 0x94, .global 4 0x98, .global 2 0x50, .global 5 0]) ∧
    (∃ (b : BusReq) (r : RegAt) (s : State), s.grants b true false r ∧ b.size8 = false ∧ r.row = .plain ∧
      s.cfg.sealed_ = true ∧ r.configMask ≠ 0) ∧
    (∃ (b : BusReq) (s : State), s.grants b true true (.global 4 0x90)) ∧
    (∃ (b : BusReq) (r : RegAt) (s : State), s.grants b true true r ∧ s.cfg.sealed_ = true ∧
      r.configMask &&& fld b.data 32 32 ≠ 0) ∧
    (∃ (b : BusReq) (s : State), s.takesWrite b (.global 2 0x14)) ∧
    (∃ (b : BusReq) (s : State), s.takesWrite b (.global 2 0x30)) ∧
    (∃ (b : BusReq) (s : State), s.takesWrite b (.global 6 0)) ∧
    (∃ (b : BusReq) (s : State), s.takesWrite b (.global 4 0)) ∧
    (∃ (b : BusReq) (s : State), s.takesWrite b (.global 4 0x84)) ∧
    (∃ (b : BusReq) (s : State), s.takesWrite b (.global 5 0x64)) ∧
    (∃ (b : BusReq) (k : Nat) (s : State), s.takesWrite b (.lineStat k)) ∧
    (∃ (b : BusReq) (n : Nat) (s : State), s.takesWrite b (.target n 0x110)) ∧
    (∃ (b : BusReq) (i : Nat) (s : State), s.takesWrite b (.inst i 0x20)) ∧
    (∃ (c : Instr) (k : WriteRow) (b : BusReq) (r : RegAt) (s : State), (c, k) ∈ [(Instr.registerWrite b, WriteRow.plain), (.sequenceWrite b, .sequence), (.glbModeReqWrite b, .modeReq), (.lineCfgWrite b, .lineCfg), (.unsealLimitWrite b, .unsealLimit), (.ldgSnapTake b, .ldgSnap), (.tgtTakeWrite b, .take), (.tgtDoneWrite b, .done), (.tgtRunlvlWrite b, .runlvl), (.tgtResInstWrite b, .resInst), (.instDoorbellWrite b, .doorbell), (.cqResync b, .resync)] ∧ writeIs b k = true ∧ s.grants b true false r ∧ b.size8 = true ∧ r.cmdFifo = none ∧ r.isCdw = false ∧ s.cfg.sealed_ = false) ∧
    (∃ (c : Instr) (k : WriteRow) (b : BusReq), (c, k) ∈ [(Instr.registerWrite b, WriteRow.plain), (.sequenceWrite b, .sequence), (.glbModeReqWrite b, .modeReq), (.lineCfgWrite b, .lineCfg), (.unsealLimitWrite b, .unsealLimit), (.ldgSnapTake b, .ldgSnap), (.tgtTakeWrite b, .take), (.tgtDoneWrite b, .done), (.tgtRunlvlWrite b, .runlvl), (.tgtResInstWrite b, .resInst), (.instDoorbellWrite b, .doorbell), (.cqResync b, .resync)] ∧ writeIs b k = false) :=
  ⟨⟨req 0x4008 false 16, { on with acc := { slots := [(4, 2 ^ 47 + 2 ^ 45)] } }, by decide +kernel⟩,
   ⟨req 0x400C false 0, granted 4 (on), by decide +kernel⟩,
   ⟨req 0x6014 false 1023, granted 6 (on), by decide +kernel⟩,
   ⟨req 0x6194 false 7, 5, granted 6 (on), by decide +kernel⟩,
   ⟨req 0x5060 false 0x45, granted 5 (on), by decide +kernel⟩,
   ⟨req 0x5080 false 0x45, granted 5 (on), by decide +kernel⟩,
   ⟨req 0x4090 false 0xFFFFFFFF, { on with acc := { slots := [(4, 2 ^ 47 + 2 ^ 45)] } }, by decide +kernel⟩,
   ⟨req 0x4094 false 5, granted 4 (on), by decide +kernel⟩,
   ⟨req 0x4098 false 1, granted 4 (on), by decide +kernel⟩,
   ⟨req 0x2050 false 0x804, granted 2 (on), by decide +kernel⟩,
   ⟨req 0x5000 false 3, granted 5 (on), by decide +kernel⟩,
   ⟨req 0 false 16, .global 0 0, granted 0 on, by decide +kernel⟩,
   ⟨req 0x400C false 9, .global 4 0xC, granted 4 ({ on with cfg := { on.cfg with sealed_ := true } }), by decide +kernel⟩,
   ⟨req 0x804090 true 0x0000FF0012345678, { on with acc := { slots := [(4, 2 ^ 47 + 2 ^ 45)] } }, by decide +kernel⟩,
   ⟨req 0x80400C true 0x0000FFFF00000009, .global 4 0xC, granted 4 ({ on with cfg := { on.cfg with sealed_ := true } }),
     by decide +kernel⟩,
   ⟨req 0x2014 false 0x07000000, { on with acc := { slots := [(2, 2 ^ 47 + 2 ^ 45)], violSeq := 7, violValid := true } },
     by decide +kernel⟩,
   ⟨req 0x2030 false 0x04000000, granted 2 ({ on with acc := { on.acc with noteSeq := 4 } }), by decide +kernel⟩,
   ⟨req 0x6000 false 0x04000000, granted 6 ({ on with flt := { on.flt with seq := 4 } }), by decide +kernel⟩,
   ⟨req 0x4000 false 0x04000000, granted 4 ({ on with rst := { on.rst with causeSeq := 4 } }), by decide +kernel⟩,
   ⟨req 0x4084 false 0x04000000, granted 4 ({ on with pwr := { on.pwr with wakeSeq := 4 } }), by decide +kernel⟩,
   ⟨req 0x5064 false 0x04000000, granted 5 ({ on with ldg := { on.ldg with statSeq := 4 } }), by decide +kernel⟩,
   ⟨req 0x22014 false 0x04000000, 5, granted 10 (on), by decide +kernel⟩,
   ⟨req 0x100110 false 0, 0, granted 2048 (on), by decide +kernel⟩,
   ⟨req 0x1040020 false 0, 4, granted 3588 (on), by decide +kernel⟩,
   ⟨.registerWrite (req 0x4008 true 16), .plain, req 0x4008 true 16, .global 4 8, granted 4 (on), by decide +kernel⟩,
   ⟨.registerWrite (req 0x4000 false 16), .plain, req 0x4000 false 16, by decide +kernel⟩⟩

theorem witness_ModeLineAndLedgerWrites :
    (∃ (b : BusReq) (m : Mode) (s : State), s.takesWrite b (.global 0 4) ∧ fld b.data 4 4 ∈ [3, 4, 5, 7] ∧
      s.modeFor (fld b.data 4 4) = some m ∧ m ≠ s.mode.mode ∧ s.mode.heldUncont = false ∧ s.mode.heldEsc = false ∧
      s.mode.heldCwr = false ∧ s.pins.esc ≠ 2 ∧ s.pwr.apply < 4) ∧
    (∃ (b : BusReq) (s : State), s.takesWrite b (.global 0 4) ∧ fld b.data 4 4 ≠ 15 ∧
      (fld b.data 4 4 ∈ [3, 4, 5, 7] → s.modeFor (fld b.data 4 4) = none)) ∧
    (∃ (b : BusReq) (s : State), s.takesWrite b (.global 0 4) ∧ fld b.data 4 4 = 15) ∧
    (∃ (b : BusReq) (k : Nat) (s : State), s.takesWrite b (.lineCfg k) ∧ s.bankFull k = false ∧
      s.withdrawing k = false ∧ s.isStale k = false) ∧
    (∃ (b : BusReq) (k : Nat) (s : State), s.takesWrite b (.lineCfg k) ∧ s.isStale k = false ∧ s.bankFull k = false ∧
      s.withdrawing k = true) ∧
    (∃ (b : BusReq) (k : Nat) (s : State), s.takesWrite b (.lineCfg k) ∧ s.isStale k = false ∧ s.bankFull k = true) ∧
    (∃ (b : BusReq) (s : State), s.takesWrite b (.global 0 0x2C)) ∧
    (∃ (b : BusReq) (s : State), s.takesWrite b (.global 5 4)) :=
  ⟨⟨req 0x4 false 0x70, .quiesce, on, by decide +kernel⟩,
   ⟨req 0x4 false 0x40, on, by decide +kernel⟩,
   ⟨req 0x4 false 0xF0, granted 0 (on), by decide +kernel⟩,
   ⟨req 0x20014 false 2, 5, { on with acc := { slots := [(8, 2 ^ 47 + 2 ^ 45)] } }, by decide +kernel⟩,
   ⟨req 0x20014 false 2, 5, granted 8 (leaving .disable), by decide +kernel⟩,
   ⟨req 0x20014 false 2, 5, granted 8 ({ on with parked := (List.range 16).map fun _ => (5, .deassertion) }),
     by decide +kernel⟩,
   ⟨req 0x2C false 1, { on with cfg := { timed := true, unsealStart := 49500 } }, by decide +kernel⟩,
   ⟨req 0x5004 false 1, { on with acc := { slots := [(5, 2 ^ 47 + 2 ^ 45)] } }, by decide +kernel⟩⟩

theorem witness_HotWrites :
    (∃ (b : BusReq) (n : Nat) (s : State), s.takesWrite b (.target n 0) ∧ (s.shownReg n).2 = true ∧
      fld b.data 24 8 = (s.tgt n).pseq) ∧
    (∃ (b : BusReq) (n : Nat) (s : State), s.takesWrite b (.target n 0) ∧
      ((s.shownReg n).2 = false ∨ fld b.data 24 8 ≠ (s.tgt n).pseq)) ∧
    (∃ (b : BusReq) (n : Nat) (s : State), s.takesWrite b (.target n 4)) ∧
    (∃ (b : BusReq) (n : Nat) (s : State), s.takesWrite b (.target n 8) ∧ n < 1024 ∧ (s.tgt n).path = true) ∧
    (∃ (b : BusReq) (n : Nat) (s : State), s.takesWrite b (.target n 8) ∧ (1024 ≤ n ∨ (s.tgt n).path = false)) ∧
    (∃ (b : BusReq) (n : Nat) (s : State), s.takesWrite b (.target n 0xC) ∧ (s.tgt n).virt = true) ∧
    (∃ (b : BusReq) (n : Nat) (s : State), s.takesWrite b (.target n 0xC) ∧ (s.tgt n).virt = false) ∧
    (∃ (b : BusReq) (i : Nat) (s : State), s.takesWrite b (.inst i 0x40)) :=
  ⟨⟨req 0x100000 false 0x04000000, 0, { shown.onTgt 0 (fun c => { c with path := true }) with acc := { slots := [(0x800, 2 ^ 47 + 2 ^ 45)] } },
    by decide +kernel⟩,
   ⟨req 0x100000 false 0x05000000, 0, { shown.onTgt 0 (fun c => { c with path := true }) with acc := { slots := [(0x800, 2 ^ 47 + 2 ^ 45)] } },
     by decide +kernel⟩,
   ⟨req 0x100004 false 5, 0, { shown with acc := { slots := [(0x800, 2 ^ 47 + 2 ^ 45)] } }, by decide +kernel⟩,
   ⟨req 0x100008 false 65, 0, { shown.onTgt 0 (fun c => { c with path := true }) with acc := { slots := [(0x800, 2 ^ 47 + 2 ^ 45)] } },
     by decide +kernel⟩,
   ⟨req 0x100008 false 65, 0, granted 2048 (on), by decide +kernel⟩,
   ⟨req 0x10000C false 511, 0, { shown.onTgt 0 (fun c => { c with virt := true }) with acc := { slots := [(0x800, 2 ^ 47 + 2 ^ 45)] } },
     by decide +kernel⟩,
   ⟨req 0x10000C false 511, 0, granted 2048 (on), by decide +kernel⟩,
   ⟨req 0x1000040 false 1023, 0, { on with acc := { slots := [(0xE00, 2 ^ 47 + 2 ^ 45)] } }, by decide +kernel⟩⟩

theorem witness_HotWriteApplies :
    (∃ (n : Nat) (v : Nat) (j : Judged) (hs : List HotWrite) (s : State), s.isHeld 3 = false ∧ s.pwr.rung < 2 ∧
      s.cmd.gates = [] ∧ s.bus.hotq = .runlvl n v j :: hs ∧ (s.tgt n).path = true) ∧
    (∃ (n : Nat) (v : Nat) (j : Judged) (hs : List HotWrite) (s : State), s.isHeld 3 = false ∧ s.pwr.rung < 2 ∧
      s.cmd.gates = [] ∧ s.bus.hotq = .runlvl n v j :: hs ∧ (s.tgt n).path = false) ∧
    (∃ (n : Nat) (i : Nat) (j : Judged) (hs : List HotWrite) (s : State), s.isHeld 3 = false ∧ s.pwr.rung < 2 ∧
      s.cmd.gates = [] ∧ s.bus.hotq = .resInst n i j :: hs ∧ (s.tgt n).virt = true) ∧
    (∃ (n : Nat) (i : Nat) (j : Judged) (hs : List HotWrite) (s : State), s.isHeld 3 = false ∧ s.pwr.rung < 2 ∧
      s.cmd.gates = [] ∧ s.bus.hotq = .resInst n i j :: hs ∧ (s.tgt n).virt = false) ∧
    (∃ (n : Nat) (e : Nat) (sq : Nat) (j : Judged) (hs : List HotWrite) (s : State), s.isHeld 3 = false ∧
      s.pwr.rung < 2 ∧ s.cmd.gates = [] ∧ s.bus.hotq = .take n sq j :: hs ∧ n < 1024 ∧ (s.tgt n).pseq = sq ∧
      (s.tgt n).held = true ∧ (s.tgt n).pres = some e ∧ (s.source e).place = .presented ∧ (s.source e).st = .pending ∧
      s.isStale e = false ∧ s.bankFull e = false ∧ s.bankQuiet e) ∧
    (∃ (n : Nat) (e : Nat) (sq : Nat) (j : Judged) (hs : List HotWrite) (s : State), s.isHeld 3 = false ∧
      s.pwr.rung < 2 ∧ s.cmd.gates = [] ∧ s.bus.hotq = .take n sq j :: hs ∧ n < 1024 ∧ (s.tgt n).pseq = sq ∧
      (s.tgt n).held = true ∧ (s.tgt n).pres = some e ∧ (s.source e).place = .withdrawing) ∧
    (∃ (n : Nat) (e : Nat) (j : Judged) (hs : List HotWrite) (s : State), s.isHeld 3 = false ∧ s.pwr.rung < 2 ∧
      s.cmd.gates = [] ∧ s.bus.hotq = .done n e j :: hs ∧ e < 0x41000 ∧ s.bankFull e = false ∧
      (s.source e).st = .active ∧ (s.source e).place = .unplaced ∧ (s.source e).taker = n ∧
      (s.source e).level = false ∧ (s.source e).drain = false ∧ s.isStale e = false) ∧
    (∃ (i : Nat) (n : Nat) (m : Nat) (j : Judged) (p : Bool) (hs : List HotWrite) (s : State), s.isHeld 3 = false ∧
      s.pwr.rung < 2 ∧ s.cmd.gates = [] ∧ s.bus.hotq = .doorbell i n m p j :: hs ∧ s.intakeShut = true ∧
      s.bus.bells.length < 32) ∧
    (∃ (i : Nat) (n : Nat) (m : Nat) (j : Judged) (p : Bool) (hs : List HotWrite) (s : State), s.isHeld 3 = false ∧
      s.pwr.rung < 2 ∧ s.cmd.gates = [] ∧ s.bus.hotq = .doorbell i n m p j :: hs ∧ s.intakeShut = true ∧
      32 ≤ s.bus.bells.length) ∧
    (∃ (i : Nat) (n : Nat) (m : Nat) (j : Judged) (p : Bool) (hs : List HotWrite) (s : State), s.isHeld 3 = false ∧
      s.pwr.rung < 2 ∧ s.cmd.gates = [] ∧ s.bus.hotq = .doorbell i n m p j :: hs ∧ s.intakeShut = false ∧
      s.bankFull (0xA00 + n) = false ∧ s.isStale (0xA00 + n) = false ∧ (s.source (0xA00 + n)).st = .inactive ∧
      (s.source (0xA00 + n)).place = .unplaced ∧ (s.source (0xA00 + n)).inst = i ∧
      (s.source (0xA00 + n)).enabled = true ∧ (s.ctx i).serving = true) ∧
    (∃ (s : State), (s.isHeld 3 = true ∨ s.bus.hotq = [])) :=
  ⟨⟨0, 7, ⟨0, 4⟩, [], { on with bus := { hotq := [.runlvl 0 7 ⟨0, 4⟩], frontRun := [(0, some 7)] }, tgts := [(0, { path := true })] },
    by decide +kernel⟩,
   ⟨0, 7, ⟨0, 4⟩, [], { on with bus := { hotq := [.runlvl 0 7 ⟨0, 4⟩], frontRun := [(0, some 7)] } }, by decide +kernel⟩,
   ⟨0, 4, ⟨0, 4⟩, [], { on with bus := { hotq := [.resInst 0 4 ⟨0, 4⟩], frontRes := [(0, some 4)] }, tgts := [(0, { virt := true })] },
     by decide +kernel⟩,
   ⟨0, 4, ⟨0, 4⟩, [], { on with bus := { on.bus with hotq := [.resInst 0 4 ⟨0, 4⟩] } }, by decide +kernel⟩,
   ⟨0, 5, 4, ⟨0, 4⟩, [], { shown.onTgt 0 (fun c => { c with path := true }) with bus := { hotq := [.take 0 4 ⟨0, 4⟩] } },
     by decide +kernel⟩,
   ⟨0, 5, 4, ⟨0, 4⟩, [], { leaving .disable with bus := { on.bus with hotq := [.take 0 4 ⟨0, 4⟩] } }, by decide +kernel⟩,
   ⟨0, 5, ⟨0, 4⟩, [], { on.putSource 5 { src5 with st := .active } with bus := { on.bus with hotq := [.done 0 5 ⟨0, 4⟩] } },
     by decide +kernel⟩,
   ⟨0, 5, 1, ⟨0, 4⟩, true, [], { on with rst := { on.rst with held := [6] }, bus := { hotq := [.doorbell 0 5 1 true ⟨0, 4⟩] } },
     by decide +kernel⟩,
   ⟨0, 5, 0, ⟨0, 4⟩, false, [], { on with rst := { on.rst with held := [6] }, bus := { on.bus with hotq := [.doorbell 0 5 0 false ⟨0, 4⟩], bells := (List.range 32).map fun k => { inst := 0, swev := k, master := 0, priv := false } } },
     by decide +kernel⟩,
   ⟨0, 5, 1, ⟨0, 4⟩, true, [], { on.putSource 0xA05 src5 with bus := { hotq := [.doorbell 0 5 1 true ⟨0, 4⟩] } },
     by decide +kernel⟩,
   ⟨{ on with bus := { outstanding := [(3, ⟨0, 4⟩)] } }, by decide +kernel⟩⟩

theorem witness_QueuePorts :
    (∃ (b : BusReq) (q : Nat) (s : State), q < 8 ∧ s.grants b true false (.global 1 (16 * q)) ∧ b.size8 = true ∧
      s.pwr.rung = 0 ∧ s.mode.mode ≠ .park ∧ s.pwr.parking = false ∧ (s.queue q).discarding = false ∧
      (s.queue q).fifo = [] ∧ (s.queue q).cur = none ∧ s.pairReady q = true ∧ s.quiescing 3 = false ∧
      (s.queue q).late = [] ∧ (s.queue q).rpl.length < 512 ∧ (s.cmd.cdw.owned = false ∨ s.cmd.cdw.q ≠ q) ∧
      ((catRow (hdrOpcode b.data)).isSome = true ∨ 0 < hdrLen b.data)) ∧
    (∃ (b : BusReq) (q : Nat) (s : State), q < 8 ∧ s.grants b true false (.global 1 (16 * q)) ∧ b.size8 = true ∧
      s.pwr.rung = 0 ∧ s.mode.mode ≠ .park ∧ s.pwr.parking = false ∧ (s.queue q).discarding = false ∧
      (s.queue q).fifo = [] ∧ (s.queue q).cur = none ∧ s.pairReady q = true ∧ s.quiescing 3 = false ∧
      (s.queue q).late = [] ∧ (s.queue q).rpl.length < 512 ∧ (s.cmd.cdw.owned = false ∨ s.cmd.cdw.q ≠ q) ∧
      (catRow (hdrOpcode b.data)).isSome = false ∧ hdrLen b.data = 0) ∧
    (∃ (b : BusReq) (q : Nat) (p : Packet) (s : State), q < 8 ∧ s.grants b true false (.global 1 (16 * q)) ∧
      b.size8 = true ∧ s.pwr.rung = 0 ∧ s.mode.mode ≠ .park ∧ s.pwr.parking = false ∧ (s.queue q).discarding = false ∧
      (s.queue q).fifo = [] ∧ (s.queue q).cur = some p ∧ p.complete = false ∧ (catRow (hdrOpcode p.hdr)).isSome = true) ∧
    (∃ (b : BusReq) (q : Nat) (s : State), q < 8 ∧ s.grants b true false (.global 1 (16 * q)) ∧ b.size8 = true ∧
      s.pwr.rung = 0 ∧ s.mode.mode ≠ .park ∧ s.pwr.parking = false ∧ (s.queue q).discarding = true) ∧
    (∃ (b : BusReq) (q : Nat) (s : State), q < 8 ∧ s.grants b true false (.global 1 (16 * q)) ∧ b.size8 = true ∧
      s.pwr.rung = 0 ∧ s.mode.mode ≠ .park ∧ s.pwr.parking = false ∧ (s.queue q).discarding = false ∧
      512 ≤ (s.queue q).fifo.length ∧ (s.queue q).cur = none) ∧
    (∃ (b : BusReq) (q : Nat) (s : State) (p : Packet), q < 8 ∧ s.grants b true false (.global 1 (16 * q)) ∧
      b.size8 = true ∧ s.pwr.rung = 0 ∧ s.mode.mode ≠ .park ∧ s.pwr.parking = false ∧ (s.queue q).discarding = false ∧
      512 ≤ (s.queue q).fifo.length ∧ (s.queue q).cur = some p ∧ p.complete = false ∧ (s.queue q).late = [] ∧
      (s.queue q).rpl.length < 512) ∧
    (∃ (b : BusReq) (q : Nat) (s : State), q < 8 ∧ s.grants b true false (.global 1 (16 * q)) ∧ b.size8 = false ∧
      b.posted = true ∧ s.pwr.rung = 0 ∧ s.mode.mode ≠ .park ∧ s.pwr.parking = false) ∧
    (∃ (b : BusReq) (q : Nat) (w : BitVec 64) (ws : List (BitVec 64)) (s : State), q < 8 ∧
      s.grants b false false (.global 1 (16 * q + 8)) ∧ b.size8 = true ∧ (s.queue q).rpl = w :: ws ∧
      (s.queue q).late = [] ∧ (s.queue q).fifo = [] ∧ (s.queue q).cur = none) ∧
    (∃ (b : BusReq) (q : Nat) (s : State), q < 8 ∧ s.grants b false false (.global 1 (16 * q + 8)) ∧ b.size8 = true ∧
      (s.queue q).rpl = []) ∧
    (∃ (b : BusReq) (q : Nat) (s : State), q < 8 ∧ s.takesWrite b (.global 1 (0xA0 + 4 * q)) ∧ fld b.data 0 1 = 0) ∧
    (∃ (b : BusReq) (q : Nat) (s : State), q < 8 ∧ s.takesWrite b (.global 1 (0xA0 + 4 * q)) ∧ fld b.data 0 1 = 1 ∧
      (s.queue q).cur = none) ∧
    (∃ (b : BusReq) (q : Nat) (s : State) (p : Packet), q < 8 ∧ s.takesWrite b (.global 1 (0xA0 + 4 * q)) ∧
      fld b.data 0 1 = 1 ∧ (s.queue q).cur = some p ∧ p.complete = false ∧ (s.queue q).late = [] ∧
      (s.queue q).rpl.length < 512) :=
  ⟨⟨req 0x1000 true 0x0000000080000701, 0, on, by decide +kernel⟩,
   ⟨req 0x1000 true 0x0000000000000703, 0, granted 1 (on), by decide +kernel⟩,
   ⟨req 0x1000 true 9, 0, { packet 0x01 0 0 [1, 2] with words := [1] }, run { packet 0x01 0 0 [1, 2] with words := [1] } on,
     by decide +kernel⟩,
   ⟨req 0x1000 true 9, 0, on.onQueue 0 fun c => { c with discarding := true }, by decide +kernel⟩,
   ⟨req 0x1000 true 9, 0, on.onQueue 0 fun c => { c with fifo := List.replicate 512 0 }, by decide +kernel⟩,
   ⟨req 0x1000 true 9, 0, granted 1 ({ on.onQueue 0 fun c => { c with cur := some { hdr := 0x0000000080000701 }, fifo := List.replicate 512 0 } with pwr := on.pwr }), { hdr := 0x0000000080000701 },
     by decide +kernel⟩,
   ⟨{ req 0x1000 false 9 with posted := true }, 0, granted 1 (on), by decide +kernel⟩,
   ⟨req 0x1008 true 0, 0, 7, [8], on.onQueue 0 fun c => { c with rpl := [7, 8] }, by decide +kernel⟩,
   ⟨req 0x1008 true 0, 0, on, by decide +kernel⟩,
   ⟨req 0x10A0 false 0, 0, granted 1 (on), by decide +kernel⟩,
   ⟨req 0x10A0 false 1, 0, on.onQueue 0 fun c => { c with discarding := true, fifo := [1, 2] }, by decide +kernel⟩,
   ⟨req 0x10A0 false 1, 0, granted 1 (on.onQueue 0 fun c => { c with cur := some { hdr := 0x0000000080000701 } }), { hdr := 0x0000000080000701 },
     by decide +kernel⟩⟩

theorem witness_DataWindow :
    (∃ (b : BusReq) (i : Nat) (page : Nat) (next : Nat) (s : State), s.grants b true false (.global 1 0xC0) ∧
      b.size8 = true ∧ s.cdwOpen = true ∧ s.cmd.cdw.outward = false ∧ s.cmd.cdw.buf = [] ∧ s.cmd.cdw.atBank = false ∧
      s.cmd.cdw.failed = none ∧ s.cmd.cdw.xfer = some (.map i page next) ∧ zeroFrom b.data 19 = true ∧
      1 < s.cmd.cdw.left) ∧
    (∃ (b : BusReq) (i : Nat) (page : Nat) (next : Nat) (s : State), s.grants b true false (.global 1 0xC0) ∧
      b.size8 = true ∧ s.cdwOpen = true ∧ s.cmd.cdw.outward = false ∧ s.cmd.cdw.buf = [] ∧ s.cmd.cdw.atBank = false ∧
      s.cmd.cdw.failed = none ∧ s.cmd.cdw.xfer = some (.map i page next) ∧ zeroFrom b.data 19 = true ∧
      s.cmd.cdw.left = 1) ∧
    (∃ (b : BusReq) (addr : Nat) (e : Nat) (k : Nat) (s : State), s.grants b true false (.global 1 0xC0) ∧
      b.size8 = true ∧ s.cdwOpen = true ∧ s.cmd.cdw.outward = false ∧ s.cmd.cdw.buf = [] ∧ s.cmd.cdw.atBank = false ∧
      s.cmd.cdw.failed = none ∧ 0 < s.cmd.cdw.left ∧ s.cmd.cdw.xfer = some (.load addr) ∧ inkAt addr = .record e k ∧
      s.isStale e = false ∧ s.bankFull e = true) ∧
    (∃ (b : BusReq) (addr : Nat) (e : Nat) (k : Nat) (s : State), s.grants b true false (.global 1 0xC0) ∧
      b.size8 = true ∧ s.cdwOpen = true ∧ s.cmd.cdw.outward = false ∧ s.cmd.cdw.buf = [] ∧ s.cmd.cdw.atBank = false ∧
      s.cmd.cdw.failed = none ∧ 0 < s.cmd.cdw.left ∧ s.cmd.cdw.xfer = some (.load addr) ∧ inkAt addr = .record e k ∧
      s.isStale e = false ∧ s.bankFull e = false ∧ s.withdrawing e = true) ∧
    (∃ (b : BusReq) (s : State), s.grants b true false (.global 1 0xC0) ∧ b.size8 = true ∧ s.cdwOpen = true ∧
      s.cmd.cdw.outward = false ∧ s.cmd.cdw.buf.length = 64) ∧
    (∃ (b : BusReq) (s : State), s.grants b true false (.global 1 0xC0) ∧ b.size8 = true ∧
      (s.cdwOpen = false ∨ s.cmd.cdw.outward = true)) ∧
    (∃ (b : BusReq) (w : BitVec 64) (ws : List (BitVec 64)) (s : State), s.grants b false false (.global 1 0xC0) ∧
      b.size8 = true ∧ s.cdwOpen = true ∧ s.cmd.cdw.outward = true ∧ s.cmd.cdw.xfer = some (.words (w :: ws))) ∧
    (∃ (b : BusReq) (addr : Nat) (e : Nat) (k : Nat) (s : State), s.grants b false false (.global 1 0xC0) ∧
      b.size8 = true ∧ s.cdwOpen = true ∧ s.cmd.cdw.outward = true ∧ s.cmd.cdw.xfer = some (.bulk addr) ∧
      inkAt addr = .record e k ∧ s.bankFull e = true) ∧
    (∃ (b : BusReq) (s : State), s.grants b false false (.global 1 0xC0) ∧ b.size8 = true ∧
      (s.cdwOpen = false ∨ s.cmd.cdw.outward = false)) ∧
    (∃ (d : Deferred) (addr : Nat) (s : State), s.cdwOpen = true ∧ s.tb.good = true ∧
      s.cmd.cdw.last + 2 ^ 24 ≤ s.tick ∧ s.cmd.cdw.xfer = some (.load addr) ∧ s.cmd.deferred = [d] ∧
      s.cmd.cdw.owner = some d.id ∧ (s.queue d.q).late = [] ∧ (s.queue d.q).rpl.length < 511) ∧
    (∃ (s : State), (s.cdwOpen = false ∨ s.tb.good = false ∨ s.tick < s.cmd.cdw.last + 2 ^ 24)) :=
  ⟨⟨req 0x10C0 true 9, 0, 3, 100, { on with cmd := { on.cmd with cdw := { open_ := true, left := 2, owner := some 1, xfer := some (.map 0 3 100) } } },
    by decide +kernel⟩,
   ⟨req 0x10C0 true 0x3, 0, 4, 7, window (.map 0 4 7) false 1 on, by decide +kernel⟩,
   ⟨req 0x10C0 true 0x3, 80, 5, 0, bankFull5 (window (.load 80) false 3 on), by decide +kernel⟩,
   ⟨req 0x10C0 true 0x3, 80, 5, 0, let w := window (.load 80) false 3 on;
     { w with src := [(5, { en := true, st := .pending, place := .withdrawing })], tgts := [(0, { pres := some 5, wdrBusy := true })] },
     by decide +kernel⟩,
   ⟨req 0x10C0 true 0x3, let w := window (.load 80) false 3 on;
     { w with cmd := { w.cmd with cdw := { w.cmd.cdw with buf := List.replicate 64 0 } } }, by decide +kernel⟩,
   ⟨req 0x10C0 true 0, on, by decide +kernel⟩,
   ⟨req 0x10C0 true 0, 7, [8], { on with cmd := { on.cmd with cdw := { open_ := true, outward := true, left := 2, xfer := some (.words [7, 8]) } } },
     by decide +kernel⟩,
   ⟨req 0x10C0 true 0, 80, 5, 0, bankFull5 (window (.bulk 80) true 3 on), by decide +kernel⟩,
   ⟨req 0x10C0 true 0, on, by decide +kernel⟩,
   ⟨{ id := 1, q := 0, tag := 7, opcode := 0x68, clamped := false, work := .load }, 0, { on with tb := { good := true, count := 2 ^ 24 }, cmd := { on.cmd with deferred := [{ id := 1, q := 0, tag := 7, opcode := 0x68, clamped := false, work := .load }], cdw := { open_ := true, left := 2, owner := some 1, xfer := some (.load 0) } } },
     by decide +kernel⟩,
   ⟨on, by decide +kernel⟩⟩

theorem witness_WindowWords :
    (∃ (b : BusReq) (h : HuskOut) (s : State) (e : Nat) (es : List Nat), s.grants b false false (.global 1 0xC0) ∧
      b.size8 = true ∧ s.cdwOpen = true ∧ s.cmd.cdw.outward = true ∧ s.cmd.cdw.xfer = some (.huskOut h) ∧
      h.version = 2 ∧ h.pre = [] ∧ 1 < s.cmd.cdw.left ∧ h.half = none ∧ h.srcs = e :: es ∧ s.bankFull e = false ∧
      (h.move = false ∨ s.withdrawing e = false)) ∧
    (∃ (b : BusReq) (h : HuskOut) (s : State) (e : Nat) (w0 : BitVec 64), s.grants b false false (.global 1 0xC0) ∧
      b.size8 = true ∧ s.cdwOpen = true ∧ s.cmd.cdw.outward = true ∧ s.cmd.cdw.xfer = some (.huskOut h) ∧
      h.version = 2 ∧ h.pre = [] ∧ 1 < s.cmd.cdw.left ∧ h.half = some (e, w0) ∧ s.bankFull e = false ∧ h.move = false) ∧
    (∃ (b : BusReq) (h : HuskOut) (s : State) (e : Nat) (w0 : BitVec 64), s.grants b false false (.global 1 0xC0) ∧
      b.size8 = true ∧ s.cdwOpen = true ∧ s.cmd.cdw.outward = true ∧ s.cmd.cdw.xfer = some (.huskOut h) ∧
      h.version = 2 ∧ h.pre = [] ∧ 1 < s.cmd.cdw.left ∧ h.half = some (e, w0) ∧ s.bankFull e = false ∧ h.move = true ∧
      s.withdrawing e = false ∧ fld w0 20 2 = 1 ∧ (s.source e).st = .pending ∧ (s.source e).place = .unplaced ∧
      (s.source e).drain = false ∧ s.isStale e = false) ∧
    (∃ (b : BusReq) (h : HuskOut) (s : State), s.grants b false false (.global 1 0xC0) ∧ b.size8 = true ∧
      s.cdwOpen = true ∧ s.cmd.cdw.outward = true ∧ s.cmd.cdw.xfer = some (.huskOut h) ∧ h.version = 2 ∧ h.pre = [] ∧
      1 < s.cmd.cdw.left ∧ h.half = none ∧ h.srcs = [] ∧ h.tail = 0) ∧
    (∃ (b : BusReq) (h : HuskOut) (s : State), s.grants b false false (.global 1 0xC0) ∧ b.size8 = true ∧
      s.cdwOpen = true ∧ s.cmd.cdw.outward = true ∧ s.cmd.cdw.xfer = some (.huskOut h) ∧ h.version = 2 ∧ h.pre = [] ∧
      s.cmd.cdw.left = 1 ∧ h.half = none ∧ h.srcs = [] ∧ h.tail = 1) ∧
    (∃ (b : BusReq) (h : HuskIn) (s : State), let n := h.words.length; s.grants b true false (.global 1 0xC0) ∧
      b.size8 = true ∧ s.cdwOpen = true ∧ s.cmd.cdw.outward = false ∧ s.cmd.cdw.buf = [] ∧ s.cmd.cdw.atBank = false ∧
      s.cmd.cdw.failed = none ∧ s.cmd.cdw.xfer = some (.huskIn h) ∧ h.delta = false ∧
      (h.words.length < 3 ∨ 0 < s.cmd.cdw.left) ∧ n = 0 ∧ fld b.data 0 16 = 0x4B48 ∧ fld b.data 16 8 = 2 ∧
      flag b.data 24 = false) ∧
    (∃ (b : BusReq) (h : HuskIn) (s : State), let d := huskHead h.words; let n := h.words.length;
      s.grants b true false (.global 1 0xC0) ∧ b.size8 = true ∧ s.cdwOpen = true ∧ s.cmd.cdw.outward = false ∧
      s.cmd.cdw.buf = [] ∧ s.cmd.cdw.atBank = false ∧ s.cmd.cdw.failed = none ∧ s.cmd.cdw.xfer = some (.huskIn h) ∧
      h.delta = false ∧ (h.words.length < 3 ∨ 0 < s.cmd.cdw.left) ∧ d.version = 2 ∧ 8 ≤ n ∧ d.transAt ≤ n ∧
      n < d.groupAt ∧ n + 1 < d.total) ∧
    (∃ (b : BusReq) (h : HuskIn) (s : State) (e : Nat), let d := huskHead h.words; let n := h.words.length;
      let x := huskSrc 2 (h.words.getD (n - 1) 0) b.data; s.grants b true false (.global 1 0xC0) ∧ b.size8 = true ∧
      s.cdwOpen = true ∧ s.cmd.cdw.outward = false ∧ s.cmd.cdw.buf = [] ∧ s.cmd.cdw.atBank = false ∧
      s.cmd.cdw.failed = none ∧ s.cmd.cdw.xfer = some (.huskIn h) ∧ h.delta = false ∧
      (h.words.length < 3 ∨ 0 < s.cmd.cdw.left) ∧ d.version = 2 ∧ 8 ≤ n ∧ d.srcAt ≤ n ∧ n < d.trailerAt ∧
      (n - d.srcAt) % 2 = 1 ∧ h.placeEid x.eid = e ∧ x.ok = true ∧ s.bankFull e = false ∧ s.withdrawing e = false ∧
      s.isStale e = false ∧ (s.source e).fresh = true ∧ x.state = 1) ∧
    (∃ (b : BusReq) (h : HuskIn) (s : State) (e : Nat), let d := huskHead h.words; let n := h.words.length;
      let x := huskSrc 2 (h.words.getD (n - 1) 0) b.data; s.grants b true false (.global 1 0xC0) ∧ b.size8 = true ∧
      s.cdwOpen = true ∧ s.cmd.cdw.outward = false ∧ s.cmd.cdw.buf = [] ∧ s.cmd.cdw.atBank = false ∧
      s.cmd.cdw.failed = none ∧ s.cmd.cdw.xfer = some (.huskIn h) ∧ h.delta = false ∧
      (h.words.length < 3 ∨ 0 < s.cmd.cdw.left) ∧ d.version = 2 ∧ 8 ≤ n ∧ d.srcAt ≤ n ∧ n < d.trailerAt ∧
      (n - d.srcAt) % 2 = 1 ∧ h.placeEid x.eid = e ∧ x.ok = true ∧ s.bankFull e = false ∧ s.withdrawing e = false ∧
      s.isStale e = false ∧ (s.source e).fresh = false) ∧
    (∃ (b : BusReq) (addr : Nat) (s : State) (n : Nat), s.grants b true false (.global 1 0xC0) ∧ b.size8 = true ∧
      s.cdwOpen = true ∧ s.cmd.cdw.outward = false ∧ s.cmd.cdw.buf = [] ∧ s.cmd.cdw.atBank = false ∧
      s.cmd.cdw.failed = none ∧ 1 < s.cmd.cdw.left ∧ s.cmd.cdw.xfer = some (.load addr) ∧ inkAt addr = .trans n ∧
      s.bankFull n = false) ∧
    (∃ (b : BusReq) (addr : Nat) (s : State) (n : Nat) (k : Nat), s.grants b true false (.global 1 0xC0) ∧
      b.size8 = true ∧ s.cdwOpen = true ∧ s.cmd.cdw.outward = false ∧ s.cmd.cdw.buf = [] ∧ s.cmd.cdw.atBank = false ∧
      s.cmd.cdw.failed = none ∧ 1 < s.cmd.cdw.left ∧ s.cmd.cdw.xfer = some (.load addr) ∧ inkAt addr = .page n k ∧
      s.bankFull n = false) ∧
    (∃ (b : BusReq) (addr : Nat) (s : State) (e : Nat) (o : Nat), s.grants b true false (.global 1 0xC0) ∧
      b.size8 = true ∧ s.cdwOpen = true ∧ s.cmd.cdw.outward = false ∧ s.cmd.cdw.buf = [] ∧ s.cmd.cdw.atBank = false ∧
      s.cmd.cdw.failed = none ∧ 1 < s.cmd.cdw.left ∧ s.cmd.cdw.xfer = some (.load addr) ∧ inkAt addr = .record e 1 ∧
      s.cmd.cdw.owner = some o ∧ s.bankFull e = false ∧ s.withdrawing e = false ∧ s.isStale e = false ∧
      (s.source e).st = .inactive ∧ (s.source e).place = .unplaced ∧ (s.source e).held = {}) ∧
    (∃ (b : BusReq) (ws : List (BitVec 64)) (persist : Bool) (s : State), s.grants b true false (.global 1 0xC0) ∧
      b.size8 = true ∧ s.cdwOpen = true ∧ s.cmd.cdw.outward = false ∧ s.cmd.cdw.buf = [] ∧ s.cmd.cdw.atBank = false ∧
      s.cmd.cdw.failed = none ∧ s.cmd.cdw.xfer = some (.patch ws persist) ∧ 1 < s.cmd.cdw.left) ∧
    (∃ (b : BusReq) (ws : List (BitVec 64)) (persist : Bool) (s : State), s.grants b true false (.global 1 0xC0) ∧
      b.size8 = true ∧ s.cdwOpen = true ∧ s.cmd.cdw.outward = false ∧ s.cmd.cdw.buf = [] ∧ s.cmd.cdw.atBank = false ∧
      s.cmd.cdw.failed = none ∧ s.cmd.cdw.xfer = some (.patch ws persist) ∧ s.cmd.cdw.left = 1 ∧
      fld ((ws ++ [b.data]).getD 0 0) 32 32 = ws.length + 1 ∧ patchOk (ws ++ [b.data]) = true) ∧
    (∃ (b : BusReq) (ws : List (BitVec 64)) (persist : Bool) (s : State), s.grants b true false (.global 1 0xC0) ∧
      b.size8 = true ∧ s.cdwOpen = true ∧ s.cmd.cdw.outward = false ∧ s.cmd.cdw.buf = [] ∧ s.cmd.cdw.atBank = false ∧
      s.cmd.cdw.failed = none ∧ s.cmd.cdw.xfer = some (.patch ws persist) ∧ s.cmd.cdw.left = 1 ∧
      (patchOk (ws ++ [b.data]) = false ∨ fld ((ws ++ [b.data]).getD 0 0) 32 32 ≠ ws.length + 1)) :=
  ⟨⟨req 0x10C0 true 0, saving [5, 6] none 0, window (.huskOut (saving [5, 6] none 0)) true 5 (on.putSource 5 src5), 5, [6],
    by decide +kernel⟩,
   ⟨req 0x10C0 true 0, saving [6] (some (5, 0x100005)) 0, window (.huskOut (saving [6] (some (5, 0x100005)) 0)) true 5 (on.putSource 5 src5), 5, 0x100005,
     by decide +kernel⟩,
   ⟨req 0x10C0 true 0, { saving [6] (some (5, 0x100005)) 0 with move := true }, window (.huskOut { saving [6] (some (5, 0x100005)) 0 with move := true }) true 5 (on.putSource 5 { src5 with st := .pending, held := { frozen := true }, inst := 4 }), 5, 0x100005,
     by decide +kernel⟩,
   ⟨req 0x10C0 true 0, saving [] none 0, window (.huskOut (saving [] none 0)) true 2 on, by decide +kernel⟩,
   ⟨req 0x10C0 true 0, saving [] none 1, window (.huskOut (saving [] none 1)) true 1 { on with insts := [(4, { created := true, frozen := true, phase := .frozen, saving := true })] },
     by decide +kernel⟩,
   ⟨req 0x10C0 true 0x90C024B48, restoring [], window (.huskIn (restoring [])) false 0 on, by decide +kernel⟩,
   ⟨req 0x10C0 true 0x80003, restoring huskWords, window (.huskIn (restoring huskWords)) false 5 on, by decide +kernel⟩,
   ⟨req 0x10C0 true 0x5, restoring (huskWords ++ [0x80003, 0x501009]), window (.huskIn (restoring (huskWords ++ [0x80003, 0x501009]))) false 3 { on with insts := [(4, { created := true, frozen := true, phase := .restoring })] }, 0x100E,
     by decide +kernel⟩,
   ⟨req 0x10C0 true 0x5, restoring (huskWords ++ [0x80003, 0x501009]), window (.huskIn (restoring (huskWords ++ [0x80003, 0x501009]))) false 3 { on.putSource 0x100E src5 with insts := [(4, { created := true, frozen := true, phase := .restoring, en := true })] }, 0x100E,
     by decide +kernel⟩,
   ⟨req 0x10C0 true 0x80003, 0x410038, window (.load 0x410038) false 3 on, 7, by decide +kernel⟩,
   ⟨req 0x10C0 true 0x12345, 0xE90038, window (.load 0xE90038) false 3 on, 3, 1, by decide +kernel⟩,
   ⟨req 0x10C0 true 0x2301000400000000, 88, window (.load 88) false 3 (on.putSource 5 src5) |> fun s => { s with cmd := { s.cmd with cdw := { s.cmd.cdw with owner := some 2 } } }, 5, 2,
     by decide +kernel⟩,
   ⟨req 0x10C0 true 7, [1, 2], true, window (.patch [1, 2] true) false 3 on, by decide +kernel⟩,
   ⟨req 0x10C0 true patchCrc, [0x300074650, 5], true, window (.patch [0x300074650, 5] true) false 1 on,
     by decide +kernel⟩,
   ⟨req 0x10C0 true 1, [0x300074650, 5], true, window (.patch [0x300074650, 5] true) false 1 on, by decide +kernel⟩⟩

theorem witness_EchoAndCaps :
    (∃ (q : Fin 8) (p : Packet) (s : State), s.runs q.val 0x01 p p.words.length ∧ hdrFlag p.hdr 0 = false) ∧
    (∃ (q : Fin 8) (p : Packet) (x : Deferred) (s : State), s.runs q.val 0x01 p 0 ∧ hdrFlag p.hdr 0 = true ∧
      s.deferFull q.val = false ∧ (∀ d ∈ s.cmd.deferred, d.isFence = false) ∧ x ∈ s.cmd.deferred ∧ x.q = q.val ∧
      x.id < s.cmd.nextId) ∧
    (∃ (q : Fin 8) (p : Packet) (s : State), s.runs q.val 0x01 p (p.words.length + 1) ∧ hdrFlag p.hdr 0 = true ∧
      s.deferFull q.val = false ∧ (∀ d ∈ s.cmd.deferred, d.isFence = false ∧ d.q ≠ q.val ∧ d.id < s.cmd.nextId)) ∧
    (∃ (q : Fin 8) (p : Packet) (s : State), s.runs q.val 0x01 p 0 ∧ hdrFlag p.hdr 0 = true ∧ s.deferFull q.val = true) ∧
    (∃ (q : Fin 8) (p : Packet) (s : State), s.runs q.val 0x02 p 8) :=
  ⟨⟨0, packet 0x01 0 0 [1, 2], run (packet 0x01 0 0 [1, 2]) on, by decide +kernel⟩,
   ⟨0, packet 0x01 0 1 [1], { id := 4, q := 0, tag := 1, opcode := 0x58, clamped := false, work := .audit }, { run (packet 0x01 0 1 [1]) on with cmd := { (run (packet 0x01 0 1 [1]) on).cmd with nextId := 5, deferred := [{ id := 4, q := 0, tag := 1, opcode := 0x58, clamped := false, work := .audit }] } },
     by decide +kernel⟩,
   ⟨0, packet 1 0 1 [5], run (packet 1 0 1 [5]) on, by decide +kernel⟩,
   ⟨0, packet 1 0 1 [5], deferredFull (run (packet 1 0 1 [5]) on), by decide +kernel⟩,
   ⟨0, packet 0x02 0 0 [], run (packet 0x02 0 0 []) on, by decide +kernel⟩⟩

theorem witness_SourceConfigAndRead :
    (∃ (q : Fin 8) (p : Packet) (e : Nat) (s : State), s.runs q.val 0x10 p 2 ∧ e = fld (p.word 1) 0 20 ∧
      s.srcSetOk p (srcSet p).1 = true ∧ s.isStale e = false ∧ s.withdrawing e = false ∧ s.bankFull e = false ∧
      s.configRefused q.val e (srcSet p).1 = none) ∧
    (∃ (q : Fin 8) (p : Packet) (e : Nat) (st : Nat) (s : State), s.runs q.val 0x10 p 0 ∧ e = fld (p.word 1) 0 20 ∧
      s.srcSetOk p (srcSet p).1 = true ∧ s.isStale e = false ∧ s.withdrawing e = false ∧ s.bankFull e = false ∧
      s.configRefused q.val e (srcSet p).1 = some st) ∧
    (∃ (q : Fin 8) (p : Packet) (s : State), s.runs q.val 0x10 p 0 ∧ s.srcSetOk p (srcSet p).1 = false) ∧
    (∃ (q : Fin 8) (p : Packet) (e : Nat) (s : State), s.runs q.val 0x10 p 2 ∧ e = fld (p.word 1) 0 20 ∧
      s.srcSetOk p (srcSet p).1 = true ∧ s.isStale e = false ∧ s.bankFull e = true) ∧
    (∃ (q : Fin 8) (p : Packet) (e : Nat) (s : State), s.runs q.val 0x10 p 2 ∧ e = fld (p.word 1) 0 20 ∧
      s.srcSetOk p (srcSet p).1 = true ∧ s.isStale e = false ∧ s.bankFull e = false ∧ s.withdrawing e = true) ∧
    (∃ (q : Fin 8) (p : Packet) (s : State), s.runs q.val 0x11 p 128 ∧ zeroFrom (p.word 1) 27 = true ∧
      fld (p.word 1) 0 20 < 0x41000 ∧ (∀ e ∈ readRun (p.word 1), s.isStale e = false ∧ s.withdrawing e = false ∧
      s.bankFull e = false ∧ s.owns q.val e = true)) ∧
    (∃ (q : Fin 8) (p : Packet) (s : State), s.runs q.val 0x11 p 0 ∧ zeroFrom (p.word 1) 27 = true ∧
      fld (p.word 1) 0 20 < 0x41000 ∧ (∃ e ∈ readRun (p.word 1), s.owns q.val e = false)) :=
  ⟨⟨0, packet 0x10 0 1 [5, 0], 5, run (packet 0x10 0 1 [5, 0]) on, by decide +kernel⟩,
   ⟨0, packet 0x10 0 2 [5, 0x800], 5, 0x14, run (packet 0x10 0 2 [5, 0x800]) (on.putSource 5 src5), by decide +kernel⟩,
   ⟨0, packet 0x10 0 2 [0x41000, 0x800], run (packet 0x10 0 2 [0x41000, 0x800]) on, by decide +kernel⟩,
   ⟨0, packet 0x10 0 2 [5, 0x800], 5, bankFull5 (run (packet 0x10 0 2 [5, 0x800]) on), by decide +kernel⟩,
   ⟨0, packet 0x10 0 2 [5, 0x800], 5, run (packet 0x10 0 2 [5, 0x800]) (leaving .disable), by decide +kernel⟩,
   ⟨0, packet 0x11 0 0 [5 + 2 * 2 ^ 20], (run (packet 0x11 0 0 [5 + 2 * 2 ^ 20]) on).putSource 5 src5, by decide +kernel⟩,
   ⟨0, packet 0x11 4 0 [0x200005], run (packet 0x11 4 0 [0x200005]) ((on.onQueue 0 fun c => { c with bindInst := 4 }).putSource 5 { src5 with inst := 4 }),
     by decide +kernel⟩⟩

theorem witness_SourceEnableDisableAndInject :
    (∃ (q : Fin 8) (p : Packet) (e : Nat) (s : State), s.runs q.val 0x12 p 1 ∧ p.words.flatMap runEids = [e] ∧
      p.words.all runOk = true ∧ s.isStale e = false ∧ s.withdrawing e = false ∧ s.bankFull e = false ∧
      s.owns q.val e = true ∧ s.frozenAt e = false ∧ (s.source e).en = false ∧ (s.source e).drain = false) ∧
    (∃ (q : Fin 8) (p : Packet) (e : Nat) (s : State), s.runs q.val 0x12 p 1 ∧ p.words.flatMap runEids = [e] ∧
      p.words.all runOk = true ∧ s.deferFull q.val = false ∧ s.isStale e = false ∧ s.withdrawing e = false ∧
      s.bankFull e = false ∧ s.owns q.val e = true ∧ s.frozenAt e = false ∧ (s.source e).drain = true) ∧
    (∃ (q : Fin 8) (p : Packet) (e : Nat) (s : State), s.runs q.val 0x13 p 1 ∧ p.words.flatMap runEids = [e] ∧
      p.words.all runOk = true ∧ s.isStale e = false ∧ s.withdrawing e = false ∧ s.bankFull e = false ∧
      s.owns q.val e = true ∧ s.frozenAt e = false ∧ (s.source e).en = true ∧ (s.source e).drain = false ∧
      (s.source e).st = .inactive) ∧
    (∃ (q : Fin 8) (p : Packet) (e : Nat) (s : State), s.runs q.val 0x13 p 1 ∧ p.words.flatMap runEids = [e] ∧
      p.words.all runOk = true ∧ s.deferFull q.val = false ∧ s.isStale e = false ∧ s.withdrawing e = false ∧
      s.bankFull e = false ∧ s.owns q.val e = true ∧ s.frozenAt e = false ∧ (s.source e).en = true ∧
      (s.source e).drain = false ∧ (s.source e).st = .active) ∧
    (∃ (q : Fin 8) (p : Packet) (e : Nat) (s : State), s.runs q.val 0x13 p 1 ∧ p.words.flatMap runEids = [e] ∧
      p.words.all runOk = true ∧ s.deferFull q.val = false ∧ s.isStale e = false ∧ s.bankFull e = false ∧
      s.owns q.val e = true ∧ s.frozenAt e = false ∧ (s.source e).en = true ∧ (s.source e).drain = false ∧
      (s.source e).st = .pending ∧ (s.source e).place = .presented) ∧
    (∃ (q : Fin 8) (p : Packet) (c : Instr) (op : Nat) (s : State), (c = .srcEnable q ∧ op = 0x12 ∨ c = .srcDisable q ∧
      op = 0x13) ∧ s.runs q.val op p 0 ∧ s.deferFull q.val = false ∧ p.words.all runOk = false) ∧
    (∃ (q : Fin 8) (p : Packet) (c : Instr) (op : Nat) (s : State), (c = .srcEnable q ∧ op = 0x12 ∨ c = .srcDisable q ∧
      op = 0x13) ∧ s.runs q.val op p 0 ∧ s.deferFull q.val = false ∧ p.words.all runOk = true ∧
      (∀ e ∈ p.words.flatMap runEids, s.owns q.val e = true) ∧ (∃ e ∈ p.words.flatMap runEids, s.frozenAt e = true)) ∧
    (∃ (q : Fin 8) (p : Packet) (e : Nat) (s : State), s.runs q.val 0x14 p 1 ∧ e = fld (p.word 1) 0 20 ∧
      zeroFrom (p.word 1) 20 = true ∧ e < 0x41000 ∧ (s.mode.mode = .test ∨ isSoftware e = true) ∧
      s.intakeShut = false ∧ s.isStale e = false ∧ s.withdrawing e = false ∧ s.bankFull e = false ∧
      s.owns q.val e = true ∧ s.frozenAt e = false) ∧
    (∃ (q : Fin 8) (p : Packet) (e : Nat) (s : State), s.runs q.val 0x14 p 0 ∧ e = fld (p.word 1) 0 20 ∧
      zeroFrom (p.word 1) 20 = true ∧ e < 0x41000 ∧ s.mode.mode ≠ .test ∧ isSoftware e = false) ∧
    (∃ (q : Fin 8) (p : Packet) (e : Nat) (s : State), s.runs q.val 0x14 p 0 ∧ e = fld (p.word 1) 0 20 ∧
      zeroFrom (p.word 1) 20 = true ∧ e < 0x41000 ∧ (s.mode.mode = .test ∨ isSoftware e = true) ∧
      s.owns q.val e = true ∧ s.isHeld 6 = true) :=
  ⟨⟨0, packet 0x12 0 0 [5 + 1 * 2 ^ 20], 5, (run (packet 0x12 0 0 [5 + 1 * 2 ^ 20]) on).putSource 5 { src5 with en := false },
    by decide +kernel⟩,
   ⟨0, packet 0x12 0 0 [0x100005], 5, run (packet 0x12 0 0 [0x100005]) (on.putSource 5 { src5 with en := false, drain := true, st := .active }),
     by decide +kernel⟩,
   ⟨0, packet 0x13 0 0 [5 + 1 * 2 ^ 20], 5, (run (packet 0x13 0 0 [5 + 1 * 2 ^ 20]) on).putSource 5 src5,
     by decide +kernel⟩,
   ⟨0, packet 0x13 0 0 [0x100005], 5, run (packet 0x13 0 0 [0x100005]) (on.putSource 5 { src5 with st := .active }),
     by decide +kernel⟩,
   ⟨0, packet 0x13 0 0 [5 + 1 * 2 ^ 20], 5, run (packet 0x13 0 0 [5 + 1 * 2 ^ 20]) shown, by decide +kernel⟩,
   ⟨0, packet 0x13 0 0 [0x141000], .srcDisable 0, 0x13, run (packet 0x13 0 0 [0x141000]) on, by decide +kernel⟩,
   ⟨0, packet 0x12 0 0 [0x100005], .srcEnable 0, 0x12, run (packet 0x12 0 0 [0x100005]) ((on.putSource 5 { src5 with inst := 4 }).putCtx 4 { created := true, frozen := true }),
     by decide +kernel⟩,
   ⟨0, packet 0x14 0 0 [0xA05], 0xA05, (run (packet 0x14 0 0 [0xA05]) on).putSource 0xA05 src5, by decide +kernel⟩,
   ⟨0, packet 0x14 0 0 [5], 5, run (packet 0x14 0 0 [5]) on, by decide +kernel⟩,
   ⟨0, packet 0x14 0 0 [0xA05], 0xA05, run (packet 0x14 0 0 [0xA05]) { on with rst := { on.rst with held := [6] } },
     by decide +kernel⟩⟩

theorem witness_PagesAndLigatureCommands :
    (∃ (q : Fin 8) (p : Packet) (s : State), s.runs q.val 0x18 p 0 ∧ s.deferFull q.val = false ∧
      zeroFrom (p.word 1) 21 = true ∧ zeroFrom (p.word 3) 18 = true ∧
      s.pageParam (hdrInst p.hdr) (fld (p.word 1) 0 21) = true ∧ fld (p.word 2) 0 18 + mapWords (p.word 2) ≤ 262144 ∧
      s.husking (hdrInst p.hdr) = false ∧ s.pageAway (hdrInst p.hdr) (fld (p.word 1) 0 21) = false ∧
      hdrFlag p.hdr 0 = false) ∧
    (∃ (q : Fin 8) (p : Packet) (s : State), s.runs q.val 0x18 p 0 ∧ s.deferFull q.val = false ∧
      zeroFrom (p.word 1) 21 = true ∧ zeroFrom (p.word 3) 18 = true ∧
      s.pageParam (hdrInst p.hdr) (fld (p.word 1) 0 21) = true ∧ fld (p.word 2) 0 18 + mapWords (p.word 2) ≤ 262144 ∧
      s.husking (hdrInst p.hdr) = false ∧ s.pageAway (hdrInst p.hdr) (fld (p.word 1) 0 21) = false ∧
      hdrFlag p.hdr 0 = true ∧ s.cmd.cdw.owned = false) ∧
    (∃ (q : Fin 8) (p : Packet) (s : State), s.runs q.val 0x18 p 0 ∧ s.deferFull q.val = false ∧
      zeroFrom (p.word 1) 21 = true ∧ zeroFrom (p.word 3) 18 = true ∧
      s.pageParam (hdrInst p.hdr) (fld (p.word 1) 0 21) = true ∧ 262144 < fld (p.word 2) 0 18 + mapWords (p.word 2)) ∧
    (∃ (q : Fin 8) (p : Packet) (e : Nat) (s : State), s.runs q.val 0x19 p 0 ∧
      e = s.pageEntry (hdrInst p.hdr) (fld (p.word 1) 0 21) ∧ zeroFrom (p.word 1) 21 = true ∧
      s.pageParam (hdrInst p.hdr) (fld (p.word 1) 0 21) = true ∧ s.husking (hdrInst p.hdr) = false ∧
      s.pageAway (hdrInst p.hdr) (fld (p.word 1) 0 21) = false ∧ ((s.page e).relay = false ∨ s.cfg.sealed_ = false)) ∧
    (∃ (q : Fin 8) (p : Packet) (e : Nat) (s : State), s.runs q.val 0x19 p 0 ∧
      e = s.pageEntry (hdrInst p.hdr) (fld (p.word 1) 0 21) ∧ zeroFrom (p.word 1) 21 = true ∧
      s.pageParam (hdrInst p.hdr) (fld (p.word 1) 0 21) = true ∧ s.husking (hdrInst p.hdr) = false ∧
      s.pageAway (hdrInst p.hdr) (fld (p.word 1) 0 21) = false ∧ (s.page e).relay = true ∧ s.cfg.sealed_ = true) ∧
    (∃ (q : Fin 8) (p : Packet) (e : Nat) (s : State), s.runs q.val 0x70 p 0 ∧
      e = s.pageEntry (hdrInst p.hdr) (fld (p.word 1) 0 21) ∧ zeroFrom (p.word 1) 22 = true ∧
      s.pageParam (hdrInst p.hdr) (fld (p.word 1) 0 21) = true ∧
      s.pageAway (hdrInst p.hdr) (fld (p.word 1) 0 21) = false ∧ (s.page e).valid = true) ∧
    (∃ (q : Fin 8) (p : Packet) (e : Nat) (s : State), s.runs q.val 0x70 p 0 ∧
      e = s.pageEntry (hdrInst p.hdr) (fld (p.word 1) 0 21) ∧ zeroFrom (p.word 1) 22 = true ∧
      s.pageParam (hdrInst p.hdr) (fld (p.word 1) 0 21) = true ∧
      s.pageAway (hdrInst p.hdr) (fld (p.word 1) 0 21) = false ∧ (s.page e).valid = false) ∧
    (∃ (q : Fin 8) (p : Packet) (g : Nat) (s : State), s.runs q.val 0x20 p 0 ∧ g = fld (p.word 1) 0 16 ∧
      s.deferFull q.val = false ∧ zeroFrom (p.word 1) 16 = true ∧ zeroFrom (p.word 2) 49 = true ∧
      (ligSet p).1.binding.all (fun v => (s.ctx v.2).created) = true ∧ s.ligRefused q.val g (ligSet p).1 = none ∧
      s.repairing (.moderated (Fin.ofNat 65536 g)) = false ∧ (ligSet p).1.enable < 2 ∧ (s.grp g).open_ = false ∧
      (s.grp g).drain = false) ∧
    (∃ (q : Fin 8) (p : Packet) (g : Nat) (s : State), s.runs q.val 0x20 p 0 ∧ g = fld (p.word 1) 0 16 ∧
      s.deferFull q.val = false ∧ zeroFrom (p.word 1) 16 = true ∧ zeroFrom (p.word 2) 49 = true ∧
      (ligSet p).1.binding.all (fun v => (s.ctx v.2).created) = true ∧ s.ligRefused q.val g (ligSet p).1 = none ∧
      s.repairing (.moderated (Fin.ofNat 65536 g)) = false ∧ (ligSet p).1.enable = 2 ∧ (ligSet p).1.timing = none ∧
      (ligSet p).1.binding = none ∧ (s.grp g).drain = false ∧ (s.grp g).en = true ∧ (s.grp g).held ≠ []) ∧
    (∃ (q : Fin 8) (p : Packet) (g : Nat) (s : State) (st : Nat), s.runs q.val 0x20 p 0 ∧ g = fld (p.word 1) 0 16 ∧
      s.deferFull q.val = false ∧ zeroFrom (p.word 1) 16 = true ∧ zeroFrom (p.word 2) 49 = true ∧
      (ligSet p).1.binding.all (fun v => (s.ctx v.2).created) = true ∧ s.ligRefused q.val g (ligSet p).1 = some st) ∧
    (∃ (q : Fin 8) (p : Packet) (g : Nat) (s : State), s.runs q.val 0x20 p 0 ∧ g = fld (p.word 1) 0 16 ∧
      s.deferFull q.val = false ∧ zeroFrom (p.word 1) 16 = true ∧ zeroFrom (p.word 2) 49 = true ∧
      (ligSet p).1.binding.all (fun v => (s.ctx v.2).created) = true ∧ s.ligRefused q.val g (ligSet p).1 = none ∧
      s.repairing (.moderated (Fin.ofNat 65536 g)) = true) ∧
    (∃ (q : Fin 8) (p : Packet) (g : Nat) (s : State), s.runs q.val 0x21 p 0 ∧ g = fld (p.word 1) 0 16 ∧
      zeroFrom (p.word 1) 16 = true ∧ hdrFlag p.hdr 0 = false ∧
      ((s.queue q.val).guest = false ∨ (s.grp g).inst = (s.queue q.val).bindInst) ∧
      s.repairing (.moderated (Fin.ofNat 65536 g)) = false ∧ ((s.grp g).en = true ∨ (s.grp g).drain = true) ∧
      (s.grp g).held ≠ []) ∧
    (∃ (q : Fin 8) (p : Packet) (g : Nat) (s : State), s.runs q.val 0x21 p 0 ∧ g = fld (p.word 1) 0 16 ∧
      zeroFrom (p.word 1) 16 = true ∧ hdrFlag p.hdr 0 = false ∧
      ((s.queue q.val).guest = false ∨ (s.grp g).inst = (s.queue q.val).bindInst) ∧
      s.repairing (.moderated (Fin.ofNat 65536 g)) = false ∧ (s.grp g).held = []) ∧
    (∃ (q : Fin 8) (p : Packet) (g : Nat) (s : State), s.runs q.val 0x21 p 0 ∧ g = fld (p.word 1) 0 16 ∧
      zeroFrom (p.word 1) 16 = true ∧ hdrFlag p.hdr 0 = false ∧
      ((s.queue q.val).guest = false ∨ (s.grp g).inst = (s.queue q.val).bindInst) ∧
      s.repairing (.moderated (Fin.ofNat 65536 g)) = true) ∧
    (∃ (q : Fin 8) (p : Packet) (s : State), s.runs q.val 0x21 p 0 ∧ zeroFrom (p.word 1) 16 = true ∧
      hdrFlag p.hdr 0 = true ∧ (∀ g, s.repairing (.moderated g) = false)) :=
  ⟨⟨0, packet 0x18 0 0 [3, 100, 0], run (packet 0x18 0 0 [3, 100, 0]) on, by decide +kernel⟩,
   ⟨0, packet 0x18 0 1 [3, 100, 0], run (packet 0x18 0 1 [3, 100, 0]) on, by decide +kernel⟩,
   ⟨0, packet 0x18 0 0 [3, 0x7FF3FFFF, 0], run (packet 0x18 0 0 [3, 0x7FF3FFFF, 0]) on, by decide +kernel⟩,
   ⟨0, packet 0x19 0 1 [3], 3, run (packet 0x19 0 1 [3]) ((on.putPage 3 { valid := true, tbase := 7, tstride := 2 }).putTrans 7 { valid := true }),
     by decide +kernel⟩,
   ⟨0, packet 0x19 0 1 [3], 3, run (packet 0x19 0 1 [3]) { (on.putPage 3 { valid := true, relay := true }) with cfg := { on.cfg with sealed_ := true } },
     by decide +kernel⟩,
   ⟨0, packet 0x70 0 0 [0x200003], 3, run (packet 0x70 0 0 [0x200003]) (on.putPage 3 { valid := true }),
     by decide +kernel⟩,
   ⟨0, packet 0x70 0 0 [0x200003], 3, run (packet 0x70 0 0 [0x200003]) on, by decide +kernel⟩,
   ⟨0, packet 0x20 0 5 [6, 2 + 100 * 2 ^ 13], 6, run (packet 0x20 0 5 [6, 2 + 100 * 2 ^ 13]) on, by decide +kernel⟩,
   ⟨0, packet 0x20 0 8 [6, 0], 6, run (packet 0x20 0 8 [6, 0]) { on.putSource 5 { src5 with st := .pending, held := { moderated := true }, group := 6, groupEn := true } with groups := [(6, { en := true, open_ := true, count := 1, thresh := 3, held := [5] })] },
     by decide +kernel⟩,
   ⟨0, packet 0x20 0 2 [6, 0x20000000], 6, run (packet 0x20 0 2 [6, 0x20000000]) { on with groups := [(6, { en := true })] }, 0x14,
     by decide +kernel⟩,
   ⟨0, packet 0x20 0 8 [6, 0], 6, run (packet 0x20 0 8 [6, 0]) { on with groups := [(6, { en := true })], sweeps := [{ name := .repair (.moderated 6) }] },
     by decide +kernel⟩,
   ⟨0, packet 0x21 0 0 [6], 6, { (run (packet 0x21 0 0 [6]) on) with groups := [(6, { en := true, thresh := 2, timer := 100, open_ := true, count := 1, start := 49000, held := [5] })] },
     by decide +kernel⟩,
   ⟨0, packet 0x21 0 0 [6], 6, run (packet 0x21 0 0 [6]) { on with groups := [(6, { en := true })] }, by decide +kernel⟩,
   ⟨0, packet 0x21 0 0 [6], 6, run (packet 0x21 0 0 [6]) { on with groups := [(6, { en := true })], sweeps := [{ name := .repair (.moderated 6) }] },
     by decide +kernel⟩,
   ⟨0, packet 0x21 0 1 [6], run (packet 0x21 0 1 [6]) { on.putSource 5 { src5 with st := .pending, held := { moderated := true }, group := 6, groupEn := true } with groups := [(6, { en := true, open_ := true, count := 1, thresh := 3, held := [5] }), (7, { en := true })] }, ⟨by decide +kernel, by decide +kernel,
     by decide +kernel, fun _ => rfl⟩⟩⟩

theorem witness_TargetCommands :
    (∃ (q : Fin 8) (p : Packet) (n : Nat) (s : State), s.runs q.val 0x28 p 0 ∧ n = fld (p.word 1) 0 11 ∧
      tgtSetOk p = true ∧ (((s.tgtSet n p).1.path = (s.tgt n).path ∧
      (s.tgtSet n p).1.virt = (s.tgt n).virt) ∨ (s.tgt n).svc = .offline)) ∧
    (∃ (q : Fin 8) (p : Packet) (n : Nat) (s : State), s.runs q.val 0x28 p 0 ∧ n = fld (p.word 1) 0 11 ∧
      tgtSetOk p = true ∧ ((s.tgtSet n p).1.path ≠ (s.tgt n).path ∨ (s.tgtSet n p).1.virt ≠ (s.tgt n).virt) ∧
      (s.tgt n).svc ≠ .offline) ∧
    (∃ (q : Fin 8) (p : Packet) (n : Nat) (s : State), s.runs q.val 0x28 p 0 ∧ n = fld (p.word 1) 0 11 ∧
      tgtSetOk p = false) ∧
    (∃ (q : Fin 8) (p : Packet) (n : Nat) (s : State), s.runs q.val 0x29 p 1 ∧ n = fld (p.word 1) 0 11 ∧
      zeroFrom (p.word 1) 13 = true ∧ n < 1536 ∧ s.deferFull q.val = false ∧ fld (p.word 1) 11 2 = 1 ∧
      (s.tgt n).svc = .offline) ∧
    (∃ (q : Fin 8) (p : Packet) (n : Nat) (s : State), s.runs q.val 0x29 p 1 ∧ n = fld (p.word 1) 0 11 ∧
      zeroFrom (p.word 1) 13 = true ∧ n < 1536 ∧ s.deferFull q.val = false ∧ fld (p.word 1) 11 2 = 1 ∧
      (s.tgt n).svc = .draining) ∧
    (∃ (q : Fin 8) (p : Packet) (n : Nat) (s : State), s.runs q.val 0x29 p 1 ∧ n = fld (p.word 1) 0 11 ∧
      zeroFrom (p.word 1) 13 = true ∧ n < 1536 ∧ s.deferFull q.val = false ∧ fld (p.word 1) 11 2 = 2 ∧
      (s.tgt n).svc = .online ∧ (s.tgt n).pres = none) ∧
    (∃ (q : Fin 8) (p : Packet) (n : Nat) (s : State) (e : Nat), s.runs q.val 0x29 p 1 ∧ n = fld (p.word 1) 0 11 ∧
      zeroFrom (p.word 1) 13 = true ∧ n < 1536 ∧ s.deferFull q.val = false ∧ fld (p.word 1) 11 2 = 2 ∧
      (s.tgt n).svc = .online ∧ (s.tgt n).pres = some e ∧ (s.source e).place = .presented ∧ (s.source e).serving = n ∧
      s.isStale e = false) ∧
    (∃ (q : Fin 8) (p : Packet) (n : Nat) (s : State), s.runs q.val 0x29 p 1 ∧ n = fld (p.word 1) 0 11 ∧
      zeroFrom (p.word 1) 13 = true ∧ n < 1536 ∧ s.deferFull q.val = false ∧ fld (p.word 1) 11 2 = 2 ∧
      (s.tgt n).svc = .offline) ∧
    (∃ (q : Fin 8) (p : Packet) (n : Nat) (s : State), s.runs q.val 0x29 p 1 ∧ n = fld (p.word 1) 0 11 ∧
      zeroFrom (p.word 1) 13 = true ∧ n < 1536 ∧ s.deferFull q.val = false ∧ fld (p.word 1) 11 2 = 0) ∧
    (∃ (q : Fin 8) (p : Packet) (n : Nat) (s : State), s.runs q.val 0x29 p 1 ∧ n = fld (p.word 1) 0 11 ∧
      zeroFrom (p.word 1) 13 = true ∧ n < 1536 ∧ s.deferFull q.val = false ∧ fld (p.word 1) 11 2 = 1 ∧
      (s.tgt n).svc = .faulted ∧ s.causeStands n = true) :=
  ⟨⟨0, packet 0x28 0 1 [0, 2, 0, 0, 0, 0, 0], 0, run (packet 0x28 0 1 [0, 2, 0, 0, 0, 0, 0]) on, by decide +kernel⟩,
   ⟨0, packet 0x28 0 1 [0, 0x100000000000, 0, 0, 0, 0, 0], 0, run (packet 0x28 0 1 [0, 0x100000000000, 0, 0, 0, 0, 0]) (on.putTgt 0 { svc := .online }),
     by decide +kernel⟩,
   ⟨0, packet 0x28 0 1 [1024, 0, 0, 0, 0, 0, 0], 1024, run (packet 0x28 0 1 [1024, 0, 0, 0, 0, 0, 0]) on,
     by decide +kernel⟩,
   ⟨0, packet 0x29 0 0 [1535 + 1 * 2 ^ 11], 1535, run (packet 0x29 0 0 [1535 + 1 * 2 ^ 11]) on, by decide +kernel⟩,
   ⟨0, packet 0x29 0 0 [0x807], 7, run (packet 0x29 0 0 [0x807]) (on.putTgt 7 { svc := .draining, sweep := true }),
     by decide +kernel⟩,
   ⟨0, packet 0x29 0 0 [0x1007], 7, run (packet 0x29 0 0 [0x1007]) (on.putTgt 7 { svc := .online }), by decide +kernel⟩,
   ⟨0, packet 0x29 0 0 [0x1000], 0, run (packet 0x29 0 0 [0x1000]) shown, 5, by decide +kernel⟩,
   ⟨0, packet 0x29 0 0 [0x1007], 7, run (packet 0x29 0 0 [0x1007]) on, by decide +kernel⟩,
   ⟨0, packet 0x29 0 0 [0x7], 7, run (packet 0x29 0 0 [0x7]) on, by decide +kernel⟩,
   ⟨0, packet 0x29 0 0 [0x807], 7, run (packet 0x29 0 0 [0x807]) (on.putTgt 7 { svc := .faulted, fcause := 1 }),
     by decide +kernel⟩⟩

theorem witness_InstanceSettings :
    (∃ (q : Fin 8) (p : Packet) (i : Nat) (s : State), s.runs q.val 0x30 p 0 ∧ i = hdrInst p.hdr ∧ i ≠ 0 ∧
      zeroFrom (p.word 1) 29 = true ∧ zeroFrom (p.word 2) 48 = true ∧ zeroFrom (p.word 3) 27 = true ∧
      (s.ctx i).created = false ∧ s.runFits i (fld (p.word 1) 0 14) (min (fld (p.word 1) 14 15) 16384) = true) ∧
    (∃ (q : Fin 8) (p : Packet) (i : Nat) (s : State), s.runs q.val 0x30 p 0 ∧ i = hdrInst p.hdr ∧ i ≠ 0 ∧
      zeroFrom (p.word 1) 29 = true ∧ zeroFrom (p.word 2) 48 = true ∧ zeroFrom (p.word 3) 27 = true ∧
      (s.ctx i).created = true) ∧
    (∃ (q : Fin 8) (p : Packet) (i : Nat) (s : State), s.runs q.val 0x30 p 0 ∧ i = hdrInst p.hdr ∧ i ≠ 0 ∧
      zeroFrom (p.word 1) 29 = true ∧ zeroFrom (p.word 2) 48 = true ∧ zeroFrom (p.word 3) 27 = true ∧
      (s.ctx i).created = false ∧ s.runFits i (fld (p.word 1) 0 14) (min (fld (p.word 1) 14 15) 16384) = false) ∧
    (∃ (q : Fin 8) (p : Packet) (i : Nat) (s : State), s.runs q.val 0x30 p 0 ∧ i = hdrInst p.hdr ∧
      (i = 0 ∨ zeroFrom (p.word 1) 29 = false ∨ zeroFrom (p.word 2) 48 = false ∨ zeroFrom (p.word 3) 27 = false)) ∧
    (∃ (q : Fin 8) (p : Packet) (i : Nat) (s : State), s.runs q.val 0x31 p 0 ∧ i = hdrInst p.hdr ∧
      (enField p.hdr 42).1 = 0 ∧ (hdrFlag p.hdr 0 = true → zeroFrom (p.word 1) 48 = true) ∧
      (hdrFlag p.hdr 1 = true ∨ hdrFlag p.hdr 2 = true → zeroFrom (p.word 2) 27 = true) ∧ (s.ctx i).created = true ∧
      s.husking i = false ∧ (s.tb.good = false ∨ s.tick < (s.ctx i).nextRefill)) ∧
    (∃ (q : Fin 8) (p : Packet) (i : Nat) (s : State), s.runs q.val 0x31 p 0 ∧ i = hdrInst p.hdr ∧
      hdrFlag p.hdr 0 = false ∧ hdrFlag p.hdr 1 = false ∧ hdrFlag p.hdr 2 = false ∧ i ≠ 0 ∧ i < 512 ∧
      s.deferFull q.val = false ∧ (s.ctx i).created = true ∧ s.husking i = false ∧ (enField p.hdr 42).1 = 1 ∧
      (s.ctx i).frozen = false ∧ (s.ctx i).drain = false ∧ (s.ctx i).en = false ∧ (s.ctx i).oldGen = false ∧
      s.busySources i = false ∧ s.poolWork i = false ∧ (s.tb.good = false ∨ s.tick < (s.ctx i).nextRefill)) ∧
    (∃ (q : Fin 8) (p : Packet) (i : Nat) (s : State), s.runs q.val 0x31 p 0 ∧ i = hdrInst p.hdr ∧
      hdrFlag p.hdr 0 = false ∧ hdrFlag p.hdr 1 = false ∧ hdrFlag p.hdr 2 = false ∧ i ≠ 0 ∧ i < 512 ∧
      s.deferFull q.val = false ∧ (s.ctx i).created = true ∧ s.husking i = false ∧ (enField p.hdr 42).1 = 2 ∧
      (s.ctx i).frozen = false ∧ (s.ctx i).drain = false ∧ (s.ctx i).en = true ∧
      (s.tb.good = false ∨ s.tick < (s.ctx i).nextRefill)) ∧
    (∃ (q : Fin 8) (p : Packet) (i : Nat) (s : State), s.runs q.val 0x31 p 0 ∧ i = hdrInst p.hdr ∧
      hdrFlag p.hdr 0 = false ∧ hdrFlag p.hdr 1 = false ∧ hdrFlag p.hdr 2 = false ∧ i ≠ 0 ∧ i < 512 ∧
      s.deferFull q.val = false ∧ (s.ctx i).created = true ∧ s.husking i = false ∧ (enField p.hdr 42).1 = 1 ∧
      (s.ctx i).frozen = false ∧ (s.ctx i).drain = true ∧ (s.tb.good = false ∨ s.tick < (s.ctx i).nextRefill)) ∧
    (∃ (q : Fin 8) (p : Packet) (i : Nat) (s : State), s.runs q.val 0x31 p 0 ∧ i = hdrInst p.hdr ∧
      hdrFlag p.hdr 0 = false ∧ hdrFlag p.hdr 1 = false ∧ hdrFlag p.hdr 2 = false ∧ i ≠ 0 ∧ i < 512 ∧
      s.deferFull q.val = false ∧ (s.ctx i).created = true ∧ s.husking i = false ∧ (enField p.hdr 42).1 ≠ 0 ∧
      (s.ctx i).frozen = true) ∧
    (∃ (q : Fin 8) (p : Packet) (i : Nat) (s : State), s.runs q.val 0x31 p 0 ∧ i = hdrInst p.hdr ∧
      s.deferFull q.val = false ∧ (s.ctx i).created = false) ∧
    (∃ (q : Fin 8) (p : Packet) (i : Nat) (s : State), s.runs q.val 0x31 p 0 ∧ i = hdrInst p.hdr ∧
      s.deferFull q.val = false ∧ (hdrFlag p.hdr 0 = true → zeroFrom (p.word 1) 48 = true) ∧
      (hdrFlag p.hdr 1 = true ∨ hdrFlag p.hdr 2 = true → zeroFrom (p.word 2) 27 = true) ∧ i ≠ 0 ∧
      (s.ctx i).created = true ∧ s.husking i = true) :=
  ⟨⟨0, packet 0x30 4 0 [100 + 20 * 2 ^ 14, 10 + 100 * 2 ^ 16 + 128 * 2 ^ 32, 1 + 5 * 2 ^ 8], 4, run (packet 0x30 4 0 [100 + 20 * 2 ^ 14, 10 + 100 * 2 ^ 16 + 128 * 2 ^ 32, 1 + 5 * 2 ^ 8]) on,
    by decide +kernel⟩,
   ⟨0, packet 0x30 4 0 [0, 0, 0], 4, run (packet 0x30 4 0 [0, 0, 0]) (on.putCtx 4 { created := true }),
     by decide +kernel⟩,
   ⟨0, packet 0x30 4 0 [0xFFFC005, 0, 0], 4, run (packet 0x30 4 0 [0xFFFC005, 0, 0]) on, by decide +kernel⟩,
   ⟨0, packet 0x30 0 0 [0, 0, 0], 0, run (packet 0x30 0 0 [0, 0, 0]) on, by decide +kernel⟩,
   ⟨0, packet 0x31 4 7 [10 + 100 * 2 ^ 16 + 127 * 2 ^ 32, 0], 4, { run (packet 0x31 4 7 [10 + 100 * 2 ^ 16 + 127 * 2 ^ 32, 0]) on with insts := [(4, { created := true, nextRefill := 60000 })] },
     by decide +kernel⟩,
   ⟨0, packet 0x31 4 8 [0, 0], 4, { run (packet 0x31 4 8 [0, 0]) on with insts := [(4, { created := true, nextRefill := 60000 })] },
     by decide +kernel⟩,
   ⟨0, packet 0x31 4 16 [0, 0], 4, { run (packet 0x31 4 16 [0, 0]) on with insts := [(4, { created := true, en := true, nextRefill := 60000 })] },
     by decide +kernel⟩,
   ⟨0, packet 0x31 4 8 [0, 0], 4, run (packet 0x31 4 8 [0, 0]) (on.putCtx 4 { created := true, drain := true, nextRefill := 60000 }),
     by decide +kernel⟩,
   ⟨0, packet 0x31 4 8 [0, 0], 4, run (packet 0x31 4 8 [0, 0]) (on.putCtx 4 { created := true, frozen := true, phase := .frozen }),
     by decide +kernel⟩,
   ⟨0, packet 0x31 4 8 [0, 0], 4, run (packet 0x31 4 8 [0, 0]) on, by decide +kernel⟩,
   ⟨0, packet 0x31 4 0 [0, 0], 4, run (packet 0x31 4 0 [0, 0]) (on.putCtx 4 { created := true, frozen := true, phase := .frozen, saving := true }),
     by decide +kernel⟩⟩

theorem witness_InstanceEnds :
    (∃ (q : Fin 8) (p : Packet) (i : Nat) (s : State), s.runs q.val 0x32 p 0 ∧ i = hdrInst p.hdr ∧
      s.deferFull q.val = false ∧ i ≠ 0 ∧ (s.ctx i).created = true ∧ (s.ctx i).oldGen = false ∧
      (s.ctx i).frozen = false) ∧
    (∃ (q : Fin 8) (p : Packet) (i : Nat) (s : State), s.runs q.val 0x32 p 0 ∧ i = hdrInst p.hdr ∧
      s.deferFull q.val = false ∧ (i = 0 ∨ (s.ctx i).created = false)) ∧
    (∃ (q : Fin 8) (p : Packet) (i : Nat) (s : State), s.runs q.val 0x32 p 0 ∧ i = hdrInst p.hdr ∧
      s.deferFull q.val = false ∧ i ≠ 0 ∧ (s.ctx i).created = true ∧
      ((s.ctx i).oldGen = true ∨ (s.ctx i).frozen = true)) ∧
    (∃ (q : Fin 8) (p : Packet) (i : Nat) (s : State), s.runs q.val 0x33 p 0 ∧ i = hdrInst p.hdr ∧
      s.deferFull q.val = false ∧ i ≠ 0 ∧ (s.ctx i).created = true ∧ (s.ctx i).en = false ∧ (s.ctx i).drain = false ∧
      (s.ctx i).frozen = false ∧ (s.ctx i).oldGen = false) ∧
    (∃ (q : Fin 8) (p : Packet) (i : Nat) (s : State), s.runs q.val 0x33 p 0 ∧ i = hdrInst p.hdr ∧
      s.deferFull q.val = false ∧ (i = 0 ∨ (s.ctx i).created = false)) ∧
    (∃ (q : Fin 8) (p : Packet) (i : Nat) (s : State), s.runs q.val 0x33 p 0 ∧ i = hdrInst p.hdr ∧
      s.deferFull q.val = false ∧ i ≠ 0 ∧ (s.ctx i).created = true ∧
      ((s.ctx i).en = true ∨ (s.ctx i).drain = true ∨ (s.ctx i).frozen = true ∨ (s.ctx i).oldGen = true)) ∧
    (∃ (q : Fin 8) (p : Packet) (c : Instr) (op : Nat) (s : State), (c = .instReset q ∧
      op = 0x32 ∨ c = .instDestroy q ∧ op = 0x33) ∧ s.runs q.val op p 0 ∧ s.deferFull q.val = true) :=
  ⟨⟨0, packet 0x32 4 0 [], 4, { run (packet 0x32 4 0 []) on with insts := [(4, { created := true, en := true })], groups := [(6, { inst := 4, open_ := true, count := 2 })] },
    by decide +kernel⟩,
   ⟨0, packet 0x32 4 0 [], 4, run (packet 0x32 4 0 []) on, by decide +kernel⟩,
   ⟨0, packet 0x32 4 0 [], 4, run (packet 0x32 4 0 []) (on.putCtx 4 { created := true, frozen := true }),
     by decide +kernel⟩,
   ⟨0, packet 0x33 4 0 [], 4, { run (packet 0x33 4 0 []) on with insts := [(4, { created := true })] },
     by decide +kernel⟩,
   ⟨0, packet 0x33 0 0 [], 0, run (packet 0x33 0 0 []) on, by decide +kernel⟩,
   ⟨0, packet 0x33 4 0 [], 4, run (packet 0x33 4 0 []) (on.putCtx 4 { created := true, en := true }), by decide +kernel⟩,
   ⟨0, packet 0x32 4 0 [], .instReset 0, 0x32, deferredFull (run (packet 0x32 4 0 []) on), by decide +kernel⟩⟩

theorem witness_FreezeFollowsItsTable :
    (∃ (q : Fin 8) (p : Packet) (i : Nat) (s : State), s.runs q.val 0x38 p 0 ∧ i = hdrInst p.hdr ∧
      s.deferFull q.val = false ∧ (i = 0 ∨ (s.ctx i).created = false)) ∧
    (∃ (q : Fin 8) (p : Packet) (i : Nat) (s : State), s.runs q.val 0x38 p 0 ∧ i = hdrInst p.hdr ∧
      s.deferFull q.val = false ∧ i ≠ 0 ∧ (s.ctx i).created = true ∧ (s.ctx i).frozen = true) ∧
    (∃ (q : Fin 8) (p : Packet) (i : Nat) (s : State), s.runs q.val 0x38 p 0 ∧ i = hdrInst p.hdr ∧
      s.deferFull q.val = false ∧ i ≠ 0 ∧ (s.ctx i).created = true ∧ (s.ctx i).frozen = false ∧
      ((s.ctx i).drain = true ∨ (s.ctx i).oldGen = true)) ∧
    (∃ (q : Fin 8) (p : Packet) (i : Nat) (s : State), s.runs q.val 0x38 p 0 ∧ i = hdrInst p.hdr ∧
      s.deferFull q.val = false ∧ i ≠ 0 ∧ (s.ctx i).created = true ∧ (s.ctx i).frozen = false ∧
      (s.ctx i).drain = false ∧ (s.ctx i).oldGen = false) :=
  ⟨⟨0, packet 0x38 4 0 [], 4, run (packet 0x38 4 0 []) on, by decide +kernel⟩,
   ⟨0, packet 0x38 4 0 [], 4, { run (packet 0x38 4 0 []) on with insts := [(4, { created := true, frozen := true })] },
     by decide +kernel⟩,
   ⟨0, packet 0x38 4 0 [], 4, { run (packet 0x38 4 0 []) on with insts := [(4, { created := true, oldGen := true })] },
     by decide +kernel⟩,
   ⟨0, packet 0x38 4 0 [], 4, { run (packet 0x38 4 0 []) on with insts := [(4, { created := true })] },
     by decide +kernel⟩⟩

theorem witness_ThawSaveAndRestore :
    (∃ (q : Fin 8) (p : Packet) (i : Nat) (s : State), s.runs q.val 0x3B p 0 ∧ i = hdrInst p.hdr ∧
      hdrFlag p.hdr 0 = false ∧ (s.ctx i).frozen = true ∧ s.husking i = false ∧ (s.ctx i).phase ≠ .freezing ∧
      (s.ctx i).corrupt = false) ∧
    (∃ (q : Fin 8) (p : Packet) (i : Nat) (s : State), s.runs q.val 0x3B p 0 ∧ i = hdrInst p.hdr ∧
      hdrFlag p.hdr 0 = false ∧ (s.ctx i).frozen = false) ∧
    (∃ (q : Fin 8) (p : Packet) (i : Nat) (s : State), s.runs q.val 0x3B p 0 ∧ i = hdrInst p.hdr ∧
      hdrFlag p.hdr 0 = false ∧ (s.ctx i).frozen = true ∧ (s.husking i = true ∨ (s.ctx i).phase = .freezing)) ∧
    (∃ (q : Fin 8) (p : Packet) (i : Nat) (s : State), s.runs q.val 0x3B p 0 ∧ i = hdrInst p.hdr ∧
      hdrFlag p.hdr 0 = false ∧ (s.ctx i).frozen = true ∧ s.husking i = false ∧ (s.ctx i).phase ≠ .freezing ∧
      (s.ctx i).corrupt = true) ∧
    (∃ (q : Fin 8) (p : Packet) (i : Nat) (s : State), s.runs q.val 0x3B p 0 ∧ i = hdrInst p.hdr ∧
      hdrFlag p.hdr 0 = true ∧ (s.ctx i).frozen = true ∧ s.husking i = false ∧ s.deferFull q.val = false ∧
      (∀ d ∈ s.cmd.deferred, d.work ≠ .freeze i)) ∧
    (∃ (q : Fin 8) (p : Packet) (i : Nat) (s : State), s.runs q.val 0x39 p 0 ∧ i = hdrInst p.hdr ∧ i ≠ 0 ∧
      s.deferFull q.val = false ∧ p.word 1 = 2 ∧ (s.ctx i).created = true ∧ (s.ctx i).phase = .frozen ∧
      (s.ctx i).saving = false ∧ s.husking i = false ∧ s.cmd.cdw.owned = false ∧ (s.ctx i).corrupt = false) ∧
    (∃ (q : Fin 8) (p : Packet) (i : Nat) (s : State), s.runs q.val 0x39 p 0 ∧ i = hdrInst p.hdr ∧ i ≠ 0 ∧
      s.deferFull q.val = false ∧ p.word 1 = 2 ∧ (s.ctx i).created = true ∧ (s.ctx i).phase ≠ .frozen) ∧
    (∃ (q : Fin 8) (p : Packet) (i : Nat) (s : State), s.runs q.val 0x39 p 0 ∧ i = hdrInst p.hdr ∧ i ≠ 0 ∧
      s.deferFull q.val = false ∧ p.word 1 = 2 ∧ (s.ctx i).created = true ∧ (s.ctx i).phase = .frozen ∧
      (s.ctx i).saving = false ∧ s.husking i = false ∧ s.cmd.cdw.owned = false ∧ (s.ctx i).corrupt = true) ∧
    (∃ (q : Fin 8) (p : Packet) (i : Nat) (s : State), s.runs q.val 0x3A p 0 ∧ i = hdrInst p.hdr ∧ i ≠ 0 ∧
      s.deferFull q.val = false ∧ zeroFrom (p.word 1) 14 = true ∧ zeroFrom (p.word 2) 18 = true ∧
      zeroFrom (p.word 3) 18 = true ∧ zeroFrom (p.word 4) 16 = true ∧ (s.ctx i).created = false ∧ s.husking i = false ∧
      s.cmd.cdw.owned = false) ∧
    (∃ (q : Fin 8) (p : Packet) (i : Nat) (s : State), s.runs q.val 0x3A p 0 ∧ i = hdrInst p.hdr ∧ i ≠ 0 ∧
      s.deferFull q.val = false ∧ zeroFrom (p.word 1) 14 = true ∧ zeroFrom (p.word 2) 18 = true ∧
      zeroFrom (p.word 3) 18 = true ∧ zeroFrom (p.word 4) 16 = true ∧ (s.ctx i).created = false ∧ s.husking i = false ∧
      s.cmd.cdw.owned = true) :=
  ⟨⟨0, packet 0x3B 4 0 [], 4, { run (packet 0x3B 4 0 []) on with insts := [(4, { created := true, frozen := true, phase := .frozen })] },
    by decide +kernel⟩,
   ⟨0, packet 0x3B 4 0 [], 4, { run (packet 0x3B 4 0 []) on with insts := [(4, { created := true })] },
     by decide +kernel⟩,
   ⟨0, packet 0x3B 4 0 [], 4, run (packet 0x3B 4 0 []) (on.putCtx 4 { created := true, frozen := true, phase := .freezing }),
     by decide +kernel⟩,
   ⟨0, packet 0x3B 4 0 [], 4, run (packet 0x3B 4 0 []) (on.putCtx 4 { created := true, frozen := true, phase := .frozen, corrupt := true }),
     by decide +kernel⟩,
   ⟨0, packet 0x3B 4 1 [], 4, { run (packet 0x3B 4 1 []) on with insts := [(4, { created := true, en := true, frozen := true, phase := .frozen })] },
     by decide +kernel⟩,
   ⟨0, packet 0x39 4 0 [2], 4, { run (packet 0x39 4 0 [2]) on with insts := [(4, { created := true, en := true, frozen := true, phase := .frozen })] },
     by decide +kernel⟩,
   ⟨0, packet 0x39 4 0 [2], 4, run (packet 0x39 4 0 [2]) (on.putCtx 4 { created := true }), by decide +kernel⟩,
   ⟨0, packet 0x39 4 0 [2], 4, run (packet 0x39 4 0 [2]) (on.putCtx 4 { created := true, frozen := true, phase := .frozen, corrupt := true }),
     by decide +kernel⟩,
   ⟨0, packet 0x3A 4 0 [100, 0, 0, 0], 4, run (packet 0x3A 4 0 [100, 0, 0, 0]) on, by decide +kernel⟩,
   ⟨0, packet 0x3A 4 0 [0, 0, 0, 0], 4, window (.load 80) false 3 (run (packet 0x3A 4 0 [0, 0, 0, 0]) on),
     by decide +kernel⟩⟩

theorem witness_GateRulesOpenAnEpoch :
    (∃ (q : Fin 8) (p : Packet) (s : State), s.runs q.val 0x40 p 1 ∧ hdrLen p.hdr = 2 ∧
      pairOk (p.word 1) (p.word 2) = true ∧ s.cmd.gates = [] ∧ s.isHeld 3 = false ∧ s.bus.hotq = [] ∧
      s.bus.outstanding = [] ∧ s.relays = [] ∧ s.parked = [] ∧ s.waiting = [] ∧ pairKind (p.word 1) = 0) ∧
    (∃ (q : Fin 8) (p : Packet) (s : State), s.runs q.val 0x40 p 1 ∧ hdrLen p.hdr = 2 ∧
      pairOk (p.word 1) (p.word 2) = true ∧ s.cmd.gates = [] ∧ s.isHeld 3 = false ∧ s.bus.hotq = [] ∧
      s.bus.outstanding = [] ∧ s.relays = [] ∧ s.parked = [] ∧ s.waiting = [] ∧ pairKind (p.word 1) = 1) ∧
    (∃ (q : Fin 8) (p : Packet) (s : State), s.runs q.val 0x40 p 1 ∧ hdrLen p.hdr = 2 ∧
      pairOk (p.word 1) (p.word 2) = true ∧ s.cmd.gates = [] ∧ s.isHeld 3 = false ∧ s.bus.hotq = [] ∧
      s.bus.outstanding = [] ∧ s.relays = [] ∧ s.parked = [] ∧ s.waiting = [] ∧ pairKind (p.word 1) = 2) ∧
    (∃ (q : Fin 8) (p : Packet) (x : Nat × Judged) (s : State), s.runs q.val 0x40 p 1 ∧ hdrLen p.hdr = 2 ∧
      pairOk (p.word 1) (p.word 2) = true ∧ pairKind (p.word 1) = 0 ∧ s.cmd.gates = [] ∧ x ∈ s.bus.outstanding ∧
      x.2.epoch ≤ s.acc.epoch) ∧
    (∃ (q : Fin 8) (p : Packet) (s : State), s.runs q.val 0x40 p 0 ∧ (∃ x ∈ pairsOf p, pairOk x.1 x.2.1 = false)) :=
  ⟨⟨0, packet 0x40 0 0 [3 * 4, 77], run (packet 0x40 0 0 [3 * 4, 77]) on, by decide +kernel⟩,
   ⟨0, packet 0x40 0 0 [13, 0x0000280003005007], run (packet 0x40 0 0 [13, 0x0000280003005007]) on, by decide +kernel⟩,
   ⟨0, packet 0x40 0 0 [14, 0x0020400000C00007], run (packet 0x40 0 0 [14, 0x0020400000C00007]) on, by decide +kernel⟩,
   ⟨0, packet 0x40 0 0 [4, 7], (3, ⟨0, 4⟩), run (packet 0x40 0 0 [4, 7]) { on with bus := { on.bus with outstanding := [(3, ⟨0, 4⟩)] } },
     by decide +kernel⟩,
   ⟨0, packet 0x40 0 0 [3, 77], run (packet 0x40 0 0 [3, 77]) on, by decide +kernel⟩⟩

theorem witness_SealAndRungCommands :
    (∃ (q : Fin 8) (p : Packet) (s : State), s.runs q.val 0x48 p 1 ∧ s.mode.mode ≠ .test ∧ s.mode.mode ≠ .quiesce ∧
      s.mode.mode ≠ .ductus ∧ s.mode.mode ≠ .wake ∧ s.unsealOver = false ∧ s.cfg.sealed_ = false) ∧
    (∃ (q : Fin 8) (p : Packet) (s : State), s.runs q.val 0x48 p 1 ∧ s.mode.mode ≠ .test ∧ s.mode.mode ≠ .quiesce ∧
      s.mode.mode ≠ .ductus ∧ s.mode.mode ≠ .wake ∧ s.unsealOver = false ∧ s.cfg.sealed_ = true) ∧
    (∃ (q : Fin 8) (p : Packet) (s : State), s.runs q.val 0x48 p 1 ∧
      (s.mode.mode = .test ∨ s.mode.mode = .quiesce ∨ s.mode.mode = .ductus ∨ s.mode.mode = .wake)) ∧
    (∃ (q : Fin 8) (p : Packet) (s : State), s.runs q.val 0x49 p 0 ∧ s.cfg.sealed_ = true ∧ s.cmd.commitReply = none ∧
      s.cmd.cdw.owned = false) ∧
    (∃ (q : Fin 8) (p : Packet) (s : State), s.runs q.val 0x49 p 0 ∧ s.cfg.sealed_ = false) ∧
    (∃ (q : Fin 8) (p : Packet) (s : State), s.runs q.val 0x50 p 1 ∧ zeroFrom (p.word 1) 3 = true ∧
      fld (p.word 1) 0 3 < 4 ∧ s.pwr.apply = 0 ∧ s.pwr.pin = 0 ∧ s.pwr.rung = 0 ∧ s.pwr.ack = 0) ∧
    (∃ (q : Fin 8) (p : Packet) (s : State), s.runs q.val 0x50 p 0 ∧ zeroFrom (p.word 1) 3 = true ∧
      4 ≤ fld (p.word 1) 0 3 ∧ hdrFlag p.hdr 0 = false) :=
  ⟨⟨0, packet 0x48 0 0 [], run (packet 0x48 0 0 []) on, by decide +kernel⟩,
   ⟨0, packet 0x48 0 0 [], { run (packet 0x48 0 0 []) on with cfg := { sealed_ := true, ref := 9 }, mode := { mode := .service } },
     by decide +kernel⟩,
   ⟨0, packet 0x48 0 0 [], run (packet 0x48 0 0 []) { on with mode := { mode := .quiesce } }, by decide +kernel⟩,
   ⟨0, packet 0x49 0 0 [], { run (packet 0x49 0 0 []) on with cfg := { sealed_ := true, ref := 9 }, mode := { mode := .service } },
     by decide +kernel⟩,
   ⟨0, packet 0x49 0 0 [], run (packet 0x49 0 0 []) on, by decide +kernel⟩,
   ⟨0, packet 0x50 0 0 [3], run (packet 0x50 0 0 [3]) on, by decide +kernel⟩,
   ⟨0, packet 0x50 0 0 [4], run (packet 0x50 0 0 [4]) on, by decide +kernel⟩⟩

theorem witness_AuditAndRecordCommands :
    (∃ (q : Fin 8) (p : Packet) (s : State), s.runs q.val 0x58 p 0 ∧ s.deferFull q.val = false) ∧
    (∃ (q : Fin 8) (p : Packet) (s : State), s.runs q.val 0x5A p 0 ∧ s.deferFull q.val = false) ∧
    (∃ (q : Fin 8) (p : Packet) (s : State), s.runs q.val 0x59 p 3 ∧ s.deferFull q.val = false ∧ p.word 1 = 0 ∧
      s.cmd.cdw.owned = false ∧ (∀ d ∈ s.cmd.deferred, d.id < s.cmd.nextId) ∧ (∀ d ∈ s.cmd.deferred, d.isFence = false)) ∧
    (∃ (q : Fin 8) (p : Packet) (b : Bool) (c : Image) (s : State), s.runs q.val 0x59 p 0 ∧ s.deferFull q.val = false ∧
      p.word 1 = (if b then 2 else 1) ∧ s.cmd.cdw.owned = false ∧ s.rcd.writing = some (b, c)) ∧
    (∃ (q : Fin 8) (p : Packet) (s : State), s.runs q.val 0x59 p 0 ∧ s.deferFull q.val = false ∧
      zeroFrom (p.word 1) 2 = true ∧ s.cmd.cdw.owned = true) :=
  ⟨⟨0, packet 0x58 0 1 [], run (packet 0x58 0 1 []) on, by decide +kernel⟩,
   ⟨0, packet 0x5A 0 0 [], run (packet 0x5A 0 0 []) on, by decide +kernel⟩,
   ⟨0, packet 0x59 0 0 [0], run (packet 0x59 0 0 [0]) on, by decide +kernel⟩,
   ⟨0, packet 0x59 0 0 [1], false, { seq := 1, writes := 1, tick := 0, data := {} }, run (packet 0x59 0 0 [1]) { on with rcd := { on.rcd with writing := some (false, { seq := 1, writes := 1, tick := 0, data := {} }) } },
     by decide +kernel⟩,
   ⟨0, packet 0x59 0 0 [1], window (.load 80) false 3 (run (packet 0x59 0 0 [1]) on), by decide +kernel⟩⟩

theorem witness_DomainAndBulkCommands :
    (∃ (q : Fin 8) (p : Packet) (n : Nat) (s : State), s.runs q.val 0x60 p 0 ∧ n = fld (p.word 1) 0 4 ∧
      zeroFrom (p.word 1) 4 = true ∧ s.deferFull q.val = false ∧ resettable n = true ∧ s.mode.mode ≠ .ductus ∧
      s.mode.mode ≠ .wake ∧ s.mode.mode ≠ .warm ∧ s.rst.dom.phase = 0) ∧
    (∃ (q : Fin 8) (p : Packet) (n : Nat) (s : State), s.runs q.val 0x60 p 0 ∧ n = fld (p.word 1) 0 4 ∧
      zeroFrom (p.word 1) 4 = true ∧ s.deferFull q.val = false ∧ resettable n = true ∧
      (s.mode.mode = .ductus ∨ s.mode.mode = .wake ∨ s.mode.mode = .warm ∨ s.rst.dom.phase ≠ 0)) ∧
    (∃ (q : Fin 8) (p : Packet) (n : Nat) (s : State), s.runs q.val 0x60 p 0 ∧ n = fld (p.word 1) 0 4 ∧
      zeroFrom (p.word 1) 4 = true ∧ s.deferFull q.val = false ∧ resettable n = false) ∧
    (∃ (q : Fin 8) (p : Packet) (s : State), s.runs q.val 0x68 p 0 ∧ s.deferFull q.val = false ∧ bulkLoadOk p = true ∧
      bulkSpace p = 0 ∧ (s.mode.mode = .start ∨ s.mode.mode = .test) ∧ s.cmd.cdw.owned = false) ∧
    (∃ (q : Fin 8) (p : Packet) (s : State), s.runs q.val 0x68 p 0 ∧ s.deferFull q.val = false ∧ bulkLoadOk p = true ∧
      bulkSpace p = 0 ∧ ((s.mode.mode ≠ .start ∧ s.mode.mode ≠ .test) ∨ s.cmd.cdw.owned = true)) ∧
    (∃ (q : Fin 8) (p : Packet) (s : State), s.runs q.val 0x69 p 2 ∧ s.deferFull q.val = false ∧ bulkBits p = true ∧
      bulkSpace p = 0 ∧ bulkRun (bulkAddr p) (bulkCount p) = true ∧ s.cmd.cdw.owned = false ∧
      (∀ d ∈ s.cmd.deferred, d.id < s.cmd.nextId) ∧ (∀ d ∈ s.cmd.deferred, d.isFence = false)) ∧
    (∃ (q : Fin 8) (p : Packet) (s : State), s.runs q.val 0x69 p 2 ∧ s.deferFull q.val = false ∧ bulkBits p = true ∧
      bulkSpace p = 0 ∧ bulkRun (bulkAddr p) (bulkCount p) = true ∧ s.cmd.cdw.owned = true) :=
  ⟨⟨0, packet 0x60 0 0 [8], 8, run (packet 0x60 0 0 [8]) on, by decide +kernel⟩,
   ⟨0, packet 0x60 0 0 [4], 4, run (packet 0x60 0 0 [4]) { on with rst := { on.rst with dom := { phase := 1, domain := 5 } } },
     by decide +kernel⟩,
   ⟨0, packet 0x60 0 0 [2], 2, run (packet 0x60 0 0 [2]) on, by decide +kernel⟩,
   ⟨0, packet 0x68 0 0 [0, 1], run (packet 0x68 0 0 [0, 1]) on, by decide +kernel⟩,
   ⟨0, packet 0x68 0 0 [0x50, 1], run (packet 0x68 0 0 [0x50, 1]) { on with mode := { mode := .service } },
     by decide +kernel⟩,
   ⟨0, packet 0x69 0 0 [0, 1], run (packet 0x69 0 0 [0, 1]) on, by decide +kernel⟩,
   ⟨0, packet 0x69 0 0 [0x50, 1], window (.load 80) false 3 (run (packet 0x69 0 0 [0x50, 1]) on), by decide +kernel⟩⟩

end Sys2Proof.Tests
end

section
/-! The acceptance of an event at its record (R106, R107, R117, R131): what each of its three cases leaves, and the claims O8 and O9. -/
namespace Sys2Proof.SourceState
open Sys2Proof Sys2Proof.Machine

/-! ### Readings that a ledger unit and a count leave -/

@[simp] theorem ledge_at_source (s : State) (i : Nat) (u : Tally) (x : Nat) : (s.ledge i u).source x = s.source x := by
  simp [State.source]

@[simp] theorem countMember_at_source (s : State) (e n x : Nat) : (s.countMember e n).source x = s.source x := by
  simp [State.source]

@[simp] theorem countMember_at_ledger (s : State) (e n j : Nat) : (s.countMember e n).ledger j = s.ledger j := by
  simp [State.ledger]

/-! ### The three cases of an acceptance -/

/-- The record after a merge (R107). -/
def mergedRec (r : SrcRec) (asLevel : Bool) (payload : BitVec 32) : SrcRec :=
  { r with originLevel := r.originLevel && asLevel, payload := payload, merged := true }

/-- STATE after a new pending event (R106). -/
def pendingState : SrcState → SrcState
  | .active => .activePending
  | .activePending => .activePending
  | _ => .pending

/-- The record with a new pending event of owner `i` (R106). -/
def newRec (r : SrcRec) (i : Inst) (asLevel : Bool) (payload : BitVec 32) (stamp : Nat) : SrcRec :=
  { r with st := pendingState r.st, originLevel := asLevel, payload := payload, merged := false, stamp := stamp, carried := false,
           gen := i.parity, place := .unplaced,
           held := { frozen := i.frozen && decide (pendingState r.st = .activePending) } }

theorem newRec_pend (r : SrcRec) (i : Inst) (asLevel : Bool) (payload : BitVec 32) (stamp : Nat) :
    (newRec r i asLevel payload stamp).pend = true := by
  cases h : r.st <;> simp [newRec, pendingState, SrcRec.pend, h]

section
variable (s : State) (e : Nat) (asLevel : Bool) (payload : BitVec 32) (stamp : Nat)

theorem accept_of_not_serving (h : ((s.source e).enabled && (s.ctx (s.source e).inst).serving) = false) :
    s.accept e asLevel payload stamp = s.ledge (s.source e).inst .acceptDiscard := by
  simp [State.accept, h]

theorem accept_of_pend (h : ((s.source e).enabled && (s.ctx (s.source e).inst).serving) = true)
    (hp : (s.source e).pend = true) :
    s.accept e asLevel payload stamp =
      ((s.putSource e (mergedRec (s.source e) asLevel payload)).ledge (s.source e).inst .merge).countMember e stamp := by
  cases hs : (s.source e).st <;> simp [SrcRec.pend, hs] at hp <;> simp [State.accept, h, hs, mergedRec]

theorem accept_of_not_pend (h : ((s.source e).enabled && (s.ctx (s.source e).inst).serving) = true)
    (hp : (s.source e).pend = false) :
    s.accept e asLevel payload stamp =
      ((s.putSource e (newRec (s.source e) (s.ctx (s.source e).inst) asLevel payload stamp)).ledge
        (s.source e).inst .accept).countMember e stamp := by
  cases hs : (s.source e).st <;> simp [SrcRec.pend, hs] at hp <;> simp [State.accept, h, hs, newRec, pendingState]

end

/-- A record written with its ledger unit and its count: the unit moves the block ledger and that of its owner, and the other
ledgers and records stay (R16, R131). -/
theorem recorded_moves (s : State) (e i : Nat) (r : SrcRec) (u : Tally) (n : Nat) :
    let t := ((s.putSource e r).ledge i u).countMember e n
    t.ldg.block = s.ldg.block.move u ∧ t.ledger i = (s.ledger i).move u ∧ (∀ j, j ≠ i → t.ledger j = s.ledger j) ∧
    (∀ x, x ≠ e → t.source x = s.source x) ∧ t.source e = r := by
  refine ⟨by simp [State.block_ledge], by simp [State.ledger_ledge], fun j hj => ?_, fun x hx => ?_, by simp⟩
  · simp [State.ledger_ledge, hj.symm]
  · simp [State.source_putSource_ne _ _ _ hx.symm]

/-! ### The claims -/

/-- Settles O9: the three cases of an acceptance, each with its unit. -/
theorem acceptMovesTheLedgers : Obligations.AcceptMovesTheLedgers := by
  intro s e asLevel payload stamp r u t
  cases hs : r.enabled && (s.ctx r.inst).serving with
  | false =>
    have hu : u = .acceptDiscard := by simp only [u, hs]; rfl
    have ht : t = s.ledge r.inst .acceptDiscard := accept_of_not_serving s e asLevel payload stamp hs
    rw [ht, hu]
    refine ⟨by simp [State.block_ledge], by simp [State.ledger_ledge], fun j hj => ?_, by simp, by simp [r], by simp⟩
    simp [State.ledger_ledge, hj.symm]
  | true =>
    cases hp : r.pend with
    | true =>
      have hu : u = .merge := by simp only [u, hs, hp]; rfl
      have ht := accept_of_pend s e asLevel payload stamp hs hp
      obtain ⟨hblock, howner, hledgers, hsources, -⟩ :=
        recorded_moves s e r.inst (mergedRec r asLevel payload) .merge stamp
      rw [← ht] at hblock howner hledgers hsources
      rw [hu]
      exact ⟨hblock, howner, hledgers, hsources, by simp, by simp⟩
    | false =>
      have hu : u = .accept := by simp only [u, hs, hp]; rfl
      have ht := accept_of_not_pend s e asLevel payload stamp hs hp
      obtain ⟨hblock, howner, hledgers, hsources, hrec⟩ :=
        recorded_moves s e r.inst (newRec r (s.ctx r.inst) asLevel payload stamp) .accept stamp
      rw [← ht] at hblock howner hledgers hsources hrec
      rw [hu]
      refine ⟨hblock, howner, hledgers, hsources, by simp, fun _ => ?_⟩
      rw [show t.source e = _ from hrec]
      exact ⟨newRec_pend .., rfl, rfl, rfl, rfl⟩

/-- A deassertion leaves the pending event of a source whose origin is edge (R107, R117). -/
theorem applyDeassert_of_edge (s : State) (e : Nat) (h : (s.source e).originLevel = false) :
    ((s.applyDeassert e).source e).pend = (s.source e).pend ∧ ((s.applyDeassert e).source e).place = (s.source e).place := by
  unfold State.applyDeassert
  split
  · exact ⟨rfl, rfl⟩
  · simp [h, SrcRec.pend]

/-- Settles O8: the merge case of an acceptance, and the deassertion that meets an edge origin. -/
theorem mergeKeepsStampAndPlace : Obligations.MergeKeepsStampAndPlace := by
  intro s e asLevel payload stamp hs hp r t r'
  have hr' : r' = mergedRec r asLevel payload := by
    simp only [r', t, accept_of_pend s e asLevel payload stamp hs hp, State.source_putSource_same, countMember_at_source, ledge_at_source, r]
  have hedge : r'.originLevel = false →
      ((t.applyDeassert e).source e).pend = true ∧ ((t.applyDeassert e).source e).place = r.place := by
    intro ho
    obtain ⟨hkeep, hplace⟩ := applyDeassert_of_edge t e ho
    rw [hkeep, hplace, show t.source e = mergedRec r asLevel payload from hr']
    exact ⟨hp, rfl⟩
  rw [hr'] at hedge ⊢
  exact ⟨rfl, rfl, rfl, rfl, rfl, by simp [t], by simp [t], rfl, rfl, rfl, hedge⟩

end Sys2Proof.SourceState
end

section
/-! The results of the event engines (R101, R104, R237, R239, R267): the choice of a cluster, the queueing of an event that nothing
holds, the count that only counts, and the claim O23. -/
namespace Sys2Proof.SourceState
open Sys2Proof Sys2Proof.Machine

/-! ### The choice of a cluster (R267) -/

/-- The state in which a work item of VI `i` runs when cluster `c` chooses it (R267, R450). -/
def turned (s : State) (c : Nat) (waiting : List (Fin 512)) (i : Nat) : State :=
  let k := (tget (fun _ => {}) s.clusters c : Cluster).turn (fun j => (s.ctx j).weight) (addOnce i (waiting.map (·.val)))
  ({ s with clusters := tset (fun _ => {}) s.clusters c k }).stageOk 4 c

theorem byCluster_of_picks {s : State} {c : Fin 16} {l : List (Fin 512)} {i : Nat} (h : s.picks c l i) (run : State → State) :
    s.byCluster c.val l i run = run (turned s c.val l i) := by
  simp only [State.byCluster, turned, if_pos h]

theorem byCluster_of_not_picks {s : State} {c : Fin 16} {l : List (Fin 512)} {i : Nat} (h : ¬ s.picks c l i)
    (run : State → State) : s.byCluster c.val l i run = s := by
  simp only [State.byCluster, if_neg h]

theorem worksOn_of_idle {s : State} (e : Nat) (h : s.isHeld 5 = true ∨ s.isHeld 2 = true ∨ 2 ≤ s.pwr.rung) :
    s.worksOn e = false := by
  rcases h with h | h | h
  · simp [State.worksOn, h]
  · simp [State.worksOn, h]
  · simp [State.worksOn, Nat.not_lt.2 h]

/-- The state with another rung page. -/
def withPwr (s : State) (p : Pwr) : State := { s with pwr := p }

/-- Outside PARK and in rung 0 a wake source changes the rung page at most (R433, R435). -/
theorem wake_rung0 {s : State} (hm : s.mode.mode ≠ .park) (hr : s.pwr.rung = 0) (k : WakeSrc) :
    ∃ p, s.wake k = withPwr s p := by
  have hmode : (s.mode.mode == .park) = false := by simpa using hm
  cases hp : s.pwr.parking with
  | true => exact ⟨_, by rw [State.wake, hmode, hp]; rfl⟩
  | false => exact ⟨s.pwr, by simp [State.wake, hmode, hp, State.wakeRung, hr, withPwr]⟩

/-! ### Queueing (R101, R127, R161) -/

theorem level_putLevel (c : Tgt) (p : Nat) (l : List Nat) : (c.putLevel p l).level p = l := tget_tset_same ..

theorem source_commit_ne (s : State) {e x : Nat} (r0 : SrcRec) (h : x ≠ e) : (s.commit e r0).source x = s.source x := by
  simp only [State.commit]
  split
  · rfl
  · exact State.source_putSource_ne s e _ h.symm

/-- The end of an order changes nothing of its record but the change count (R98). -/
theorem source_commit_same (s : State) (e : Nat) (r0 : SrcRec) :
    ∃ n, (s.commit e r0).source e = { s.source e with changes := n } := by
  simp only [State.commit]
  split
  · exact ⟨_, rfl⟩
  · exact ⟨_, State.source_putSource_same s e _⟩

/-- The refills of a VI that are not due at a stamp (R264). -/
theorem dueRefills_of_early {s : State} {i stamp : Nat} (h : s.tb.good = false ∨ stamp < (s.ctx i).nextRefill) :
    s.dueRefills i stamp = s := by
  rcases h with h | h
  · simp [State.dueRefills, h]
  · simp [State.dueRefills, State.refillsTo, Nat.not_le.2 h]

/-- No reason of R101 holds the event of `e`: it is due, and its owner takes it. -/
structure Unheld (s : State) (e : Nat) : Prop where
  due : s.due e = true
  notFailsafe : s.mode.mode ≠ .failsafe
  notFrozen : (s.ctx (s.source e).inst).frozen = false
  notDormant : s.isDormant e {} = false
  notMember : s.isMember e = false
  noRate : (s.ctx (s.source e).inst).rate = 0
  inQuota : (s.ctx (s.source e).inst).cellsPlaced < (s.ctx (s.source e).inst).quota
  noQuotaList : (s.ctx (s.source e).inst).quotaList = []

theorem queueOrHold_of_unheld {s : State} {e : Nat} (h : Unheld s e) :
    s.queueOrHold e {} = (s.putCtx (s.source e).inst (s.ctx (s.source e).inst)).enqueue e := by
  obtain ⟨hdue, hmode, hfrozen, hdormant, hmember, hrate, hquota, hlist⟩ := h
  have hq : ¬ (s.ctx (s.source e).inst).quota ≤ (s.ctx (s.source e).inst).cellsPlaced := Nat.not_le.2 hquota
  simp only [State.due, Bool.and_eq_true, Bool.not_eq_true', beq_iff_eq] at hdue
  obtain ⟨⟨⟨hst, hplaced⟩, hheld⟩, -⟩ := hdue
  simp [State.queueOrHold, State.rateOrQueue, State.onCtx, hst, hplaced, hheld, hmode, hfrozen, hdormant, hmember, hrate, hq, hlist]

theorem servingOf_congr {s s' : State} (h : s'.tgts = s.tgts) (t : Nat) : s'.servingOf t = s.servingOf t := by
  have htgt : s'.tgt = s.tgt := funext fun x => by rw [State.tgt, h, State.tgt]
  rw [State.servingOf, State.servingOf, State.deputyServes, State.deputyServes, htgt]

/-- An event queued at its serving target with one cell counted (R127, R153, R161), as one change of its record. -/
theorem enqueue_commit_leaves (s : State) (e : Nat) (r0 : SrcRec) {r : SrcRec} {d : Nat} (hr : s.source e = r)
    (hd : s.servingOf r.target = d) :
    let t := (s.enqueue e).commit e r0
    (t.source e).place = .queued ∧ (t.source e).serving = d ∧ (t.tgt d).level r.prio = (s.tgt d).level r.prio ++ [e] ∧
    (t.ctx r.inst).cellsPlaced = (s.ctx r.inst).cellsPlaced + 1 ∧ t.ldg = s.ldg ∧ (∀ x, x ≠ e → t.source x = s.source x) := by
  intro t
  obtain ⟨n, hn⟩ := source_commit_same (s.enqueue e) e r0
  have hrec : (s.enqueue e).source e = { r with place := .queued, serving := d, carried := false } := by
    simp [State.enqueue, hr, hd]
  refine ⟨?_, ?_, ?_, ?_, ?_, fun x hx => ?_⟩
  · rw [hn, hrec]
  · rw [hn, hrec]
  · simp [t, State.enqueue, hr, hd, State.linkTail, level_putLevel]
  · simp [t, State.enqueue, hr]
  · simp [t, State.enqueue]
  · rw [source_commit_ne _ _ hx]
    simp [State.enqueue, State.source_putSource_ne _ _ _ hx.symm]

/-! ### ENGINE_RESULT_APPLY of a placing (R101, R104) -/

theorem exec_place (c : Fin 16) (l : List (Fin 512)) (e : Fin 266240) (n : Fin 65536) (s : State) :
    exec (.engineResultApply ⟨c, l, .place e n⟩) s = .next (if s.worksOn e.val then
      s.byCluster c.val l (s.source e.val).inst fun s => s.placeResult e.val n.val else s) := rfl

theorem engineAt_place {s : State} {e : Nat} (h : Unheld s e) (hstale : s.isStale e = false)
    (hearly : s.tb.good = false ∨ (s.source e).stamp < (s.ctx (s.source e).inst).nextRefill) :
    (s.engineAt e fun u => (u.dueRefills (s.source e).inst (s.source e).stamp).placeNow e {}) =
      ((s.putCtx (s.source e).inst (s.ctx (s.source e).inst)).enqueue e).commit e (s.source e) := by
  rw [State.engineAt, if_neg (by simp [hstale]), dueRefills_of_early hearly, State.placeNow, queueOrHold_of_unheld h]

/-- A placing with the change count of the record, of an event that nothing holds, queues it (R101, R104). -/
theorem placeResult_of_unheld {s : State} {e : Nat} (h : Unheld s e) (hpark : s.mode.mode ≠ .park) (hrung : s.pwr.rung = 0)
    (hscan : s.awaitsScan e = false) (hstale : s.isStale e = false)
    (hearly : s.tb.good = false ∨ (s.source e).stamp < (s.ctx (s.source e).inst).nextRefill) :
    ∃ p, s.placeResult e (s.source e).changes =
      (((withPwr s p).putCtx (s.source e).inst (s.ctx (s.source e).inst)).enqueue e).commit e (s.source e) := by
  obtain ⟨p, hw⟩ := wake_rung0 hpark hrung .engineWork
  obtain ⟨hdue, hsafe, hfrozen, hdormant, hmember, hrate, hquota, hlist⟩ := h
  have hu : Unheld (withPwr s p) e := ⟨hdue, hsafe, hfrozen, hdormant, hmember, hrate, hquota, hlist⟩
  refine ⟨p, ?_⟩
  simp only [State.placeResult, bne_self_eq_false, hdue, hscan, Bool.not_true, Bool.or_false, Bool.false_eq_true, if_false, hw]
  exact engineAt_place hu hstale hearly

theorem placeResult_of_changed {s : State} {e n : Nat} (h : (s.source e).changes ≠ n) : s.placeResult e n = s := by
  simp [State.placeResult, h]

/-! ### ENGINE_RESULT_APPLY of a count (R237, R239) -/

theorem exec_count {c : Fin 16} {l : List (Fin 512)} {g : Fin 65536} {k : Nat} {x : LigCount} {s : State}
    (h : s.nextCount g.val = some (k, x)) :
    exec (.engineResultApply ⟨c, l, .count g⟩) s = .next (if s.worksOn x.eid then
      s.byCluster c.val l (s.grp g.val).inst fun s =>
        (({ s with counts := s.counts.eraseIdx k }).wake .engineWork).groupCount x else s) := by
  simp only [exec, execEngineResultApply, h]

/-- The group of a count that only counts: its window is open, and COUNT is one more (R239). -/
def counted (g : Group) (stamp : Nat) : Group :=
  { g with open_ := true, start := if g.open_ then g.start else low31 stamp, count := (if g.open_ then g.count else 0) + 1 }

/-- A count below THRESH at an enabled group, stamped not before CLOSED (R239). -/
theorem groupCount_below {s : State} {x : LigCount} (hen : (s.grp x.group).en = true) (hmode : s.mode.mode ≠ .quiesce)
    (hafter : s.age x.stamp ≤ s.age (s.grp x.group).closed)
    (hbelow : (if (s.grp x.group).open_ then (s.grp x.group).count else 0) + 1 < (s.grp x.group).thresh) :
    s.groupCount x = s.putGrp x.group (counted (s.grp x.group) x.stamp) := by
  have hbefore : s.beforeClosed x = false := by simpa [State.beforeClosed] using hafter
  cases ho : (s.grp x.group).open_ with
  | true =>
    have : ¬ (s.grp x.group).thresh ≤ (s.grp x.group).count + 1 := by simpa [ho] using hbelow
    simp [State.groupCount, counted, hen, hmode, hbefore, ho, this]
  | false =>
    have : ¬ (s.grp x.group).thresh ≤ 1 := by simpa [ho] using hbelow
    simp [State.groupCount, counted, hen, hmode, hbefore, ho, this]

/-- The same for a count that has left the list of `s`, after its wake. -/
theorem woken_groupCount_below {s : State} {x : LigCount} (cs : List LigCount) (hpark : s.mode.mode ≠ .park)
    (hrung : s.pwr.rung = 0) (hen : (s.grp x.group).en = true) (hmode : s.mode.mode ≠ .quiesce)
    (hafter : s.age x.stamp ≤ s.age (s.grp x.group).closed)
    (hbelow : (if (s.grp x.group).open_ then (s.grp x.group).count else 0) + 1 < (s.grp x.group).thresh) :
    ∃ p, (({ s with counts := cs }).wake .engineWork).groupCount x =
      (withPwr { s with counts := cs } p).putGrp x.group (counted (s.grp x.group) x.stamp) := by
  obtain ⟨p, hw⟩ := wake_rung0 (s := { s with counts := cs }) hpark hrung .engineWork
  refine ⟨p, ?_⟩
  rw [hw]
  exact groupCount_below (s := withPwr { s with counts := cs } p) hen hmode hafter hbelow

/-! ### The claim -/

/-- Settles O23: each result runs by `byCluster`, where the queueing or the count follows the wake. -/
theorem engineResults : Obligations.EngineResults := by
  refine ⟨?place, ?changed, ?count, ?notPicked, ?idle⟩
  case place =>
    intro c l e s hworks hpark hsafe hrung hearly hpicks hdue hscan hstale hchanges hfrozen hdormant hmember hrate hquota hlist
    have hn : (Fin.ofNat 65536 (s.source e.val).changes).val = (s.source e.val).changes := Nat.mod_eq_of_lt hchanges
    have hu : Unheld (turned s c.val l (s.source e.val).inst) e.val :=
      ⟨hdue, hsafe, hfrozen, hdormant, hmember, hrate, hquota, hlist⟩
    obtain ⟨p, hp⟩ := placeResult_of_unheld hu hpark hrung hscan hstale hearly
    have hrun : exec (.engineResultApply ⟨c, l, .place e (Fin.ofNat 65536 (s.source e.val).changes)⟩) s =
        .next ((turned s c.val l (s.source e.val).inst).placeResult e.val (s.source e.val).changes) := by
      rw [exec_place, if_pos hworks, byCluster_of_picks hpicks, hn]
    refine ⟨_, hrun.trans (congrArg _ hp), ?_⟩
    obtain ⟨hplace, hserving, hlevel, hcells, hldg, hothers⟩ := enqueue_commit_leaves
      (r := s.source e.val) (d := s.servingOf (s.source e.val).target)
      ((withPwr (turned s c.val l (s.source e.val).inst) p).putCtx (s.source e.val).inst
        (s.ctx (s.source e.val).inst)) e.val (s.source e.val) rfl (servingOf_congr (s := s) rfl _)
    refine ⟨hplace, hserving, hlevel, hcells.trans ?_, hldg, hothers⟩
    exact congrArg (fun i : Inst => i.cellsPlaced + 1) (State.ctx_putCtx_same ..)
  case changed =>
    intro c l e n s hn
    rw [exec_place]
    split
    · by_cases hpicks : s.picks c l (s.source e.val).inst
      · rw [byCluster_of_picks hpicks, placeResult_of_changed (s := turned s c.val l (s.source e.val).inst) hn]
        exact ⟨_, rfl, rfl, rfl, rfl⟩
      · rw [byCluster_of_not_picks hpicks]
        exact ⟨_, rfl, rfl, rfl, rfl⟩
    · exact ⟨_, rfl, rfl, rfl, rfl⟩
  case count =>
    intro c l g k x s hnext hpicks hworks hpark hquiesce hrung hg hen hafter hbelow
    rw [← hg] at hpicks hen hafter hbelow ⊢
    obtain ⟨p, hp⟩ := woken_groupCount_below (s := turned s c.val l (s.grp x.group).inst) (s.counts.eraseIdx k)
      hpark hrung hen hquiesce hafter hbelow
    have hrun : exec (.engineResultApply ⟨c, l, .count g⟩) s =
        .next ((({ turned s c.val l (s.grp x.group).inst with counts := s.counts.eraseIdx k }).wake .engineWork).groupCount x) := by
      rw [exec_count hnext, if_pos hworks, ← hg, byCluster_of_picks hpicks]
      rfl
    refine ⟨_, hrun.trans (congrArg _ hp), ?_⟩
    rw [State.grp_putGrp_same]
    exact ⟨rfl, rfl, rfl, rfl, rfl, rfl⟩
  case notPicked =>
    intro c l e n s hpicks
    rw [exec_place, byCluster_of_not_picks hpicks, ite_self]
  case idle =>
    intro c l w s hidle
    cases w with
    | place e n => rw [exec_place, worksOn_of_idle _ hidle]; rfl
    | count g =>
      cases hnext : s.nextCount g.val with
      | none => simp only [exec, execEngineResultApply, hnext]
      | some kx => rw [exec_count hnext, worksOn_of_idle _ hidle]; rfl

end Sys2Proof.SourceState
end

section
/-! SRC_READ with a clamp at a bank with one free wait slot (R105, R324, R358): the refutation of O49. -/
namespace Sys2Proof.SourceState
open Sys2Proof Sys2Proof.Machine

/-- A SRC_READ with TAG 7 of source 12 with COUNT 0, which is clamped to 1 (R324). -/
def clampedRead : Packet := { hdr := BitVec.ofNat 64 (0x11 + 7 * 2 ^ 8 + 1 * 2 ^ 31), words := [12] }

/-- House source 12 (EID 0xE0C) of VI 0 is being withdrawn from target 0, and fifteen of its pulses are parked: bank 12 has one wait
slot left (R105). Queue 0 runs the read of source 12, which stands at the same bank. -/
def oneSlotLeft : State :=
  { mode := { mode := .start }, tb := { good := true, count := 50000 },
    rst := { cold := [], held := [], coldReach := false, ring := false, needInit := false },
    src := [(0xE0C, { st := .pending, en := true, place := .withdrawing, stamp := 100 })],
    tgts := [(0, { svc := .online, pres := some 0xE0C, held := true, presLevel := 0, wdrBusy := true })],
    insts := [(0, { Inst.dflt 0 with cellsPlaced := 1 })],
    ldg := { inst := [(0, { accepted := 1, outstanding := 1 })], block := { accepted := 1, outstanding := 1 } },
    parked := (List.range 15).map fun k => (0xE0C, .pulse 0 (101 + k) {}),
    cmd := { fwReady := true, queues := [(0, { bindValid := true, cur := some clampedRead })] } }

/-- Queue 0 has not replied to its command. -/
def unanswered : Host.Outcome State Fault Refusal → Bool
  | .next t => (t.queue 0).cur.isSome
  | _ => false

/-- The clamp of COUNT pulses house source 12, whose withdrawal parks the pulse in the last wait slot of bank 12, and the order at
source 12 waits at its port. -/
theorem clampedRead_unanswered : unanswered (exec (.srcRead 0) oneSlotLeft) = true := by decide +kernel

/-- Refutes O49: the premise of the SRC_READ clause that no bank of its sources is full speaks of the state before the clamp of COUNT
is recorded. The clamp raises house source 12, and its pulse can take the last wait slot of a bank that the read needs; the read then
waits at `oneSlotLeft` and has no reply. -/
theorem not_sourceConfigAndRead : ¬ Obligations.SourceConfigAndRead := by
  intro h
  obtain ⟨-, -, -, -, hread, -⟩ := h
  have hruns : oneSlotLeft.runs 0 0x11 clampedRead 128 := by decide +kernel
  have hfree : ∀ e ∈ readRun (clampedRead.word 1), oneSlotLeft.isStale e = false ∧ oneSlotLeft.withdrawing e = false ∧
      oneSlotLeft.bankFull e = false ∧ oneSlotLeft.owns 0 e = true := by decide +kernel
  obtain ⟨t, ht, ⟨-, -, hanswered⟩, -⟩ := hread 0 clampedRead oneSlotLeft hruns (by decide) (by decide) hfree
  have hcur : (t.queue 0).cur = none := hanswered
  have hwaits := clampedRead_unanswered
  rw [ht] at hwaits
  simp [unanswered, hcur] at hwaits

end Sys2Proof.SourceState
end

section
/-! Ranking, sweeps and targets: the refutations of O27, O33 and O52, each with a state that the model evaluates. -/
namespace Sys2Proof.Ranking
open Sys2Proof Sys2Proof.Machine

/-- What `seen` reads of the state that a command leaves. -/
def leaves (seen : State → Bool) : Host.Outcome State Fault Refusal → Bool
  | .next u => seen u
  | _ => false

/-- `leaves` reads the state that the command answers with. -/
theorem seen_of_leaves {seen : State → Bool} {o : Host.Outcome State Fault Refusal} {u : State} (hseen : leaves seen o = true)
    (hu : o = .next u) : seen u = true := by
  subst hu
  exact hseen

/-- The block in START with every domain released, a good timebase and the firmware ready. -/
def working : State :=
  { mode := { mode := .start }, tb := { good := true, count := 50000 },
    rst := { cold := [], held := [], coldReach := false, ring := false, needInit := false }, cmd := { fwReady := true } }

/-! ### A decision at an auto-completing far target (R214) -/

/-- Far target 1024 shows source 5 of level 3, with source 6 queued at level 2. Level 2 is in service: source 7 was taken there before
TGT_CONFIG set AUTO (R214, R216). -/
def betterLevelInService : State :=
  { working with
    src := [(5, { st := .pending, en := true, place := .presented, prio := 3, target := 1024, serving := 1024, stamp := 100 }),
            (6, { st := .pending, en := true, place := .queued, prio := 2, target := 1024, serving := 1024, stamp := 200 }),
            (7, { st := .active, en := true, taker := 1024, prio := 2, target := 1024 })],
    insts := [(0, { Inst.dflt 0 with cellsPlaced := 2 })],
    tgts := [(1024, { svc := .online, pres := some 5, queues := [(2, [6]), (3, [5])], bits := 12, counts := [(2, 1), (3, 1)],
                      far := { auto := true, inserv := 4 } })] }

/-- Level 2 has its INSERV bit set, so it withdraws nothing (R214). -/
theorem betterLevelInService_keeps :
    leaves (fun u => (u.source 5).place == .presented) (exec (.rankDecision 1024 .none) betterLevelInService) = true := by
  decide +kernel

/-- Refutes O27: the clause on far targets asks only that the offerable winner is better than the event presented. At a target with AUTO
that winner can stand at a level whose INSERV bit is 1, and R214 withdraws the ready write only for a level whose INSERV bit is 0: at
`betterLevelInService` the write stays. -/
theorem not_rankDecisionPresents : ¬ Obligations.RankDecisionPresents := by
  intro h
  obtain ⟨-, -, hfar, -⟩ := h
  have hwins : betterLevelInService.offerable 1024 = some (2, 6) := by decide +kernel
  obtain ⟨u, hu, hwithdrawing, -⟩ := hfar 1024 2 6 5 betterLevelInService (by decide) (by decide) (by decide) (by decide) (by decide)
    (by decide) (by decide) (by decide) hwins (by decide) (by decide) (by decide) (by decide) (by decide) (by decide)
  have hkept := seen_of_leaves betterLevelInService_keeps hu
  simp [hwithdrawing] at hkept

/-! ### The end of a stale sweep that frees a wait slot (R105, R273) -/

/-- VI 4 has a new generation, and its stale sweep has passed every record. Source 0x1000 of VI 0 is being withdrawn with 16 orders parked:
15 pulses, and a relay record through a page of VI 4 of the retired generation. A pulse for source 64 of the same bank waits at its port,
because no wait slot is free (R105). -/
def staleRelayParked : State :=
  { working with
    src := [(64, { en := true }), (0x1000, { st := .pending, en := true, place := .withdrawing, stamp := 100 })],
    insts := [(0, { Inst.dflt 0 with cellsPlaced := 1 }), (4, { created := true, en := true, gen := 1, oldGen := true })],
    tgts := [(0, { svc := .online, pres := some 0x1000, held := true, presLevel := 0, wdrBusy := true, queues := [(0, [0x1000])],
                   bits := 1, counts := [(0, 1)] })],
    ldg := { inst := [(0, { accepted := 1, outstanding := 1 })], block := { accepted := 1, outstanding := 1 } },
    relays := [{ cell := 523264, mid := 0, gen := false, payload := 9, origin := 0, epoch := 0 }],
    parked := (0x1000, .pulse 9 200 { owner := some 4, relay := true }) ::
      (List.range 15).map fun k => (0x1000, .pulse 0 (201 + k) { owner := some 0 }),
    waiting := [(64, .pulse 0 300 {})],
    sweeps := [{ name := .stale 4, pos := (List.range 64).map fun b => (b, 4160) }] }

/-- The relay record frees its wait slot, and the pulse enters the bank (R105). -/
theorem staleRelayParked_admits :
    leaves (fun u => u.src != staleRelayParked.src) (exec (.staleSweepComplete 4) staleRelayParked) = true := by
  decide +kernel

/-- Refutes O33: the end of a stale sweep frees the parked relay records of the retired generation (R273), and the bank that loses one
goes on (R105). At `staleRelayParked`, where no command waits, source 64 takes a pulse by it, so its record changes. -/
theorem not_sweepsCompleteAndSavesOpen : ¬ Obligations.SweepsCompleteAndSavesOpen := by
  intro h
  obtain ⟨-, hstale, -⟩ := h
  have hdone : staleRelayParked.sweepDone (.stale 4) = true := by decide +kernel
  have hended : ∀ p ∈ staleRelayParked.src, p.2.inst = (4 : Fin 512).val → p.2.place ≠ .withdrawing := by decide
  obtain ⟨u, hu, -, -, -, hsame⟩ := hstale 4 staleRelayParked hdone hended (by decide)
  have hchanged := seen_of_leaves staleRelayParked_admits hu
  obtain ⟨hsrc, -⟩ := hsame rfl
  simp [hsrc] at hchanged

/-! ### A deferred TGT_STATE and the order of issue (R313) -/

/-- TGT_STATE with TAG 7: online of target 7 (R333). -/
def onlineOf7 : Packet := { hdr := BitVec.ofNat 64 (0x29 + 7 * 2 ^ 8 + 1 * 2 ^ 31), words := [7 + 1 * 2 ^ 11] }

/-- Target 7 drains, and queue 0 runs `onlineOf7`. A LEDGER_AUDIT waits under the number that is given out next. -/
def numberTaken : State :=
  { working with
    tgts := [(7, { svc := .draining, sweep := true })],
    cmd := { fwReady := true, queues := [(0, { bindValid := true, cur := some onlineOf7 })],
             deferred := [{ id := 0, q := 0, tag := 1, opcode := 0x58, clamped := false, work := .audit }], nextId := 0 } }

/-- The younger command takes the place of the older one in the list (R313). -/
theorem numberTaken_leavesOne :
    leaves (fun u => u.cmd.deferred.length == 1) (exec (.tgtState 0) numberTaken) = true := by
  decide +kernel

/-- Refutes O52: that a deferred TGT_STATE joins the end of the list with every older command left in it needs the numbers of those
commands below the next number, and no premise says so. At `numberTaken` the command joins by its number (R313), and the older command
of that number is gone. The statement speaks of every state; commands are numbered in rising order as they are issued, so this state
breaks an invariant that the statement would have to name. -/
theorem not_targetCommands : ¬ Obligations.TargetCommands := by
  intro h
  obtain ⟨-, -, hstate⟩ := h
  have hruns : numberTaken.runs 0 0x29 onlineOf7 1 := by decide +kernel
  obtain ⟨-, honline, -⟩ := hstate 0 onlineOf7 7 numberTaken hruns (by decide) (by decide) (by decide) (by decide)
  obtain ⟨u, hu, ⟨-, hjoined⟩, -⟩ := honline (by decide) (by decide)
  have hone := seen_of_leaves numberTaken_leavesOne hu
  simp [hjoined, numberTaken] at hone

end Sys2Proof.Ranking
end

section
/-! The releases of ligature groups (R239, R241 to R243, R248, R249): what a window end leaves, the three steps of a batch, and the
claim O24. -/
namespace Sys2Proof.Ligatures
open Sys2Proof Sys2Proof.Machine Sys2Proof.SourceState

/-! ### A release of the held list (R126, R241, R243) -/

theorem takePool_snd (s : State) : s.takePool.2 = s.freePool := by
  cases h : s.freePool <;> simp [State.takePool, h]

/-- Taking a pool cell, or waiting for one, moves the marks of the pool and the count of the waits at most (R126, R379). -/
theorem takePool_fst (s : State) :
    s.takePool.1 = { s with cfg := s.takePool.1.cfg, poolTop := s.takePool.1.poolTop, relayTop := s.takePool.1.relayTop } := by
  unfold State.takePool
  split
  · dsimp only [State.useCell]
    split <;> rfl
  · rfl

/-- The group after a release with this cause and CLOSED (R241, R243). -/
def releasedGrp (c : Group) (cause closed : Nat) (batches : List Batch) : Group :=
  { c with open_ := false, count := 0, held := [], closed := if c.open_ then low31 closed else c.closed, lastSize := c.held.length,
           lastCause := cause, owed := 0, batches := batches }

theorem release_empty {s : State} {g : Nat} (h : (s.grp g).held = []) (cause closed : Nat) :
    s.release g cause closed = s.putGrp g (releasedGrp (s.grp g) cause closed (s.grp g).batches) := by
  simp [State.release, releasedGrp, h]

/-- The batch of a held list that is not empty (R241). -/
def detached (s : State) (g : Nat) : Batch :=
  { members := (s.grp g).held, gen := (s.ctx (s.grp g).inst).parity, cell := s.freePool }

theorem release_held {s : State} {g : Nat} (h : (s.grp g).held ≠ []) (cause closed : Nat) :
    s.release g cause closed =
      (s.takePool.1.putGrp g (releasedGrp (s.grp g) cause closed ((s.grp g).batches ++ [detached s g]))).sizeUp
        (s.grp g).held.length := by
  have hn : (s.grp g).held.length ≠ 0 := fun hn => h (List.length_eq_zero_iff.1 hn)
  simp only [State.release, hn, if_false, takePool_snd]
  rfl

/-- What every release leaves of its group, and all that it changes (R241, R243). -/
theorem release_leaves (s : State) (g cause closed : Nat) :
    let t := s.release g cause closed
    (∃ bs, t.grp g = releasedGrp (s.grp g) cause closed bs ∧
      ((s.grp g).held ≠ [] → bs = (s.grp g).batches ++ [detached s g]) ∧ ((s.grp g).held = [] → bs = (s.grp g).batches)) ∧
    t = { s with groups := t.groups, rcd := t.rcd, cfg := t.cfg, poolTop := t.poolTop, relayTop := t.relayTop } := by
  intro t
  by_cases h : (s.grp g).held = []
  · have ht : t = _ := release_empty h cause closed
    rw [ht]
    exact ⟨⟨_, State.grp_putGrp_same .., fun hne => absurd h hne, fun _ => rfl⟩, rfl⟩
  · have ht : t = _ := release_held h cause closed
    rw [ht]
    refine ⟨⟨_, State.grp_putGrp_same .., fun _ => rfl, fun he => absurd he h⟩, ?_⟩
    rw [takePool_fst]
    rfl

/-! ### LIG_WINDOW_END (R239) -/

theorem low31_endTick (c : Group) : low31 c.endTick = c.endTick := Nat.mod_mod ..

theorem open_of_endReached {s : State} {g : Nat} (h : s.endReached g = true) : (s.grp g).open_ = true := by
  simp only [State.endReached, Bool.and_eq_true] at h
  obtain ⟨⟨hopen, -⟩, -⟩ := h
  exact hopen

theorem exec_windowEnd {g : Fin 65536} {s : State} (hon : s.engineOn = true) (hrung : s.pwr.rung = 0)
    (hend : s.endReached g.val = true) (hscan : s.sweeping .rebuild = false) (hlist : s.listHeld g.val = false)
    (hwork : s.earlierWork g.val = false) :
    exec (.ligWindowEnd g) s = .next (s.release g.val 2 (s.grp g.val).endTick) := by
  simp [exec, execLigWindowEnd, hon, hrung, hend, hscan, hlist, hwork]

/-! ### The end of a batch and of a drain (R241, R248) -/

theorem groups_forEach {α : Type} {f : α → State → State} (hf : ∀ x s, (f x s).groups = s.groups) (l : List α) (s : State) :
    (forEach l f s).groups = s.groups := by
  induction l generalizing s with
  | nil => rfl
  | cons x l ih => exact (ih (f x s)).trans (hf x s)

theorem groups_answer (s : State) (d : Deferred) (status : Nat) (result : List (BitVec 64)) :
    (s.answer d status result).groups = s.groups := State.reply_groups ..

/-- The second reply of a deferred command, and the fences behind it, leave the groups. -/
theorem groups_second (s : State) (d : Deferred) (status : Nat) (result : List (BitVec 64)) :
    (s.second d status result).groups = s.groups := by
  refine (groups_forEach (fun x s => ?_) _ _).trans (groups_answer ..)
  split
  · split
    · rfl
    · exact groups_answer ..
  · rfl

theorem groups_objectReplies (s : State) (up down : Work) (kind obj : Nat) (result : State → List (BitVec 64)) :
    (s.objectReplies up down kind obj result).groups = s.groups := by
  refine groups_forEach (fun d s => ?_) _ _
  split
  · exact groups_second ..
  · split
    · exact groups_second ..
    · rfl

theorem grp_objectReplies (s : State) (up down : Work) (kind obj : Nat) (result : State → List (BitVec 64)) (g : Nat) :
    (s.objectReplies up down kind obj result).grp g = s.grp g := by
  rw [State.grp, groups_objectReplies, State.grp]

/-- A group that does not drain has nothing to complete (R248). -/
theorem groupDrained_of_not_draining {s : State} {g : Nat} (h : (s.grp g).drain = false) : s.groupDrained g = s := by
  simp [State.groupDrained, h]

/-- The group after the check of its drain (R248). -/
theorem grp_groupDrained (s : State) (g : Nat) :
    (s.groupDrained g).grp g =
      if (s.grp g).drain && (s.grp g).batches.isEmpty && (s.grp g).owed == 0 then { s.grp g with drain := false } else s.grp g := by
  rw [State.groupDrained]
  split
  · rw [grp_objectReplies, State.grp_putGrp_same]
  · rfl

/-- The group without its oldest batch (R241). -/
def dropBatch (c : Group) : Group := { c with batches := c.batches.drop 1 }

theorem batchEnds_of_not_draining {s : State} {g : Nat} (h : (s.grp g).drain = false) :
    s.batchEnds g = s.onGrp g dropBatch :=
  groupDrained_of_not_draining (s := s.onGrp g dropBatch) (by rw [State.grp_onGrp_same]; exact h)

theorem batches_batchEnds (s : State) (g : Nat) : ((s.batchEnds g).grp g).batches = (s.grp g).batches.drop 1 := by
  rw [State.batchEnds, grp_groupDrained, State.grp_onGrp_same]
  split <;> rfl

/-- The end of the last batch completes the drain of its group (R248). -/
theorem drain_batchEnds {s : State} {g : Nat} (hlast : (s.grp g).batches.drop 1 = []) (howed : (s.grp g).owed = 0) :
    ((s.batchEnds g).grp g).drain = false := by
  rw [State.batchEnds, grp_groupDrained, State.grp_onGrp_same]
  cases (s.grp g).drain <;> simp [hlast, howed]

/-! ### A step of the oldest batch (R126, R241, R242, R249) -/

theorem released_of_worksOn {s : State} {e : Nat} (h : s.worksOn e = true) :
    s.isHeld 5 = false ∧ s.isHeld 2 = false ∧ s.pwr.rung < 2 := by
  simp only [State.worksOn, Bool.and_eq_true, Bool.not_eq_true', decide_eq_true_eq] at h
  obtain ⟨⟨⟨h5, h2⟩, hrung⟩, -⟩ := h
  exact ⟨h5, h2, hrung⟩

theorem exec_batch {c : Fin 16} {l : List (Fin 512)} {g : Fin 65536} {b : Batch} {bs : List Batch} {s : State}
    (h5 : s.isHeld 5 = false) (h2 : s.isHeld 2 = false) (hrung : s.pwr.rung < 2) (hb : (s.grp g.val).batches = b :: bs) :
    exec (.ligBatchMemberRelease ⟨c, l, g⟩) s = .next (s.batchStep ⟨c, l, g⟩ b) := by
  have hlow : ¬ 2 ≤ s.pwr.rung := Nat.not_le.2 hrung
  simp [exec, execLigBatchMemberRelease, h5, h2, hlow, hb]

theorem batchStep_ended {s : State} {w : ByCluster (Fin 65536)} {b : Batch}
    (h : b.members = [] ∨ b.gen ≠ (s.ctx (s.grp w.item.val).inst).parity) : s.batchStep w b = s.batchEnds w.item.val := by
  by_cases hgen : b.gen = (s.ctx (s.grp w.item.val).inst).parity
  · have hmembers : b.members = [] := h.resolve_right (not_not_intro hgen)
    simp [State.batchStep, hgen, hmembers]
  · simp [State.batchStep, hgen]

section
variable {s : State} {w : ByCluster (Fin 65536)} {b : Batch} {e n : Nat} {es : List Nat}
  (hgen : b.gen = (s.ctx (s.grp w.item.val).inst).parity) (hmembers : b.members = e :: es)
  (hscan : s.awaitsScan e = false) (hworks : s.worksOn e = true)
include hgen hmembers hscan hworks

theorem batchStep_takes_cell (hcell : b.cell = none) (hfree : s.freePool = some n) :
    s.batchStep w b = s.batchCell w.item.val n := by
  simp [State.batchStep, hgen, hmembers, hscan, hworks, hcell, hfree]

theorem batchStep_releases (hcell : b.cell = some n) :
    s.batchStep w b = s.byCluster w.cluster.val w.waiting (s.grp w.item.val).inst fun u =>
      let u := u.releaseItem e (fun h => { h with moderated := false }) { moderated := true }
      if es.isEmpty then u.batchEnds w.item.val else u := by
  simp [State.batchStep, hgen, hmembers, hscan, hworks, hcell]

end

/-- The cell goes to the oldest batch, and the pool marks are all else that moves (R126). -/
theorem batchCell_leaves {s : State} {g n : Nat} {b : Batch} {bs : List Batch} (hb : (s.grp g).batches = b :: bs) :
    ((s.batchCell g n).grp g).batches = { b with cell := some n } :: bs ∧ (s.batchCell g n).src = s.src ∧
      (s.batchCell g n).tgts = s.tgts := by
  have hgrp : (s.useCell n).grp g = s.grp g ∧ (s.useCell n).src = s.src ∧ (s.useCell n).tgts = s.tgts := by
    unfold State.useCell
    split <;> exact ⟨rfl, rfl, rfl⟩
  obtain ⟨hgrp, hsrc, htgts⟩ := hgrp
  refine ⟨?_, hsrc, htgts⟩
  rw [State.batchCell, State.grp_onGrp_same, hgrp]
  simp only [hb]

/-! ### The release of a member that nothing else holds (R101, R242) -/

/-- Only its group holds the pending event of `e`: no other reason of R101 does. -/
structure HeldByGroup (s : State) (e : Nat) : Prop where
  pending : (s.source e).st = .pending
  unplaced : (s.source e).place = .unplaced
  moderated : (s.source e).held = { moderated := true }
  notFailsafe : s.mode.mode ≠ .failsafe
  notFrozen : (s.ctx (s.source e).inst).frozen = false
  notDormant : s.isDormant e {} = false
  noRate : (s.ctx (s.source e).inst).rate = 0
  inQuota : (s.ctx (s.source e).inst).cellsPlaced < (s.ctx (s.source e).inst).quota
  noQuotaList : (s.ctx (s.source e).inst).quotaList = []

/-- The group without member `e` (R125, R242). -/
def withoutMember (e : Nat) (c : Group) : Group :=
  { c with held := without e c.held, batches := c.batches.map fun b => { b with members := without e b.members } }

/-- Source `e` has left its group's list, and nothing holds it. -/
def leftGroup (s : State) (e : Nat) : State :=
  (s.onGrp (s.source e).group (withoutMember e)).putSource e { s.source e with held := {} }

@[simp] theorem leftGroup_at_source (s : State) (e : Nat) : (leftGroup s e).source e = { s.source e with held := {} } :=
  State.source_putSource_same ..

theorem leftGroup_at_source_ne (s : State) {e x : Nat} (h : x ≠ e) : (leftGroup s e).source x = s.source x :=
  State.source_putSource_ne _ _ _ h.symm

@[simp] theorem leftGroup_at_ctx (s : State) (e i : Nat) : (leftGroup s e).ctx i = s.ctx i := rfl

theorem leftGroup_isDormant (s : State) (e : Nat) : (leftGroup s e).isDormant e { moderated := true } = s.isDormant e {} := by
  simp only [State.isDormant, leftGroup_at_source]
  rfl

theorem leftGroup_at_drain (s : State) (e g : Nat) : ((leftGroup s e).grp g).drain = (s.grp g).drain := by
  rw [leftGroup, State.putSource_at_grp, State.grp_onGrp]
  split
  · next h => subst h; rfl
  · rfl

theorem held_enqueue_commit (s : State) (e : Nat) (r0 : SrcRec) :
    (((s.enqueue e).commit e r0).source e).held = (s.source e).held := by
  obtain ⟨n, hn⟩ := source_commit_same (s.enqueue e) e r0
  rw [hn]
  simp [State.enqueue]

theorem grp_enqueue_commit (s : State) (e : Nat) (r0 : SrcRec) (g : Nat) :
    ((s.enqueue e).commit e r0).grp g = s.grp g := by
  rw [State.grp, State.commit_groups]
  rfl

section
variable {s : State} {e : Nat} (h : HeldByGroup s e)
include h

theorem queueOrHold_leftGroup :
    (leftGroup s e).queueOrHold e { moderated := true } =
      ((leftGroup s e).putCtx (s.source e).inst (s.ctx (s.source e).inst)).enqueue e := by
  obtain ⟨hst, hplace, -, hsafe, hfrozen, hdormant, hrate, hquota, hlist⟩ := h
  have hq : ¬ (s.ctx (s.source e).inst).quota ≤ (s.ctx (s.source e).inst).cellsPlaced := Nat.not_le.2 hquota
  have hdorm : (leftGroup s e).isDormant e { moderated := true } = false := (leftGroup_isDormant s e).trans hdormant
  have hmode : (leftGroup s e).mode.mode ≠ .failsafe := hsafe
  simp [State.queueOrHold, State.rateOrQueue, State.onCtx, SrcRec.placed, hst, hplace, Held.any, hmode, hfrozen, hdorm, hrate, hq, hlist]

/-- The release of the member puts it in its queue, as one change of its record (R101, R242). -/
theorem releaseHeld_member :
    s.releaseHeld e (fun x => { x with moderated := false }) { moderated := true } =
      (((leftGroup s e).putCtx (s.source e).inst (s.ctx (s.source e).inst)).enqueue e).commit e (s.source e) := by
  have hunlink : (s.unlinkHeld e).onSource e (fun r => { r with held := { r.held with moderated := false } }) = leftGroup s e := by
    simp only [State.unlinkHeld, h.moderated, Held.first]
    simp [State.onSource, h.moderated, leftGroup]
    rfl
  rw [← queueOrHold_leftGroup h]
  simp [State.releaseHeld, State.releaseFrom, hunlink, Held.first, Held.any]

/-- The work item of the member: the wake comes first, and no refill is due at its stamp (R264, R433). -/
theorem releaseItem_member (hpark : s.mode.mode ≠ .park) (hrung : s.pwr.rung = 0) (hstale : s.isStale e = false)
    (hearly : s.tb.good = false ∨ (s.source e).stamp < (s.ctx (s.source e).inst).nextRefill) :
    ∃ p, s.releaseItem e (fun x => { x with moderated := false }) { moderated := true } =
      (((leftGroup (withPwr s p) e).putCtx (s.source e).inst (s.ctx (s.source e).inst)).enqueue e).commit e (s.source e) := by
  obtain ⟨p, hw⟩ := wake_rung0 hpark hrung .engineWork
  obtain ⟨hst, hplace, hheld, hsafe, hfrozen, hdormant, hrate, hquota, hlist⟩ := h
  have hu : HeldByGroup (withPwr s p) e := ⟨hst, hplace, hheld, hsafe, hfrozen, hdormant, hrate, hquota, hlist⟩
  have hs : (withPwr s p).isStale e = false := hstale
  refine ⟨p, ?_⟩
  have hrefills : (withPwr s p).dueRefills ((withPwr s p).source e).inst ((withPwr s p).source e).stamp = withPwr s p :=
    dueRefills_of_early hearly
  rw [State.releaseItem, hw, State.engineAt, if_neg (by simp [hs]), hrefills]
  exact releaseHeld_member hu

/-- What the work item of the member leaves: the event queued, one cell counted, every other record and every drain as before. -/
theorem releaseItem_leaves (hpark : s.mode.mode ≠ .park) (hrung : s.pwr.rung = 0) (hstale : s.isStale e = false)
    (hearly : s.tb.good = false ∨ (s.source e).stamp < (s.ctx (s.source e).inst).nextRefill) :
    let t := s.releaseItem e (fun x => { x with moderated := false }) { moderated := true }
    (t.source e).place = .queued ∧ (t.source e).held = {} ∧
    (t.ctx (s.source e).inst).cellsPlaced = (s.ctx (s.source e).inst).cellsPlaced + 1 ∧
    (∀ x, x ≠ e → t.source x = s.source x) ∧ ∀ g, (t.grp g).drain = (s.grp g).drain := by
  intro t
  obtain ⟨p, hp⟩ := releaseItem_member h hpark hrung hstale hearly
  obtain ⟨hplace, -, -, hcells, -, hothers⟩ := enqueue_commit_leaves
    ((leftGroup (withPwr s p) e).putCtx (s.source e).inst (s.ctx (s.source e).inst)) e (s.source e)
    (leftGroup_at_source (withPwr s p) e) rfl
  have ht : t = _ := hp
  rw [ht]
  refine ⟨hplace, ?_, hcells.trans ?_, fun x hx => (hothers x hx).trans (leftGroup_at_source_ne (withPwr s p) hx), fun g => ?_⟩
  · rw [held_enqueue_commit]
    exact congrArg SrcRec.held (leftGroup_at_source (withPwr s p) e)
  · exact congrArg (fun i : Inst => i.cellsPlaced + 1) (State.ctx_putCtx_same ..)
  · rw [grp_enqueue_commit]
    exact leftGroup_at_drain (withPwr s p) e g

end

/-! ### The claim -/

/-- Settles O24: a window end is one release of the held list; a batch ends, takes its cell, or releases its first member, which
leaves its group's list and is queued because nothing else holds it. -/
theorem groupReleases : Obligations.GroupReleases := by
  refine ⟨?windowEnd, ?notReached, ?batchEnd, ?cell, ?member, ?noBatch⟩
  case windowEnd =>
    intro g s hon hrung hend hscan hlist hwork
    obtain ⟨⟨bs, hgrp, hheld, hempty⟩, hframe⟩ := release_leaves s g.val 2 (s.grp g.val).endTick
    refine ⟨_, exec_windowEnd hon hrung hend hscan hlist hwork, ?_⟩
    rw [hgrp]
    refine ⟨rfl, rfl, rfl, rfl, rfl, ?_, fun hne => ⟨_, hheld hne, rfl, rfl⟩, hempty, hframe⟩
    simp [releasedGrp, open_of_endReached hend, low31_endTick]
  case notReached =>
    intro g s hend
    simp [exec, execLigWindowEnd, hend]
  case batchEnd =>
    intro c l g b bs s h5 h2 hrung hb hended
    refine ⟨_, (exec_batch h5 h2 hrung hb).trans (congrArg _ (batchStep_ended hended)), ?_, fun hdrain => ?_, fun _ hbs howed => ?_⟩
    · rw [batches_batchEnds, hb]; rfl
    · rw [batchEnds_of_not_draining hdrain]
      exact ⟨rfl, rfl⟩
    · exact drain_batchEnds (by rw [hb, hbs]; rfl) howed
  case cell =>
    intro c l g b bs e n es s h5 h2 hrung hworks hb hmembers hcell hfree hgen hscan
    exact ⟨_, (exec_batch h5 h2 hrung hb).trans (congrArg _ (batchStep_takes_cell hgen hmembers hscan hworks hcell hfree)),
      batchCell_leaves hb⟩
  case member =>
    intro c l g b bs e n es s hpark hsafe hrung hworks hpicks hb hmembers hcell hgen hscan hstale hearly hst hplace hheld _
      hfrozen hdormant hrate hquota hlist hdrain
    have hu : HeldByGroup (turned s c.val l (s.grp g.val).inst) e :=
      ⟨hst, hplace, hheld, hsafe, hfrozen, hdormant, hrate, hquota, hlist⟩
    obtain ⟨hqueued, hnone, hcells, hothers, hdrains⟩ := releaseItem_leaves hu hpark hrung hstale hearly
    obtain ⟨h5, h2, hlow⟩ := released_of_worksOn hworks
    have hrun := (exec_batch (c := c) (l := l) h5 h2 hlow hb).trans
      (congrArg _ (batchStep_releases hgen hmembers hscan hworks hcell))
    rw [byCluster_of_picks hpicks] at hrun
    refine ⟨_, hrun, ?_⟩
    dsimp only
    split
    · rw [batchEnds_of_not_draining ((hdrains g.val).trans hdrain)]
      exact ⟨hqueued, hnone, hcells, hothers⟩
    · exact ⟨hqueued, hnone, hcells, hothers⟩
  case noBatch =>
    intro c l g s hb
    simp [exec, execLigBatchMemberRelease, hb]

end Sys2Proof.Ligatures
end
